-- ==== Sys2Proof/Word.lean ====
section
/-! DEFINITION. The words of the part: bytes and generation numbers. -/

namespace Sys2Proof

/-- One byte of a cell (section 11.5). -/
abbrev Byte := BitVec 8

/-- A generation number: 16 bits, compared only for equality (R171). -/
abbrev Gen := BitVec 16

end Sys2Proof
end

