-- ==== Sys2Proof/Config.lean ====
section
/-! DEFINITION. What is fixed for the part, and the free values that the spec leaves open. -/

namespace Sys2Proof.Config

/-- The number of cells of the image memory (section 5.6). -/
def poolCells : Nat := 65536

/-- Most cells in one page's cell list (R96). -/
def maxCellList : Nat := 4096

/-- The greatest value of a lane's position counter, 2^47 - 1 (R22). -/
def counterMax : Nat := 140737488355327

/-- One past the last seq a lane issues, 2^32 (R38). -/
def seqEnd : Nat := 4294967296

/-- The retry wait in ms (R39). -/
def retryWaitMs : Nat := 200

/-- The pause timer in ms (R160). -/
def pauseMs : Nat := 2000

/-- The wait that makes a lane's stall raw true, in ms (R147). -/
def stallMs : Nat := 2000

/-- The duration of the bank copy in ms (R181). -/
def bankCopyMs : Nat := 4

/-- FREE VALUE (log 7). When several lanes compete inside one act, "which of the two is taken first is
not fixed" (R5, R106, R154). The draw numbered `n` is this constant applied to `n`; it has no body, so no
proof can know it. The lane taken is the one at this index, modulo the number of candidates. -/
opaque freeIndex : Nat → Nat

/-- How many sub-acts one act may hold before the model gives up following it (log 5). -/
def actFuel : Nat := 1000000

end Sys2Proof.Config
end

