-- ==== Sys2Proof/Syntax.lean ====
section
/-! DEFINITION. The commands of the part: one constructor for each row of spec/opcode_table.json. -/

namespace Sys2Proof

/-- Lanes are numbered 0-5 (section 3.2 of 00_scope). -/
abbrev LaneId := Fin 6

/-- Destination channels by index: A1 is 0, B8 is 15 (section 3.2 of 00_scope). -/
abbrev ChanId := Fin 16

/-- The two trunks. -/
inductive Trunk where
  | a
  | b
deriving DecidableEq, Repr

/-- The eight cell links: six head ports and two trunk ports (chapter 11). -/
inductive Port where
  | head (l : LaneId)
  | trunk (t : Trunk)
deriving DecidableEq, Repr

/-- The steps of the part. The table gives no operand fields: the operands are those that the rule of the
row names (log 3). A request's operands stand in the request cell (REQUEST); the rows that carry a request
out take them from the queue, as R185 says. -/
inductive Instr where
  /-- POWER_ON (R191). -/
  | powerOn
  /-- RESET_PIN (R191). -/
  | resetPin
  /-- SIGNAL_DETECTED on a port (R198). -/
  | signalDetected (p : Port)
  /-- LOSS_OF_SIGNAL on a port (R198). -/
  | lossOfSignal (p : Port)
  /-- IDLE_CELL_RECEIVED: a valid IDLE cell (R198). -/
  | idleCellReceived (p : Port)
  /-- BAD_CELL_RECEIVED: a received cell that is not valid (R199). -/
  | badCellReceived (p : Port)
  /-- CELL_DISCARDED: a valid cell of a kind that the port does not deliver (R201). -/
  | cellDiscarded (p : Port)
  /-- DATA from the head of a lane (R96). -/
  | data (l : LaneId) (token : Byte) (payload : List Byte)
  /-- CLOSE from the head of a lane: mark, blank, and the ticket or its absence (R98). -/
  | close (l : LaneId) (token : Byte) (mark : BitVec 4) (blank : Bool) (ticket : Option (List Byte))
  /-- ABORT from the head of a lane (R99). -/
  | abort (l : LaneId) (token : Byte)
  /-- REQUEST on channel 0 of a trunk: kind code, tag and operand bytes (R184). -/
  | request (t : Trunk) (kind tag : Byte) (payload : List Byte)
  /-- PAUSE on for a channel number of the trunk (R160). -/
  | pauseOn (t : Trunk) (channel : Byte)
  /-- PAUSE off for a channel number of the trunk (R160). -/
  | pauseOff (t : Trunk) (channel : Byte)
  /-- The MGE carries out a TABLE_LOAD (R173). -/
  | tableLoad
  /-- The MGE carries out a TABLE_COMMIT (R175). -/
  | tableCommit
  /-- The MGE carries out a TABLE_READ (R182). -/
  | tableRead
  /-- The MGE carries out a LANE_START (R27). -/
  | laneStart
  /-- The MGE carries out a LANE_STOP (R28). -/
  | laneStop
  /-- The MGE carries out a LANE_HALT (R29). -/
  | laneHalt
  /-- The MGE carries out a LANE_CLEAR (R49). -/
  | laneClear
  /-- The MGE carries out a PAGE_RESOLVE with action ACCEPT (R114). -/
  | pageResolveAccept
  /-- The MGE carries out a PAGE_RESOLVE with action DROP (R115). -/
  | pageResolveDrop
  /-- The MGE carries out a PAGE_RESOLVE with action RESCAN (R117). -/
  | pageResolveRescan
  /-- The MGE carries out a SLOT_CANCEL (R123). -/
  | slotCancel
  /-- The MGE carries out a STATUS_READ (R190). -/
  | statusRead
  /-- The MGE carries out a PART_RESET of kind FULL (R191). -/
  | partResetFull
  /-- The MGE carries out a PART_RESET of kind LINE (R191). -/
  | partResetLine
  /-- The MGE carries out an EVENT_SET (R194). -/
  | eventSet
  /-- The MGE carries out an EVENT_CLEAR (R195). -/
  | eventClear
  /-- The MGE carries out a request whose kind code is 13-255 (R186). -/
  | unknownRequest
  /-- ENCODER_FORWARD_STEP of a lane, with the ultrasonic amplitude at the new position (R23, R69). -/
  | encoderForwardStep (l : LaneId) (amplitude : BitVec 10)
  /-- ENCODER_REVERSE_STEP of a lane (R22). -/
  | encoderReverseStep (l : LaneId)
  /-- ENTRY_SENSOR_CHANGE: the level the entry sensor now has (R24). -/
  | entrySensorChange (l : LaneId) (blocked : Bool)
  /-- TRAY_SENSOR_CHANGE: the level the tray sensor now has (R37). -/
  | traySensorChange (l : LaneId) (paper : Bool)
  /-- SPEED_CONTROL_PERIOD of a lane (R57). -/
  | speedControlPeriod (l : LaneId)
  /-- MISFEED_TIMER_EXPIRY of a lane (R39). -/
  | misfeedTimerExpiry (l : LaneId)
  /-- RETRY_WAIT_END of a lane (R40). -/
  | retryWaitEnd (l : LaneId)
  /-- RUNOUT_TIMER_EXPIRY of a lane (R32). -/
  | runoutTimerExpiry (l : LaneId)
  /-- IMAGE_TIMER_EXPIRY of the page a token names (R100). -/
  | imageTimerExpiry (token : Byte)
  /-- PAUSE_TIMER_EXPIRY of a destination channel (R161). -/
  | pauseTimerExpiry (c : ChanId)
  /-- WAIT_TIMER_EXPIRY of a lane's sequencer (R147). -/
  | waitTimerExpiry (l : LaneId)
  /-- BANK_COPY_COMPLETE (R181). -/
  | bankCopyComplete
  /-- CHANNEL_CELL_SENT on a trunk (R164). -/
  | channelCellSent (t : Trunk)
  /-- REPLY_SENT on a trunk (R187). -/
  | replySent (t : Trunk)
  /-- REPORT_SENT on a trunk (R196). -/
  | reportSent (t : Trunk)
  /-- HEAD_CELL_SENT on the head port of a lane (R91). -/
  | headCellSent (l : LaneId)
deriving DecidableEq, Repr

end Sys2Proof
end

