-- ==== Sys2Proof/Decode.lean ====
section
/-! DEFINITION. The command that a word of bits spells. No row of spec/opcode_table.json gives bits (every
row's "fields" is empty), so no word spells a command (log 27). A cell's bytes are classified into a
command by Machine/Cells.lean. -/

namespace Sys2Proof

/-- The command that `nbits` bits of `w` spell by the table's bits: none, as the table gives none. -/
def decodeTableWord (_nbits _w : Nat) : Option Instr := none

end Sys2Proof
end

