-- ==== Sys2Proof/Machine/Bytes.lean ====
section
/-! DEFINITION. How numbers stand in bytes: least significant byte first (R202). -/

namespace Sys2Proof.Machine

/-- The `n` low bytes of `v`, least significant first (R202, Integers). -/
def le : Nat → Nat → List Byte
  | 0, _ => []
  | n + 1, v => BitVec.ofNat 8 v :: le n (v / 256)

/-- `v` in `n` bytes, stopping at the field's greatest value (R202, Saturation). -/
def leSat (n v : Nat) : List Byte := le n (min v (256 ^ n - 1))

/-- A position in 48-bit two's complement (R202, Integers). -/
def le48 (x : Int) : List Byte := le 6 (x % 281474976710656).toNat

/-- The number that bytes spell, least significant first. -/
def ofLe : List Byte → Nat
  | [] => 0
  | b :: bs => b.toNat + 256 * ofLe bs

/-- The number in the `n` bytes from offset `at_` on. -/
def field (bs : List Byte) (at_ n : Nat) : Nat := ofLe ((bs.drop at_).take n)

/-- One bit of the byte at an offset. -/
def flagAt (bs : List Byte) (at_ bit : Nat) : Bool := (field bs at_ 1).testBit bit

/-- A yes or no as a byte. -/
def byteOf (b : Bool) : List Byte := [if b then 1 else 0]

/-- Bit `i` set when the item is present (R202, Sets). -/
def bitOf (b : Bool) (i : Nat) : Nat := if b then 2 ^ i else 0

/-- A presence byte, then the value's bytes, 0 when absent (R202, Absent values). -/
def optBytes (n : Nat) : Option Nat → List Byte
  | some v => 1 :: le n v
  | none => 0 :: le n 0

/-- A list: a count byte, then the entries (R202, Lists). -/
def listBytes (entries : List (List Byte)) : List Byte :=
  leSat 1 entries.length ++ entries.flatten

/-- `bs` filled with zero bytes up to `n` bytes. -/
def padTo (n : Nat) (bs : List Byte) : List Byte := (bs ++ List.replicate (n - bs.length) 0).take n

/-- A ticket: presence, length and 24 bytes (status records of section 11.5). -/
def ticketBytes : Option (List Byte) → List Byte
  | some t => 1 :: (leSat 1 t.length ++ padTo 24 t)
  | none => 0 :: (le 1 0 ++ padTo 24 [])

end Sys2Proof.Machine
end

