-- ==== Sys2Proof/Machine/Tables.lean ====
section
/-! DEFINITION. The six tables: their records, the zeroed bank, loading with clamping, validation of a
commit, and the byte layouts of the records (R172, R174, R175, section 11.5). -/

namespace Sys2Proof.Machine

/-- PASS, HOLD or STOP: a profile's policy and a page's action (R17). -/
inductive Action where
  | pass
  | hold
  | stop
deriving DecidableEq, Repr

/-- An entry of a mark map (R135). -/
inductive MarkAction where
  | ignore
  | sepKeep
  | sepDrop
  | ticketKeep
  | ticketDrop
  | classKeep (c : Fin 32)
  | classDrop (c : Fin 32)
deriving DecidableEq, Repr

/-- A profile's split field (R139). -/
inductive Split where
  | mark
  | count (n : Nat)
  | ticket
deriving DecidableEq, Repr

/-- A mask zone [start, stop) in millimetres (section 4.2). -/
structure Zone where
  start : Nat
  stop : Nat
deriving DecidableEq, Repr

/-- The LANE record (section 2.1). -/
structure LaneRec where
  enabled : Bool
  sonicEnabled : Bool
  autostop : Bool
  group : Fin 3
  pitch : Nat
  dSonic : Nat
  dImage : Nat
  dExit : Nat
  gapMm : Nat
  pickToEntry : Nat
  pickRetries : Nat
  holdLimit : Nat
  pickReserve : Nat
  profile : Fin 16
  reverseLimit : Nat
  runoutMs : Nat
  imageTimeout : Nat
deriving DecidableEq, Repr

/-- The GROUP record (section 3.1). -/
structure GroupRec where
  targetSpeed : Nat
  throttleSpeed : Nat
  slopeMs : Nat
deriving DecidableEq, Repr

/-- The PROFILE record (section 4.2). -/
structure ProfileRec where
  lenMin : Nat
  lenMax : Nat
  tThick : Nat
  hyst : Nat
  minRun : Nat
  zones : List Zone
  polDouble : Action
  polLong : Action
  polShort : Action
  polUnverified : Action
  polTruncated : Action
  markmap : Fin 4
  defaultClass : Fin 32
  split : Split
  blankDrop : Bool
deriving DecidableEq, Repr

/-- The CLASS record (R144). -/
structure ClassRec where
  enabled : Bool
  primary : ChanId
  mirror : Option ChanId
  maxDocPages : Nat
deriving DecidableEq, Repr

/-- The CHANNEL record (section 8.1). -/
structure ChannelRec where
  enabled : Bool
  limit : Nat
  full : Nat
  near : Nat
  ease : Nat
deriving DecidableEq, Repr

/-- One full set of the six tables (R171). -/
structure Tables where
  lane : Vector LaneRec 6
  group : Vector GroupRec 3
  profile : Vector ProfileRec 16
  markmap : Vector (Vector MarkAction 15) 4
  cls : Vector ClassRec 32
  channel : Vector ChannelRec 16
deriving DecidableEq, Repr

/-- The six tables by name, in the order of R175 and of the table codes (section 11.4). -/
inductive TableId where
  | lane
  | group
  | profile
  | markmap
  | cls
  | channel
deriving DecidableEq, Repr

/-! ### The zeroed bank (R172) -/

def LaneRec.zeroed : LaneRec :=
  ⟨false, false, false, 0, 64, 8, 9, 10, 10, 50, 0, 1, 0, 0, 5, 500, 50⟩

def GroupRec.zeroed : GroupRec := ⟨100, 100, 0⟩

def ProfileRec.zeroed : ProfileRec :=
  ⟨50, 50, 1, 0, 1, [], .pass, .pass, .pass, .pass, .pass, 0, 0, .mark, false⟩

def ClassRec.zeroed : ClassRec := ⟨false, 0, none, 1⟩

def ChannelRec.zeroed : ChannelRec := ⟨false, 64, 2, 2, 1⟩

/-- A zeroed bank: every record of every table at the values of R172. -/
def Tables.zeroed : Tables where
  lane := Vector.replicate 6 LaneRec.zeroed
  group := Vector.replicate 3 GroupRec.zeroed
  profile := Vector.replicate 16 ProfileRec.zeroed
  markmap := Vector.replicate 4 (Vector.replicate 15 .ignore)
  cls := Vector.replicate 32 ClassRec.zeroed
  channel := Vector.replicate 16 ChannelRec.zeroed

/-! ### Loading: clamping and coded fields (R174) -/

/-- A numeric field brought into its range (R174). -/
def clamp (lo hi v : Nat) : Nat := max lo (min v hi)

/-- An entry number brought into 0-`n` (R174). -/
def clampIndex (n v : Nat) : Fin (n + 1) := ⟨min v n, by omega⟩

/-- slope_ms: the greatest of the six values not above the one given (R174). -/
def clampSlope (v : Nat) : Nat :=
  if 800 ≤ v then 800 else if 400 ≤ v then 400 else if 200 ≤ v then 200
  else if 100 ≤ v then 100 else if 50 ≤ v then 50 else 0

/-- Whether any field was changed: pairs of the value carried and the value written. -/
def anyChanged (pairs : List (Nat × Nat)) : Bool := pairs.any fun p => p.1 != p.2

def actionOfCode : Nat → Option Action
  | 0 => some .pass
  | 1 => some .hold
  | 2 => some .stop
  | _ => none

def Action.code : Action → Nat
  | .pass => 0
  | .hold => 1
  | .stop => 2

/-- A LANE record as TABLE_LOAD carries it, with whether it was clamped. -/
def LaneRec.load (bs : List Byte) : LaneRec × Bool :=
  let raw (at_ n : Nat) := field bs at_ n
  let pitch := clamp 64 511 (raw 2 2)
  let dSonic := clamp 8 200 (raw 4 2)
  let dImage := clamp 9 400 (raw 6 2)
  let dExit := clamp 10 1000 (raw 8 2)
  let gapMm := clamp 10 200 (raw 10 1)
  let pickToEntry := clamp 50 2000 (raw 11 2)
  let pickRetries := clamp 0 3 (raw 13 1)
  let holdLimit := clamp 1 4 (raw 14 1)
  let pickReserve := clamp 0 8192 (raw 15 2)
  let reverseLimit := clamp 5 50 (raw 18 1)
  let runoutMs := clamp 500 10000 (raw 19 2)
  let imageTimeout := clamp 50 5000 (raw 21 2)
  (⟨flagAt bs 0 0, flagAt bs 0 1, flagAt bs 0 2, clampIndex 2 (raw 1 1), pitch, dSonic, dImage, dExit,
      gapMm, pickToEntry, pickRetries, holdLimit, pickReserve, clampIndex 15 (raw 17 1), reverseLimit,
      runoutMs, imageTimeout⟩,
    anyChanged [(raw 1 1, min (raw 1 1) 2), (raw 2 2, pitch), (raw 4 2, dSonic), (raw 6 2, dImage),
      (raw 8 2, dExit), (raw 10 1, gapMm), (raw 11 2, pickToEntry), (raw 13 1, pickRetries),
      (raw 14 1, holdLimit), (raw 15 2, pickReserve), (raw 17 1, min (raw 17 1) 15),
      (raw 18 1, reverseLimit), (raw 19 2, runoutMs), (raw 21 2, imageTimeout)])

/-- A GROUP record as TABLE_LOAD carries it. -/
def GroupRec.load (bs : List Byte) : GroupRec × Bool :=
  let target := clamp 100 1500 (field bs 0 2)
  let throttle := clamp 100 1500 (field bs 2 2)
  let slope := clampSlope (field bs 4 2)
  (⟨target, throttle, slope⟩,
    anyChanged [(field bs 0 2, target), (field bs 2 2, throttle), (field bs 4 2, slope)])

/-- The `i`-th mask zone of a PROFILE record. -/
def loadZone (bs : List Byte) (i : Nat) : Zone × Bool :=
  let start := clamp 0 999 (field bs (8 + 4 * i) 2)
  let stop := clamp 1 1000 (field bs (10 + 4 * i) 2)
  (⟨start, stop⟩, anyChanged [(field bs (8 + 4 * i) 2, start), (field bs (10 + 4 * i) 2, stop)])

/-- The mask zones of a PROFILE record: the zone count is a coded field 0, 1 or 2 (R174); the bytes of a
zone beyond the count are not read (log 17). -/
def loadZones (bs : List Byte) : Option (List (Zone × Bool)) :=
  match field bs 7 1 with
  | 0 => some []
  | 1 => some [loadZone bs 0]
  | 2 => some [loadZone bs 0, loadZone bs 1]
  | _ => none

/-- The split of a PROFILE record; its n counts only under COUNT (R174, log 17). -/
def loadSplit (bs : List Byte) : Option (Split × Bool) :=
  match field bs 23 1 with
  | 0 => some (.mark, false)
  | 1 => some (.count (clamp 1 4095 (field bs 24 2)), field bs 24 2 != clamp 1 4095 (field bs 24 2))
  | 2 => some (.ticket, false)
  | _ => none

/-- KEEP or DROP (section 11.4). -/
def loadBlank (bs : List Byte) : Option Bool :=
  match field bs 26 1 with
  | 0 => some false
  | 1 => some true
  | _ => none

/-- A PROFILE record as TABLE_LOAD carries it; none when a coded field names no code. -/
def ProfileRec.load (bs : List Byte) : Option (ProfileRec × Bool) := do
  let zones ← loadZones bs
  let polDouble ← actionOfCode (field bs 16 1)
  let polLong ← actionOfCode (field bs 17 1)
  let polShort ← actionOfCode (field bs 18 1)
  let polUnverified ← actionOfCode (field bs 19 1)
  let polTruncated ← actionOfCode (field bs 20 1)
  let split ← loadSplit bs
  let blankDrop ← loadBlank bs
  let lenMin := clamp 50 1000 (field bs 0 2)
  let lenMax := clamp 50 1000 (field bs 2 2)
  let tThick := clamp 1 254 (field bs 4 1)
  let hyst := clamp 0 63 (field bs 5 1)
  let minRun := clamp 1 255 (field bs 6 1)
  return (⟨lenMin, lenMax, tThick, hyst, minRun, zones.map (·.1), polDouble, polLong, polShort,
      polUnverified, polTruncated, clampIndex 3 (field bs 21 1), clampIndex 31 (field bs 22 1), split.1,
      blankDrop⟩,
    anyChanged [(field bs 0 2, lenMin), (field bs 2 2, lenMax), (field bs 4 1, tThick),
      (field bs 5 1, hyst), (field bs 6 1, minRun), (field bs 21 1, min (field bs 21 1) 3),
      (field bs 22 1, min (field bs 22 1) 31)] || zones.any (·.2) || split.2)

/-- One entry of a mark map: an action code and a class, which counts only for a CLASS action. -/
def loadMark (bs : List Byte) (i : Nat) : Option (MarkAction × Bool) :=
  let c := field bs (2 * i + 1) 1
  match field bs (2 * i) 1 with
  | 0 => some (.ignore, false)
  | 1 => some (.sepKeep, false)
  | 2 => some (.sepDrop, false)
  | 3 => some (.ticketKeep, false)
  | 4 => some (.ticketDrop, false)
  | 5 => some (.classKeep (clampIndex 31 c), c != min c 31)
  | 6 => some (.classDrop (clampIndex 31 c), c != min c 31)
  | _ => none

/-- A whole mark map as TABLE_LOAD carries it; none when an action names no code. -/
def loadMarkMap (bs : List Byte) : Option (Vector MarkAction 15 × Bool) := do
  let entries ← (List.range 15).mapM (loadMark bs)
  return (Vector.ofFn fun i => (entries.map (·.1)).getD i.val .ignore, entries.any (·.2))

/-- A CLASS record as TABLE_LOAD carries it; an absent mirror's byte is not read (log 17). -/
def ClassRec.load (bs : List Byte) : ClassRec × Bool :=
  let mirrored := flagAt bs 0 1
  let docPages := clamp 1 4095 (field bs 3 2)
  (⟨flagAt bs 0 0, clampIndex 15 (field bs 1 1),
      if mirrored then some (clampIndex 15 (field bs 2 1)) else none, docPages⟩,
    anyChanged [(field bs 1 1, min (field bs 1 1) 15), (field bs 3 2, docPages)]
      || (mirrored && field bs 2 1 != min (field bs 2 1) 15))

/-- A CHANNEL record as TABLE_LOAD carries it. -/
def ChannelRec.load (bs : List Byte) : ChannelRec × Bool :=
  let limit := clamp 64 65536 (field bs 1 4)
  let full := clamp 2 65536 (field bs 5 4)
  let near := clamp 2 65536 (field bs 9 4)
  let ease := clamp 1 65535 (field bs 13 4)
  (⟨flagAt bs 0 0, limit, full, near, ease⟩,
    anyChanged [(field bs 1 4, limit), (field bs 5 4, full), (field bs 9 4, near), (field bs 13 4, ease)])

/-! ### Table codes, sizes and whole-table access -/

def tableOfCode : Nat → Option TableId
  | 0 => some .lane
  | 1 => some .group
  | 2 => some .profile
  | 3 => some .markmap
  | 4 => some .cls
  | 5 => some .channel
  | _ => none

def TableId.code : TableId → Nat
  | .lane => 0
  | .group => 1
  | .profile => 2
  | .markmap => 3
  | .cls => 4
  | .channel => 5

/-- The number of entries of a table (R173). -/
def TableId.entries : TableId → Nat
  | .lane => 6
  | .group => 3
  | .profile => 16
  | .markmap => 4
  | .cls => 32
  | .channel => 16

/-- The length of a table's record in bytes (section 11.5). -/
def TableId.recordLength : TableId → Nat
  | .lane => 24
  | .group => 6
  | .profile => 28
  | .markmap => 30
  | .cls => 6
  | .channel => 20

/-- Write the record `bs` into entry `i` of a table: the new tables and whether a field was clamped; none
when a coded field names no code or the entry does not exist (R173, R174). -/
def Tables.load (t : Tables) (id : TableId) (i : Nat) (bs : List Byte) : Option (Tables × Bool) :=
  match id with
  | .lane =>
    if h : i < 6 then some ({ t with lane := t.lane.set i (LaneRec.load bs).1 h }, (LaneRec.load bs).2)
    else none
  | .group =>
    if h : i < 3 then some ({ t with group := t.group.set i (GroupRec.load bs).1 h }, (GroupRec.load bs).2)
    else none
  | .profile =>
    if h : i < 16 then
      (ProfileRec.load bs).map fun r => ({ t with profile := t.profile.set i r.1 h }, r.2)
    else none
  | .markmap =>
    if h : i < 4 then
      (loadMarkMap bs).map fun r => ({ t with markmap := t.markmap.set i r.1 h }, r.2)
    else none
  | .cls =>
    if h : i < 32 then some ({ t with cls := t.cls.set i (ClassRec.load bs).1 h }, (ClassRec.load bs).2)
    else none
  | .channel =>
    if h : i < 16 then
      some ({ t with channel := t.channel.set i (ChannelRec.load bs).1 h }, (ChannelRec.load bs).2)
    else none

/-! ### The bytes of a record (section 11.5) -/

def LaneRec.bytes (r : LaneRec) : List Byte :=
  le 1 (bitOf r.enabled 0 + bitOf r.sonicEnabled 1 + bitOf r.autostop 2) ++ le 1 r.group.val
    ++ le 2 r.pitch ++ le 2 r.dSonic ++ le 2 r.dImage ++ le 2 r.dExit ++ le 1 r.gapMm
    ++ le 2 r.pickToEntry ++ le 1 r.pickRetries ++ le 1 r.holdLimit ++ le 2 r.pickReserve
    ++ le 1 r.profile.val ++ le 1 r.reverseLimit ++ le 2 r.runoutMs ++ le 2 r.imageTimeout ++ le 1 0

def GroupRec.bytes (r : GroupRec) : List Byte :=
  le 2 r.targetSpeed ++ le 2 r.throttleSpeed ++ le 2 r.slopeMs

/-- A mask zone's four bytes, 0 when the record has no such zone. -/
def zoneBytes (zones : List Zone) (i : Nat) : List Byte :=
  match zones[i]? with
  | some z => le 2 z.start ++ le 2 z.stop
  | none => le 4 0

def Split.bytes : Split → List Byte
  | .mark => le 1 0 ++ le 2 0
  | .count n => le 1 1 ++ le 2 n
  | .ticket => le 1 2 ++ le 2 0

def ProfileRec.bytes (r : ProfileRec) : List Byte :=
  le 2 r.lenMin ++ le 2 r.lenMax ++ le 1 r.tThick ++ le 1 r.hyst ++ le 1 r.minRun
    ++ le 1 r.zones.length ++ zoneBytes r.zones 0 ++ zoneBytes r.zones 1
    ++ le 1 r.polDouble.code ++ le 1 r.polLong.code ++ le 1 r.polShort.code
    ++ le 1 r.polUnverified.code ++ le 1 r.polTruncated.code
    ++ le 1 r.markmap.val ++ le 1 r.defaultClass.val ++ r.split.bytes ++ byteOf r.blankDrop ++ le 1 0

def MarkAction.bytes : MarkAction → List Byte
  | .ignore => [0, 0]
  | .sepKeep => [1, 0]
  | .sepDrop => [2, 0]
  | .ticketKeep => [3, 0]
  | .ticketDrop => [4, 0]
  | .classKeep c => 5 :: le 1 c.val
  | .classDrop c => 6 :: le 1 c.val

def ClassRec.bytes (r : ClassRec) : List Byte :=
  le 1 (bitOf r.enabled 0 + bitOf r.mirror.isSome 1) ++ le 1 r.primary.val
    ++ le 1 ((r.mirror.map (·.val)).getD 0) ++ le 2 r.maxDocPages ++ le 1 0

def ChannelRec.bytes (r : ChannelRec) : List Byte :=
  le 1 (bitOf r.enabled 0) ++ le 4 r.limit ++ le 4 r.full ++ le 4 r.near ++ le 4 r.ease ++ le 3 0

/-- The bytes of entry `i` of a table; none when the table has no such entry (R182). -/
def Tables.recordBytes (t : Tables) (id : TableId) (i : Nat) : Option (List Byte) :=
  match id with
  | .lane => t.lane[i]?.map LaneRec.bytes
  | .group => t.group[i]?.map GroupRec.bytes
  | .profile => t.profile[i]?.map ProfileRec.bytes
  | .markmap => t.markmap[i]?.map fun m => (m.toList.map MarkAction.bytes).flatten
  | .cls => t.cls[i]?.map ClassRec.bytes
  | .channel => t.channel[i]?.map ChannelRec.bytes

/-! ### Validation of a commit (R175) -/

def LaneRec.valid (r : LaneRec) : Bool :=
  !r.enabled || (decide (r.dSonic < r.dImage) && decide (r.dImage < r.dExit))

def GroupRec.valid (r : GroupRec) : Bool := decide (r.throttleSpeed ≤ r.targetSpeed)

/-- Each mask zone has start < end, and with two the first ends at or before the second begins. -/
def zonesOrdered : List Zone → Bool
  | [] => true
  | [z] => decide (z.start < z.stop)
  | z :: w :: rest => decide (z.start < z.stop) && decide (z.stop ≤ w.start) && zonesOrdered (w :: rest)

def ProfileRec.valid (classes : Vector ClassRec 32) (r : ProfileRec) : Bool :=
  decide (r.lenMin ≤ r.lenMax) && zonesOrdered r.zones && classes[r.defaultClass].enabled

def MarkAction.valid (classes : Vector ClassRec 32) : MarkAction → Bool
  | .classKeep c => classes[c].enabled
  | .classDrop c => classes[c].enabled
  | _ => true

def ClassRec.valid (r : ClassRec) : Bool := r.mirror != some r.primary

def ChannelRec.valid (r : ChannelRec) : Bool :=
  !r.enabled || (decide (r.ease < r.near) && decide (r.near ≤ r.full) && decide (r.full ≤ r.limit))

/-- The index of the first record that breaks its rule. -/
def firstBad {α : Type} (ok : α → Bool) (rs : List α) : Option Nat := rs.findIdx? fun r => !ok r

/-- The table and index of the first record that breaks a rule, in the order of R175. -/
def Tables.fault (t : Tables) : Option (TableId × Nat) :=
  ((firstBad LaneRec.valid t.lane.toList).map (TableId.lane, ·))
  <|> ((firstBad GroupRec.valid t.group.toList).map (TableId.group, ·))
  <|> ((firstBad (ProfileRec.valid t.cls) t.profile.toList).map (TableId.profile, ·))
  <|> ((firstBad (fun m => m.toList.all (MarkAction.valid t.cls)) t.markmap.toList).map (TableId.markmap, ·))
  <|> ((firstBad ClassRec.valid t.cls.toList).map (TableId.cls, ·))
  <|> ((firstBad ChannelRec.valid t.channel.toList).map (TableId.channel, ·))

end Sys2Proof.Machine
end

