-- ==== Sys2Proof/Machine/State.lean ====
section
/-! DEFINITION. The state of the part, as plain data, and its value after reset. INVENTORY.md lists every
field with the rule that names it. -/

namespace Sys2Proof.Machine

/-! ### The page table (chapter 1) -/

/-- A sequence position, ordered by seq and then by sub (section 3.5 of 00_scope). -/
structure SeqPos where
  seq : Nat
  sub : Nat
deriving DecidableEq, Repr

/-- The state of a non-FREE page record (R6). -/
inductive PageState where
  | picked
  | inPath
  | ready
  | held
  | queued
deriving DecidableEq, Repr

/-- The sonic field of a page record (section 1.2). -/
inductive Sonic where
  | pending
  | done (maxRun thickCount : Nat)
  | unverified
deriving DecidableEq, Repr

/-- The image field of a page record (R92). -/
inductive Image where
  | notOpen
  | opened
  | closed
deriving DecidableEq, Repr

/-- The close information (section 1.2); the ticket may be absent within it. -/
structure CloseInfo where
  mark : BitVec 4
  blank : Bool
  ticket : Option (List Byte)
deriving DecidableEq, Repr

/-- The flags of a page, in the order of section 11.4. -/
structure PageFlags where
  lost : Bool
  truncated : Bool
  double : Bool
  long : Bool
  short : Bool
  unverified : Bool
  accepted : Bool
deriving DecidableEq, Repr

/-- The verdict of a page, in the order of section 11.4. -/
inductive Verdict where
  | clean
  | unverified
  | short
  | long
  | double
  | truncated
  | lost
deriving DecidableEq, Repr

/-- Why a page is HELD (R18, R19). -/
inductive HoldReason where
  | verdict
  | jam
deriving DecidableEq, Repr

/-- The release information the sequencer writes (R143). -/
structure ReleaseInfo where
  batch : Nat
  document : Nat
  page : Nat
  cls : Fin 32
  firstOfDocument : Bool
  firstOfBatch : Bool
deriving DecidableEq, Repr

/-- A page record (section 1.2), with the page's image timer (R94). The token is computed (R1). -/
structure Page where
  lane : LaneId
  state : PageState
  pos : SeqPos
  genPick : Gen
  attempts : Nat
  lead : Option Nat
  trail : Option Nat
  lengthMm : Option Nat
  sonic : Sonic
  image : Image
  cells : List Nat
  close : Option CloseInfo
  flags : PageFlags
  verdict : Option Verdict
  action : Option Action
  holdReason : Option HoldReason
  release : Option ReleaseInfo
  copies : Nat
  imageTimer : Option Nat
deriving DecidableEq, Repr

/-- One of the 64 entries: its incarnation, and its record unless it is FREE (R1, R2). -/
structure Entry where
  incarnation : Nat
  page : Option Page
deriving DecidableEq, Repr

/-! ### Lanes (chapters 2, 3, 4, 6 and 7) -/

/-- The nine lane states (R25). -/
inductive LaneState where
  | off
  | idle
  | rampUp
  | feeding
  | holding
  | retryWait
  | runout
  | rampDown
  | jammed
deriving DecidableEq, Repr

/-- The jam causes (R47). -/
inductive JamCause where
  | dwell
  | reverse
  | overrun
  | positionLimit
  | runoutTimeout
  | halt
deriving DecidableEq, Repr

/-- The gap state (R36); `since p` is FROM(p). -/
inductive GapState where
  | clear
  | wait
  | since (p : Nat)
deriving DecidableEq, Repr

/-- The gate progress of a sheet (R45). -/
inductive GateProgress where
  | none
  | opened
  | closed
deriving DecidableEq, Repr

/-- A sheet record of a path list, with the values copied from its gen_pick (R45, R179). -/
structure Sheet where
  token : Nat
  genPick : Gen
  pitch : Nat
  dImage : Nat
  dExit : Nat
  pickToEntry : Nat
  pickRetries : Nat
  imageTimeout : Nat
  lenMax : Nat
  lead : Option Nat
  trail : Option Nat
  gate : GateProgress
deriving DecidableEq, Repr

/-- A running speed ramp: S0, E1, k and slope_ms (R56). -/
structure Ramp where
  origin : Nat
  target : Nat
  elapsed : Nat
  slope : Nat
deriving DecidableEq, Repr

/-- The calibration of a lane (R67). -/
inductive Calibration where
  | none
  | running (count sum : Nat)
  | done
deriving DecidableEq, Repr

/-- A window record of the DFM (R67, R68); `offS` is off(d_sonic_mm) with the copied pitch. -/
structure Window where
  token : Nat
  lead : Nat
  pitch : Nat
  offS : Nat
  sonicEnabled : Bool
  lenMin : Nat
  lenMax : Nat
  tThick : Nat
  hyst : Nat
  minRun : Nat
  zones : List Zone
  trail : Option Nat
  samples : Option Nat
  next : Nat
  thick : Bool
  run : Nat
  maxRun : Nat
  thickCount : Nat
  void : Bool
  zoneStart : Nat
  zoneEnd : Option Nat
deriving DecidableEq, Repr

/-- The state of a lane's double-feed monitor (R67); `degraded` is the sonic state. -/
structure Dfm where
  degraded : Bool
  calibration : Calibration
  b16 : Nat
  bref16 : Nat
  badAir : Nat
  gridOrigin : Nat
  gridNext : Nat
  windows : List Window
  driftRaw : Bool
deriving DecidableEq, Repr

/-- IDLE or WAITING(token) (R133). -/
inductive SeqState where
  | idle
  | waiting (token : Nat)
deriving DecidableEq, Repr

/-- The batch context of a lane's sequencer (R132). The wait timer is stopped, or runs with its elapsed ms. -/
structure Batch where
  number : Nat
  lastTicket : Option (List Byte)
  document : Nat
  page : Nat
  cls : Fin 32
  startDoc : Bool
  firstOfBatch : Bool
  opened : Bool
  seqState : SeqState
  waitTimer : Option Nat
  stallRaw : Bool
deriving DecidableEq, Repr

/-- One lane: transport (chapter 2), speed (chapter 3), monitor (chapter 4), slots (chapter 6) and
sequencer (chapter 7), with the levels of its input pins. A timer is stopped, or holds the ms left. -/
structure Lane where
  state : LaneState
  gen : Gen
  adopted : Bool
  /-- the model's own (log 39): from step 1 of the lane's adoption to step 6 (R178), the generation it leaves, from
  which the in-use sets and QUEUE_FULL still take its group and class; its target is left as it is as long; none
  at all other times -/
  adoptingFrom : Option Gen
  counter : Int
  high : Nat
  lastSensor : Bool
  entryBlocked : Bool
  trayPaper : Bool
  amplitude : BitVec 10
  clutchPulses : Nat
  gap : GapState
  trayEmpty : Bool
  path : List Sheet
  sensor : Option Nat
  nextSeq : Nat
  slots : List SeqPos
  loan : Option SeqPos
  misfeedTimer : Option Nat
  retryWait : Option Nat
  runoutTimer : Option Nat
  lastJam : Option JamCause
  speed : Nat
  target : Nat
  ramp : Option Ramp
  dfm : Dfm
  batch : Batch
deriving DecidableEq, Repr

/-! ### Ports, channels and the pool (chapters 5, 8 and 11) -/

/-- The state of a link (R198). -/
inductive LinkState where
  | down
  | training
  | up
deriving DecidableEq, Repr

/-- A port's link: state, valid-IDLE run, bad-cell run and receive error count (R198, R199). -/
structure Link where
  state : LinkState
  idleRun : Nat
  badRun : Nat
  errors : Nat
deriving DecidableEq, Repr

/-- The cells the part sends to a head (section 5.1). -/
inductive HeadKind where
  | gateOpen
  | gateClose
  | cancel
deriving DecidableEq, Repr

/-- A cell handed to a head link. -/
structure HeadCell where
  kind : HeadKind
  token : Nat
deriving DecidableEq, Repr

/-- A head port; the first cell of `txQueue` is the one being sent (R91). -/
structure HeadPort where
  link : Link
  staleCount : Nat
  txQueue : List HeadCell
deriving DecidableEq, Repr

/-- A cell the part sends on a trunk: header fields, the kind-specific bytes 6-13 and the payload
(section 11.5). The CRC is computed (R199). -/
structure OutCell where
  kind : Byte
  channel : Nat
  token : Nat
  endMark : Bool
  special : List Byte
  payload : List Byte
deriving DecidableEq, Repr

/-- What a trunk is sending: a reply, the report of a class, or a cell of a channel; `live` is false once a
line reset has freed the page (R200). -/
inductive TxOwner where
  | reply
  | report (cls : Fin 20)
  | channel (c : ChanId) (live : Bool)
deriving DecidableEq, Repr

/-- The cell that occupies a trunk's transmit path (R162, R200). -/
structure TxCell where
  owner : TxOwner
  cell : OutCell
deriving DecidableEq, Repr

/-- A request in a request queue: kind code, tag and operand bytes (R184). -/
structure Request where
  kind : Byte
  tag : Byte
  payload : List Byte
deriving DecidableEq, Repr

/-- The reply statuses, in the order of section 11.4. -/
inductive Status where
  | ok
  | clamped
  | busy
  | pending
  | invalid (table index : Nat)
  | range
  | state
  | notHeld
  | slotRange
  | noSlot
  | unknown
deriving DecidableEq, Repr

/-- The two kinds of PART_RESET (R191). -/
inductive ResetKind where
  | full
  | line
deriving DecidableEq, Repr

/-- A reply of the MGE (R186); `reset` is the reset that takes effect when it has gone out (R191). -/
structure Reply where
  kind : Byte
  tag : Byte
  status : Status
  record : List Byte
  reset : Option ResetKind
deriving DecidableEq, Repr

/-- A trunk port. -/
structure TrunkPort where
  link : Link
  hasBeenUp : Bool
  tx : Option TxCell
  /-- the round-robin pointer: `rr` stands for channel number `rr + 1` (R163) -/
  rr : Fin 8
  requests : List Request
  discards : Nat
  reply : Option Reply
deriving DecidableEq, Repr

/-- A page copy in an egress queue (R152). -/
structure Copy where
  token : Nat
  size : Nat
  sent : Nat
deriving DecidableEq, Repr

/-- The fill state of a channel (R157). -/
inductive FillState where
  | opened
  | near
  | full
deriving DecidableEq, Repr

/-- A destination channel; it is paused exactly while its pause timer runs (R160, R161). -/
structure Channel where
  queue : List Copy
  fillState : FillState
  pauseTimer : Option Nat
deriving DecidableEq, Repr

/-- A run of consecutive pool cells of the free list. -/
structure CellRun where
  first : Nat
  count : Nat
deriving DecidableEq, Repr

/-- The pool's free list, oldest freed first (R104), as maximal runs of consecutive cells. -/
abbrev FreeList := List CellRun

/-- The pool's content: (cell index, bytes), indices strictly rising, no entry without bytes. A cell that
is not listed holds no bytes (log 11). -/
abbrev Memory := List (Nat × List Byte)

/-! ### Banks, management and events (chapters 9 and 10) -/

/-- The role of the bank that is not ACTIVE (R171); a RETIRED bank is the target of the bank copy in
flight, with the ms the copy still takes. -/
inductive OtherRole where
  | pending (gen : Gen)
  | shadow
  | retired (left : Nat)
deriving DecidableEq, Repr

/-- The reset cause (R191). -/
inductive ResetCause where
  | powerOn
  | pin
  | requestFull
  | requestLine
deriving DecidableEq, Repr

/-- The state of an event class (R192). Bit i of a set stands for source i. -/
structure EventState where
  raw : BitVec 16
  latch : Bool
  sources : BitVec 16
  count : Nat
  enabled : Bool
  priority : Fin 4
  reportPending : Bool
deriving DecidableEq, Repr

/-- The whole state of the part, and the queue of the commands that wait. -/
structure State where
  pending : List Instr
  resetCause : ResetCause
  freeDraws : Nat
  entries : Vector Entry 64
  lanes : Vector Lane 6
  heads : Vector HeadPort 6
  pool : FreeList
  mem : Memory
  channels : Vector Channel 16
  channelGen : Gen
  trunkA : TrunkPort
  trunkB : TrunkPort
  banks : Vector Tables 2
  activeBank : Fin 2
  activeGen : Gen
  otherRole : OtherRole
  genCounter : Gen
  lastServed : Trunk
  mgmtTrunk : Trunk
  events : Vector EventState 20
deriving DecidableEq, Repr

/-- Why a command could stop the part: the spec names no such case, so there is no fault. -/
inductive Fault where
deriving DecidableEq, Repr

/-- Why the model could refuse a command. -/
inductive Refusal where
  /-- Raised by exec's arm of a command that has no meaning yet; safe, since the model stops where the
  hardware goes on. No arm of this model raises it. -/
  | notModelled (mnemonic : String)
deriving DecidableEq, Repr

/-! ### The values after a hard reset -/

/-- No flag present (section 1.2, at allocation). -/
def PageFlags.empty : PageFlags := ⟨false, false, false, false, false, false, false⟩

/-- R90. -/
def Dfm.reset : Dfm := ⟨false, .none, 0, 0, 0, 0, 1, [], false⟩

/-- R150, with class 0, the default class of generation 0. -/
def Batch.reset : Batch := ⟨0, none, 0, 0, 0, true, true, false, .idle, none, false⟩

/-- R51, R65, R90, R131, R150, R172; the pins' levels are log 10's. -/
def Lane.reset : Lane where
  state := .off
  gen := 0
  adopted := false
  adoptingFrom := none
  counter := 0
  high := 0
  lastSensor := false
  entryBlocked := false
  trayPaper := false
  amplitude := 0
  clutchPulses := 0
  gap := .clear
  trayEmpty := false
  path := []
  sensor := none
  nextSeq := 0
  slots := []
  loan := none
  misfeedTimer := none
  retryWait := none
  runoutTimer := none
  lastJam := none
  speed := 0
  target := 0
  ramp := none
  dfm := Dfm.reset
  batch := Batch.reset

/-- R198, R199: DOWN, both runs 0, no error counted. -/
def Link.reset : Link := ⟨.down, 0, 0, 0⟩

/-- R110. -/
def HeadPort.reset : HeadPort := ⟨Link.reset, 0, []⟩

/-- R170, R192, R197. -/
def TrunkPort.reset : TrunkPort := ⟨Link.reset, false, none, 0, [], 0, none⟩

/-- R170. -/
def Channel.reset : Channel := ⟨[], .opened, none⟩

/-- R197: mask enabled, priority 1, all else clear. -/
def EventState.reset : EventState := ⟨0, false, 0, 0, true, 1, false⟩

/-- R197: PART_RESET is set with source set {part}, count 1 and report-pending yes. -/
def EventState.resetLatched : EventState := ⟨0, true, 1, 1, true, 1, true⟩

/-- The pool's free list after a reset: all 65,536 cells in ascending index order (R110). -/
def FreeList.whole : FreeList := [⟨0, Config.poolCells⟩]

/-- The part right after power-on (R2, R14, R51, R65, R90, R110, R131, R150, R170, R172, R191, R197,
R198), with no command waiting. -/
def State.reset : State where
  pending := []
  resetCause := .powerOn
  freeDraws := 0
  entries := Vector.replicate 64 ⟨0, none⟩
  lanes := Vector.replicate 6 Lane.reset
  heads := Vector.replicate 6 HeadPort.reset
  pool := FreeList.whole
  mem := []
  channels := Vector.replicate 16 Channel.reset
  channelGen := 0
  trunkA := TrunkPort.reset
  trunkB := TrunkPort.reset
  banks := Vector.replicate 2 Tables.zeroed
  activeBank := 0
  activeGen := 0
  otherRole := .shadow
  genCounter := 0
  lastServed := .b
  mgmtTrunk := .a
  events := (Vector.replicate 20 EventState.reset).set 19 EventState.resetLatched

end Sys2Proof.Machine
end

