-- ==== Sys2Proof/Machine/Ops.lean ====
section
/-! DEFINITION. The named operations over the state: accessors, the table lookups, the Event Reporter's
latch, the page table's entries, the cell pool and its memory. -/

namespace Sys2Proof.Machine

/-! ### Accessors -/

/-- The six lanes in ascending order. -/
@[irreducible] def allLanes : List LaneId := [0, 1, 2, 3, 4, 5]

/-- The sixteen destination channels in index order. -/
@[irreducible] def allChans : List ChanId := [0, 1, 2, 3, 4, 5, 6, 7, 8, 9, 10, 11, 12, 13, 14, 15]

/-- The 64 entry indices in ascending order. -/
@[irreducible] def allEntries : List (Fin 64) := List.finRange 64

def State.lane (s : State) (l : LaneId) : Lane := s.lanes[l]

def State.setLane (s : State) (l : LaneId) (x : Lane) : State := { s with lanes := s.lanes.set l x }

def State.modLane (s : State) (l : LaneId) (f : Lane → Lane) : State := s.setLane l (f (s.lane l))

def State.modDfm (s : State) (l : LaneId) (f : Dfm → Dfm) : State :=
  s.modLane l fun x => { x with dfm := f x.dfm }

def State.modBatch (s : State) (l : LaneId) (f : Batch → Batch) : State :=
  s.modLane l fun x => { x with batch := f x.batch }

def State.head (s : State) (l : LaneId) : HeadPort := s.heads[l]

def State.setHead (s : State) (l : LaneId) (x : HeadPort) : State := { s with heads := s.heads.set l x }

def State.chan (s : State) (c : ChanId) : Channel := s.channels[c]

def State.setChan (s : State) (c : ChanId) (x : Channel) : State :=
  { s with channels := s.channels.set c x }

def State.trunk (s : State) : Trunk → TrunkPort
  | .a => s.trunkA
  | .b => s.trunkB

def State.setTrunk (s : State) (t : Trunk) (x : TrunkPort) : State :=
  match t with
  | .a => { s with trunkA := x }
  | .b => { s with trunkB := x }

def otherTrunk : Trunk → Trunk
  | .a => .b
  | .b => .a

/-- Trunks are 0 for A and 1 for B (section 11.4). -/
def trunkIndex : Trunk → Nat
  | .a => 0
  | .b => 1

def State.link (s : State) : Port → Link
  | .head l => (s.head l).link
  | .trunk t => (s.trunk t).link

def State.setLink (s : State) (p : Port) (x : Link) : State :=
  match p with
  | .head l => s.setHead l { s.head l with link := x }
  | .trunk t => s.setTrunk t { s.trunk t with link := x }

/-- Whether a port's link is UP. -/
def State.linkUp (s : State) (p : Port) : Bool := (s.link p).state == .up

def State.entry (s : State) (i : Fin 64) : Entry := s.entries[i]

def State.setEntry (s : State) (i : Fin 64) (x : Entry) : State := { s with entries := s.entries.set i x }

def State.pageAt (s : State) (i : Fin 64) : Option Page := (s.entry i).page

/-- Change the record of a non-FREE entry; a FREE entry is left as it is (R3). -/
def State.modPage (s : State) (i : Fin 64) (f : Page → Page) : State :=
  s.setEntry i { s.entry i with page := (s.entry i).page.map f }

/-! ### Free values -/

/-- A lane out of several that compete: the free value decides (R5, R106, R154; log 7). With one
candidate there is nothing to decide and no draw is made. -/
def State.takeOne (s : State) (first : LaneId) (others : List LaneId) : LaneId × State :=
  match others with
  | [] => (first, s)
  | _ => ((first :: others).getD (Config.freeIndex s.freeDraws % (others.length + 1)) first,
          { s with freeDraws := s.freeDraws + 1 })

/-! ### Tables (R21, R52, R151, R171) -/

/-- PENDING's generation while a bank is PENDING. -/
def State.pendingGen (s : State) : Option Gen :=
  match s.otherRole with
  | .pending g => some g
  | .shadow => none
  | .retired _ => none

/-- Whether a bank copy is in flight: exactly while a bank is RETIRED (R171, R181). -/
def State.copying (s : State) : Bool :=
  match s.otherRole with
  | .retired _ => true
  | .shadow => false
  | .pending _ => false

/-- The bank that is not ACTIVE. -/
def State.otherBank (s : State) : Fin 2 := if s.activeBank = 0 then 1 else 0

/-- The tables of a generation: PENDING's bank for PENDING's number, while a bank is RETIRED that bank for a
number that is not ACTIVE's, else the ACTIVE bank. At most these generations are referenced (R171); a RETIRED
bank's only in the act of its retirement, by a lane that is still adopting (R63, R180; log 39). -/
def State.tablesOf (s : State) (g : Gen) : Tables :=
  if s.pendingGen = some g ∨ (s.copying = true ∧ g ≠ s.activeGen) then s.banks[s.otherBank]
  else s.banks[s.activeBank]

/-- The tables of a lane's generation in use. -/
def State.laneTables (s : State) (l : LaneId) : Tables := s.tablesOf (s.lane l).gen

/-- A lane's LANE record in its generation in use. -/
def State.laneRec (s : State) (l : LaneId) : LaneRec := (s.laneTables l).lane[l]

/-- The generation from which the FGC's in-use sets and QUEUE_FULL take a lane's group and class: its
generation in use, but during its adoption the one it is leaving, since they are recomputed at step 6 of R178
(R63; log 39). -/
def State.feedGen (s : State) (l : LaneId) : Gen := (s.lane l).adoptingFrom.getD (s.lane l).gen

/-- The tables of that generation. -/
def State.feedTables (s : State) (l : LaneId) : Tables := s.tablesOf (s.feedGen l)

/-- The group whose in-use set a lane shares (R53, R54). -/
def State.groupOf (s : State) (l : LaneId) : Fin 3 := ((s.feedTables l).lane[l]).group

/-- A lane's GROUP record in its generation in use (R52). -/
def State.groupRec (s : State) (l : LaneId) : GroupRec := (s.laneTables l).group[(s.laneRec l).group]

/-- A lane's PROFILE record in its generation in use (R132). -/
def State.profileRec (s : State) (l : LaneId) : ProfileRec :=
  (s.laneTables l).profile[(s.laneRec l).profile]

/-- A CLASS record in a lane's generation in use (R144). -/
def State.classRec (s : State) (l : LaneId) (c : Fin 32) : ClassRec := (s.laneTables l).cls[c]

/-- A CHANNEL record in the channel generation (R151). -/
def State.channelRec (s : State) (c : ChanId) : ChannelRec := (s.tablesOf s.channelGen).channel[c]

/-- The LANE and PROFILE records of a page, in the bank of its gen_pick (R17, R21). -/
def State.pickLaneRec (s : State) (l : LaneId) (g : Gen) : LaneRec := (s.tablesOf g).lane[l]

def State.pickProfileRec (s : State) (l : LaneId) (g : Gen) : ProfileRec :=
  (s.tablesOf g).profile[(s.pickLaneRec l g).profile]

/-- The offset in counts of a distance in mm: floor(m × pitch_eighths / 8) (section 3.3 of 00_scope). -/
def off (mm pitch : Nat) : Nat := mm * pitch / 8

/-! ### Event classes (section 10.6) -/

namespace Ev

def laneJammed : Fin 20 := 0
def feedFailure : Fin 20 := 1
def pageHeld : Fin 20 := 2
def laneIdle : Fin 20 := 3
def sonicDegraded : Fin 20 := 4
def sonicDrift : Fin 20 := 5
def headDown : Fin 20 := 6
def imageTruncated : Fin 20 := 7
def staleCell : Fin 20 := 8
def releaseStall : Fin 20 := 9
def batchNew : Fin 20 := 10
def ticketRepeat : Fin 20 := 11
def docSplitForced : Fin 20 := 12
def channelNear : Fin 20 := 13
def channelFull : Fin 20 := 14
def pauseExpired : Fin 20 := 15
def trunkDown : Fin 20 := 16
def tablesAdopted : Fin 20 := 17
def tablesReady : Fin 20 := 18
def partReset : Fin 20 := 19

/-- The level classes; all others are pulse classes. -/
def level (c : Fin 20) : Bool :=
  c == sonicDegraded || c == sonicDrift || c == headDown || c == releaseStall || c == channelNear
    || c == channelFull || c == trunkDown

/-- How many sources a class has: six lanes, sixteen channels, two trunks or the part. -/
def sourceCount (c : Fin 20) : Nat :=
  if c.val ≤ 12 then 6 else if c.val ≤ 15 then 16 else if c.val = 16 then 2 else 1

end Ev

def State.event (s : State) (c : Fin 20) : EventState := s.events[c]

def State.setEvent (s : State) (c : Fin 20) (x : EventState) : State := { s with events := s.events.set c x }

/-- One bit of a source set. -/
def sourceBit (src : Nat) : BitVec 16 := 1#16 <<< src

/-- An occurrence of a class at a source (R193); report-pending becomes yes when the mask is enabled and
either the latch was clear or the source was not in the set. -/
def EventState.occur (e : EventState) (src : Nat) : EventState :=
  { e with
    latch := true
    sources := e.sources ||| sourceBit src
    count := min 255 (e.count + 1)
    reportPending := e.reportPending || (e.enabled && (!e.latch || !e.sources.getLsbD src)) }

/-- Hand an occurrence to the Event Reporter; a source outside the class's sources never enters its
sets (R192, R193). -/
def State.occur (s : State) (c : Fin 20) (src : Nat) : State :=
  if src < Ev.sourceCount c then s.setEvent c ((s.event c).occur src) else s

/-- Hand a raw level of a level class to the Event Reporter: a rise is an occurrence, a fall only leaves the
raw set, and an unchanged level does nothing (R192, R193). -/
def State.setRaw (s : State) (c : Fin 20) (src : Nat) (level : Bool) : State :=
  if Ev.sourceCount c ≤ src then s
  else if (s.event c).raw.getLsbD src = level then s
  else if level then
    s.setEvent c ({ s.event c with raw := (s.event c).raw ||| sourceBit src }.occur src)
  else s.setEvent c { s.event c with raw := (s.event c).raw &&& ~~~ sourceBit src }

/-! ### Tokens, counts and entries of the page table (chapter 1) -/

/-- The token of the page in an entry: 64 × incarnation + index (R1). -/
def State.tokenOf (s : State) (i : Fin 64) : Nat := 64 * (s.entry i).incarnation + i.val

/-- The entry index a token names: token - 64 × floor(token / 64) (R1). -/
def tokenIndex (token : Nat) : Fin 64 := ⟨token % 64, by omega⟩

/-- The entry a live token names; none when the token is stale (R1). -/
def State.live (s : State) (token : Nat) : Option (Fin 64 × Page) :=
  match (s.entry (tokenIndex token)).page with
  | some p =>
    if (s.entry (tokenIndex token)).incarnation = token / 64 then some (tokenIndex token, p) else none
  | none => none

/-- A page is counted when its record has the property (section 1.6). -/
def State.countPages (s : State) (f : Page → Bool) : Nat :=
  s.entries.toList.countP fun e => e.page.any f

/-- The part's non-FREE count (R10). -/
def State.nonFree (s : State) : Nat := s.countPages fun _ => true

/-- A lane's non-FREE count (R10). -/
def State.laneNonFree (s : State) (l : LaneId) : Nat := s.countPages fun p => p.lane == l

/-- A lane's HELD count (R11). -/
def State.heldCount (s : State) (l : LaneId) : Nat :=
  s.countPages fun p => p.lane == l && p.state == .held

/-- The page has not been judged: it holds its generation (R12). -/
def Page.unjudged (p : Page) : Bool := p.state == .picked || p.state == .inPath

/-- The number of PICKED and IN_PATH pages with a gen_pick (R12). -/
def State.refCount (s : State) (g : Gen) : Nat := s.countPages fun p => p.unjudged && p.genPick == g

/-- The FREE entry with the lowest index (R4). -/
def State.lowestFree (s : State) : Option (Fin 64) := allEntries.find? fun i => (s.pageAt i).isNone

/-- The lane's PICKED page: a lane has at most one (R35, R121). -/
def State.pickedEntry (s : State) (l : LaneId) : Option (Fin 64) :=
  allEntries.find? fun i => (s.pageAt i).any fun p => p.lane == l && p.state == .picked

/-- Where an allocation request from a lane would be granted: the lowest FREE entry, while the lane has
fewer than 24 non-FREE pages (R4). -/
def State.grantedEntry (s : State) (l : LaneId) : Option (Fin 64) :=
  if s.laneNonFree l < 24 then s.lowestFree else none

/-- The record at allocation (section 1.2): PICKED for a pick, IN_PATH with DOUBLE and its lead for an
unexpected sheet. -/
def Page.allocated (l : LaneId) (pos : SeqPos) (g : Gen) (edge : Option Nat) : Page where
  lane := l
  state := if edge.isSome then .inPath else .picked
  pos := pos
  genPick := g
  attempts := 1
  lead := edge
  trail := none
  lengthMm := none
  sonic := .pending
  image := .notOpen
  cells := []
  close := none
  flags := { PageFlags.empty with double := edge.isSome }
  verdict := none
  action := none
  holdReason := none
  release := none
  copies := 0
  imageTimer := none

/-! ### The cell pool (section 5.6) -/

/-- The length of the free list (R104). -/
def FreeList.size : FreeList → Nat
  | [] => 0
  | r :: rs => r.count + FreeList.size rs

/-- The cell at the head of the free list, and the rest (R104, R106); none when the pool is empty. -/
def FreeList.take? : FreeList → Option (Nat × FreeList)
  | [] => none
  | r :: rs =>
    if r.count ≤ 1 then some (r.first, rs) else some (r.first, ⟨r.first + 1, r.count - 1⟩ :: rs)

/-- A freed cell joins at the tail (R104). -/
def FreeList.append (c : Nat) : FreeList → FreeList
  | [] => [⟨c, 1⟩]
  | [r] => if r.first + r.count = c then [⟨r.first, r.count + 1⟩] else [r, ⟨c, 1⟩]
  | r :: r' :: rs => r :: FreeList.append c (r' :: rs)

/-- A whole cell list joins at the tail, in cell-list order (R107). -/
def FreeList.appendAll (free : FreeList) (cells : List Nat) : FreeList :=
  cells.foldl (fun f c => FreeList.append c f) free

/-- The cells of the free list in order: what the runs stand for. -/
def FreeList.cells : FreeList → List Nat
  | [] => []
  | r :: rs => List.range' r.first r.count ++ FreeList.cells rs

/-- The runs are maximal and none is empty, so that equal free lists are equal data. -/
def FreeList.wf : FreeList → Bool
  | [] => true
  | [r] => decide (0 < r.count)
  | r :: r' :: rs => decide (0 < r.count) && decide (r.first + r.count ≠ r'.first) && FreeList.wf (r' :: rs)

/-- The indices rise strictly from `lo` on and every listed cell holds bytes. -/
def Memory.wfFrom : Nat → Memory → Bool
  | _, [] => true
  | lo, (a, bs) :: rest => decide (lo ≤ a) && !bs.isEmpty && Memory.wfFrom (a + 1) rest

/-- The canonical form of the pool's content. -/
def Memory.wf (m : Memory) : Bool := Memory.wfFrom 0 m

/-- The bytes of a cell; an unlisted cell holds none (log 11). -/
def Memory.read : Memory → Nat → List Byte
  | [], _ => []
  | (a, bs) :: rest, c => if a = c then bs else Memory.read rest c

/-- Write a cell's bytes (R96, R105), keeping the canonical form. -/
def Memory.write (c : Nat) (bytes : List Byte) : Memory → Memory
  | [] => if bytes.isEmpty then [] else [(c, bytes)]
  | (a, bs) :: rest =>
    if c < a then (if bytes.isEmpty then (a, bs) :: rest else (c, bytes) :: (a, bs) :: rest)
    else if c = a then (if bytes.isEmpty then rest else (c, bytes) :: rest)
    else (a, bs) :: Memory.write c bytes rest

/-- Free an entry, in the page table's own part of the act (R2, R8, R107): the cells return to the pool,
the record is cleared and the incarnation advances. -/
def State.freeEntry (s : State) (i : Fin 64) : State :=
  match s.pageAt i with
  | some p =>
    { s.setEntry i ⟨((s.entry i).incarnation + 1) % 4, none⟩ with
      pool := FreeList.appendAll s.pool p.cells }
  | none => s

end Sys2Proof.Machine
end

