-- ==== Sys2Proof/Machine/Flags.lean ====
section
/-! DEFINITION. The conditions that the part computes and does not keep: verdict and action, the in-use
channel sets, target speeds, holding reasons, fill states, the drift level, the release head. -/

namespace Sys2Proof.Machine

/-! ### Verdict and action (R17) -/

/-- The highest-ranking flag present (R17). -/
def PageFlags.verdict (f : PageFlags) : Verdict :=
  if f.lost then .lost
  else if f.truncated then .truncated
  else if f.double then .double
  else if f.long then .long
  else if f.short then .short
  else if f.unverified then .unverified
  else .clean

/-- The more severe of two actions: STOP over HOLD over PASS (R17). -/
def Action.worse : Action → Action → Action
  | .stop, _ => .stop
  | _, .stop => .stop
  | .hold, _ => .hold
  | _, .hold => .hold
  | .pass, .pass => .pass

/-- The policy of a flag that is present; PASS for one that is not. -/
def policyOf (present : Bool) (policy : Action) : Action := if present then policy else .pass

/-- The most severe policy of all ranked flags present; LOST's policy is HOLD (R17). -/
def PageFlags.action (f : PageFlags) (r : ProfileRec) : Action :=
  [policyOf f.lost .hold, policyOf f.truncated r.polTruncated, policyOf f.double r.polDouble,
    policyOf f.long r.polLong, policyOf f.short r.polShort,
    policyOf f.unverified r.polUnverified].foldl Action.worse .pass

/-- The three parts of R15 are complete. -/
def Page.complete (p : Page) : Bool := p.lengthMm.isSome && p.sonic != .pending && p.image == .closed

/-! ### Lane states (R25) -/

/-- The moving states (R25). -/
def LaneState.moving : LaneState → Bool
  | .rampUp => true
  | .feeding => true
  | .holding => true
  | .retryWait => true
  | .runout => true
  | .rampDown => true
  | .off => false
  | .idle => false
  | .jammed => false

/-- The states in which the belt is given the group speed (R25, R55). -/
def LaneState.driven : LaneState → Bool
  | .rampUp => true
  | .feeding => true
  | .holding => true
  | .retryWait => true
  | .runout => true
  | .rampDown => false
  | .off => false
  | .idle => false
  | .jammed => false

/-- OFF and IDLE (R53). -/
def LaneState.resting : LaneState → Bool
  | .off => true
  | .idle => true
  | .rampUp => false
  | .feeding => false
  | .holding => false
  | .retryWait => false
  | .runout => false
  | .rampDown => false
  | .jammed => false

/-- The states from which a lane can be sent to RUNOUT (R31). -/
def LaneState.stoppable : LaneState → Bool
  | .rampUp => true
  | .feeding => true
  | .holding => true
  | .retryWait => true
  | .runout => false
  | .rampDown => false
  | .off => false
  | .idle => false
  | .jammed => false

/-- The lane is enabled in its generation in use. -/
def State.laneEnabled (s : State) (l : LaneId) : Bool := (s.laneRec l).enabled

/-! ### In-use sets, targets and speed (R53-R62) -/

/-- The destination channels a CLASS record names (R144). -/
def ClassRec.channels (r : ClassRec) : List ChanId := r.primary :: r.mirror.toList

/-- The channels of a lane's current class, as the FGC reads its CLASS record (R53). -/
def State.classChannels (s : State) (l : LaneId) : List ChanId :=
  ((s.feedTables l).cls[(s.lane l).batch.cls]).channels

/-- The in-use channel set of a group, with repetitions (R53). -/
def State.inUse (s : State) (g : Fin 3) : List ChanId :=
  (allLanes.filter fun l => s.groupOf l == g && !(s.lane l).state.resting).flatMap
    fun l => s.classChannels l

/-- Some channel of the set of lane `l`'s group is NEAR or FULL (R55, R64). -/
def State.nearInUse (s : State) (l : LaneId) : Bool :=
  (s.inUse (s.groupOf l)).any fun c => (s.chan c).fillState != .opened

/-- Some channel of the set of lane `l`'s group is FULL (R54, R64). -/
def State.fullInUse (s : State) (l : LaneId) : Bool :=
  (s.inUse (s.groupOf l)).any fun c => (s.chan c).fillState == .full

/-- The target speed E of a lane (R55). -/
def State.targetOf (s : State) (l : LaneId) : Nat :=
  if (s.lane l).state.driven then
    if s.nearInUse l then (s.groupRec l).throttleSpeed else (s.groupRec l).targetSpeed
  else 0

/-- The motor code of a speed (R62). -/
def motorCode (speed : Nat) : Nat := (speed * 8190 + 1500) / 3000

/-- The speed has reached its target (R59). -/
def Lane.speedReached (x : Lane) : Bool := x.ramp.isNone && x.speed == x.target

/-- The speed of a ramp after `k` periods (R57). -/
def Ramp.speedAt (r : Ramp) (k : Nat) : Nat :=
  ((r.origin : Int) + Int.tdiv (((r.target : Int) - r.origin) * k) r.slope).toNat

/-- R30 counts the calibration finished unless a run of a GOOD lane is in progress (R75, R76, R88). -/
def Dfm.calibrationFinished (d : Dfm) : Bool :=
  match d.calibration with
  | .running _ _ => d.degraded
  | .none => true
  | .done => true

/-- The lane is calibrated (R67). -/
def Dfm.calibrated (d : Dfm) : Bool :=
  match d.calibration with
  | .done => true
  | .none => false
  | .running _ _ => false

/-- A run in progress ends without success (R76). -/
def Dfm.endRun (d : Dfm) : Dfm :=
  match d.calibration with
  | .running _ _ => { d with calibration := .none }
  | .none => d
  | .done => d

/-- The drift level (R80). -/
def Dfm.drift (d : Dfm) : Bool :=
  d.calibrated && !d.degraded && decide (d.bref16 / 8 < ((d.b16 : Int) - d.bref16).natAbs)

/-! ### Holding reasons (R34) -/

/-- The members of a holding-reason set, in the order of section 11.4. -/
structure Holding where
  holdLimit : Bool
  queueFull : Bool
  tableFull : Bool
  poolLow : Bool
  trayEmpty : Bool
  seqLimit : Bool
deriving DecidableEq, Repr

/-- A lane's holding-reason set: each reason is in it exactly while its condition holds (R34). -/
def State.holding (s : State) (l : LaneId) : Holding where
  holdLimit := decide ((s.laneRec l).holdLimit ≤ s.heldCount l)
  queueFull := s.fullInUse l
  tableFull := s.lowestFree.isNone || decide (24 ≤ s.laneNonFree l)
  poolLow := decide (FreeList.size s.pool < (s.laneRec l).pickReserve)
  trayEmpty := (s.lane l).trayEmpty
  seqLimit := decide (Config.seqEnd ≤ (s.lane l).nextSeq) && (s.lane l).slots.isEmpty

/-- The set is not empty. -/
def Holding.any (h : Holding) : Bool :=
  h.holdLimit || h.queueFull || h.tableFull || h.poolLow || h.trayEmpty || h.seqLimit

/-- The gap condition (R36). -/
def State.gapHolds (s : State) (l : LaneId) : Bool :=
  match (s.lane l).gap with
  | .clear => true
  | .wait => false
  | .since p => decide (p + off (s.laneRec l).gapMm (s.laneRec l).pitch ≤ (s.lane l).high)

/-- What a due pick asks for beside the state FEEDING (R35). -/
def State.pickReady (s : State) (l : LaneId) : Bool :=
  decide ((s.lane l).path.length < 4) && (s.pickedEntry l).isNone && s.gapHolds l

/-- A pick is due (R35). -/
def State.pickDue (s : State) (l : LaneId) : Bool := (s.lane l).state == .feeding && s.pickReady l

/-! ### Fill and fill state (R153, R157) -/

/-- The fill of a queue (R153). -/
def Channel.fill (c : Channel) : Nat := (c.queue.map fun x => x.size - x.sent).sum

/-- One transition of R157, or none. -/
def FillState.step (r : ChannelRec) (fill : Nat) : FillState → FillState
  | .opened => if r.near ≤ fill then .near else .opened
  | .near => if r.full ≤ fill then .full else if fill < r.ease then .opened else .near
  | .full => if fill < r.near then .near else .full

/-- The transitions applied until none applies; two are the most (R157). -/
def FillState.settle (r : ChannelRec) (fill : Nat) (f : FillState) : FillState :=
  FillState.step r fill (FillState.step r fill f)

/-- A channel passes the admission test for a copy of `size` cells (R154). -/
def State.hasRoom (s : State) (size : Nat) (c : ChanId) : Bool :=
  (s.channelRec c).enabled
    && (decide ((s.chan c).fill + size ≤ (s.channelRec c).limit) || (s.chan c).queue.isEmpty)

/-- The CLASS record of a page's release information, in the lane's generation in use (R145). -/
def State.releaseClass (s : State) (p : Page) : Option ClassRec :=
  p.release.map fun r => s.classRec p.lane r.cls

/-- The number of cells of a copy of a page (R152). -/
def Page.copySize (p : Page) : Nat := p.cells.length + 1

/-- An enqueue attempt for a page would be admitted (R145, R154). -/
def State.admissible (s : State) (p : Page) : Bool :=
  match s.releaseClass p with
  | some r => r.enabled && r.channels.all (s.hasRoom p.copySize)
  | none => false

/-! ### The release head (R126) -/

/-- Position order: by seq and then sub. -/
def SeqPos.before (a b : SeqPos) : Bool := decide (a.seq < b.seq) || (a.seq == b.seq && decide (a.sub < b.sub))

/-- The pages of a lane that have live positions: all but the QUEUED ones (R125). -/
def State.livePages (s : State) (l : LaneId) : List (Fin 64 × Page) :=
  allEntries.filterMap fun i =>
    match s.pageAt i with
    | some p => if p.lane == l && p.state != .queued then some (i, p) else none
    | none => none

/-- Insert a page into a list that is ordered by position. -/
def insertPage (x : Fin 64 × Page) : List (Fin 64 × Page) → List (Fin 64 × Page)
  | [] => [x]
  | y :: ys => if x.2.pos.before y.2.pos then x :: y :: ys else y :: insertPage x ys

/-- Pages ordered by position, least first. -/
def sortPages (ps : List (Fin 64 × Page)) : List (Fin 64 × Page) := ps.foldr insertPage []

/-- The release head: none, a page, or a slot (R126). -/
inductive Head where
  | none
  | page (i : Fin 64) (p : Page)
  | slot (pos : SeqPos)
deriving DecidableEq, Repr

/-- The least live position of a lane, and what stands there (R126). The slot list is kept in order. -/
def State.releaseHead (s : State) (l : LaneId) : Head :=
  match sortPages (s.livePages l), (s.lane l).slots with
  | [], [] => .none
  | x :: _, [] => .page x.1 x.2
  | [], q :: _ => .slot q
  | x :: _, q :: _ => if q.before x.2.pos then .slot q else .page x.1 x.2

/-- The held set of a lane, least position first (R111). -/
def State.heldSet (s : State) (l : LaneId) : List (Fin 64 × Page) :=
  sortPages ((s.livePages l).filter fun x => x.2.state == .held)

/-- A slot enters the list at the place its position gives, without duplicates (R120). -/
def insertSlot (q : SeqPos) : List SeqPos → List SeqPos
  | [] => [q]
  | r :: rs => if q = r then r :: rs else if q.before r then q :: r :: rs else r :: insertSlot q rs

/-! ### Generations (R177, R180) -/

/-- A pending generation that the lane has not adopted (R177). -/
def State.mayAdopt (s : State) (l : LaneId) : Bool := s.pendingGen.isSome && !(s.lane l).adopted

/-- The lane is OFF, or IDLE with nothing live (R177). -/
def State.atMoment (s : State) (l : LaneId) : Bool :=
  (s.lane l).state == .off
    || ((s.lane l).state == .idle && s.laneNonFree l == 0 && (s.lane l).slots.isEmpty)

/-- Every lane is in the adopted set. -/
def State.allAdopted (s : State) : Bool := allLanes.all fun l => (s.lane l).adopted

end Sys2Proof.Machine
end

