-- ==== Sys2Proof/Machine/Tasks.lean ====
section
/-! DEFINITION. The sub-acts that one act may entail. An act is whole, but what comes about inside it spans
several blocks (spec/95); each block's part is one task here, and Machine/Acts.lean carries the tasks out
one after another, those that a task entails before those that waited (log 5). -/

namespace Sys2Proof.Machine

/-- A sub-act, with the rule that says what it does. -/
inductive Task where
  /-- The FGC re-evaluates every lane's target (R53-R56, R63). -/
  | fgc
  /-- The lane's speed or calibration may let it leave RAMP_UP or RAMP_DOWN (R30, R33, R59). -/
  | speedCheck (l : LaneId)
  /-- Every LTC re-evaluates its holding-reason set (R34). -/
  | holds
  /-- The LTC tests whether a pick is due (R35). -/
  | pickTest (l : LaneId)
  /-- The test of R31 after a removal from the path list. -/
  | runoutTest (l : LaneId)
  /-- A cause of R31 reaches the lane. -/
  | enterRunout (l : LaneId)
  /-- The lane enters JAMMED (R48). -/
  | jam (l : LaneId) (cause : JamCause)
  /-- A part of the page is complete: its verdict may be assembled (R16). -/
  | assemble (token : Nat)
  /-- The old generation is retired when R180 allows. -/
  | retire
  /-- The HRU recomputes the lane's release head (R126, R127). -/
  | release (l : LaneId)
  /-- The TBK tests the adoption moments OFF and IDLE for the lane (R177). -/
  | adoptMoment (l : LaneId)
  /-- The lane adopts the pending generation, if it has not (R178). -/
  | adopt (l : LaneId)
  /-- Each of the lanes adopts (R176, R178). -/
  | adoptAll (ls : List LaneId)
  /-- The EQM acts on the channels' new records (R159). -/
  | adoptChannels (old : Gen)
  /-- Step 3 of R178. -/
  | adoptLtc (l : LaneId)
  /-- Step 4 of R178. -/
  | adoptDfm (l : LaneId)
  /-- Step 5 of R178. -/
  | adoptLsq (l : LaneId)
  /-- Step 6 of R178. -/
  | adoptFgc (l : LaneId)
  /-- Step 8 of R178. -/
  | adoptEnd
  /-- The sequencer begins a new batch with the page (R137, steps 2-6). -/
  | newBatch (l : LaneId) (token : Nat)
  /-- Steps 3-6 of R134 for the page. -/
  | lsqMarks (l : LaneId) (token : Nat) (action : MarkAction) (blankDrop : Bool)
  /-- Steps 7 and 8 of R134 for the page. -/
  | lsqNumber (l : LaneId) (token : Nat)
  /-- The sequencer asks for room for the page (R145, R146). -/
  | attempt (l : LaneId) (token : Nat)
  /-- The waiting sequencers retry: those whose page names the channel, or all (R146). -/
  | retries (c : Option ChanId)
  /-- The fill state of a channel is re-evaluated (R157). -/
  | fillEval (c : ChanId)
  /-- The entry sensor at a new high-water position (R24). -/
  | edge (l : LaneId)
  /-- The gate events and exits that are due (R45, R46). -/
  | scheduled (l : LaneId)
  /-- The pick test while the gap state is FROM(p) (R35). -/
  | gapPick (l : LaneId)
  /-- The sonic samples that are due, and the windows passed (R68, R69). -/
  | samples (l : LaneId)
  /-- The air grid (R73). -/
  | air (l : LaneId)
  /-- The DWELL and POSITION_LIMIT tests (R47). -/
  | jamChecks (l : LaneId)
deriving DecidableEq, Repr

/-- The state after a sub-act, and the sub-acts it entails. -/
abbrev Move := State × List Task

end Sys2Proof.Machine
end

