-- ==== Sys2Proof/Machine/Sonic.lean ====
section
/-! DEFINITION. The Double-Feed Monitor: windows, samples, air samples, calibration (chapter 4). -/

namespace Sys2Proof.Machine

/-- Re-evaluate a lane's drift raw and hand it to the Event Reporter (R80). -/
def State.evalDrift (s : State) (l : LaneId) : State :=
  (s.modDfm l fun d => { d with driftRaw := d.drift }).setRaw Ev.sonicDrift l.val (s.lane l).dfm.drift

/-! ### Windows (R68, R70) -/

/-- The window that opens at a leading edge, with the values of the page's gen_pick copied (R66, R68). -/
def openWindow (t : Tables) (l : LaneId) (token lead : Nat) : Window :=
  let r := t.lane[l]
  let p := t.profile[r.profile]
  { token := token
    lead := lead
    pitch := r.pitch
    offS := off r.dSonic r.pitch
    sonicEnabled := r.sonicEnabled
    lenMin := p.lenMin
    lenMax := p.lenMax
    tThick := p.tThick
    hyst := p.hyst
    minRun := p.minRun
    zones := p.zones
    trail := none
    samples := none
    next := 0
    thick := false
    run := 0
    maxRun := 0
    thickCount := 0
    void := false
    zoneStart := lead + off r.dSonic r.pitch - off 4 r.pitch
    zoneEnd := none }

/-- The DFM opens a window at the tail of the window list (R68). -/
def State.openWindow (s : State) (l : LaneId) (gen : Gen) (token lead : Nat) : State :=
  s.modDfm l fun d => { d with windows := d.windows ++ [Machine.openWindow (s.tablesOf gen) l token lead] }

/-- The number of samples of a page of `counts` counts: the k with k × pitch < 8 × counts (R70). -/
def sampleCount (counts pitch : Nat) : Nat := (8 * counts + pitch - 1) / pitch

/-- The length in mm, rounded half up and limited to 4,095 (R86). -/
def lengthMm (counts pitch : Nat) : Nat := min 4095 ((16 * counts + pitch) / (2 * pitch))

/-- The trailing edge reaches a window (R68, R70). -/
def Window.atTrail (w : Window) (h : Nat) : Window :=
  { w with
    trail := some h
    samples := some (sampleCount (h - w.lead) w.pitch)
    zoneEnd := some (h + w.offS + off 4 w.pitch) }

/-- The window's sample N - 1 has been taken (R71). -/
def Window.finished (w : Window) : Bool :=
  match w.samples with
  | some n => decide (n ≤ w.next)
  | none => false

/-- A window becomes void: it leaves its thick state and counts at 0 (R72, log 14). -/
def Window.voided (w : Window) : Window :=
  { w with void := true, thick := false, run := 0, maxRun := 0, thickCount := 0 }

/-- Sample k of a window is a guard sample (R82). -/
def Window.guard (w : Window) : Bool :=
  decide (w.next < 4) ||
    match w.samples with
    | some n => decide (n ≤ w.next + 4)
    | none => false

/-- Sample k of a window lies in a mask zone (R82). -/
def Window.masked (w : Window) : Bool :=
  w.zones.any fun z => decide (z.start ≤ w.next) && decide (w.next < z.stop)

/-- The ratio of a sample (R81). -/
def ratio (a b16 : Nat) : Nat := min 255 (a * 4096 / b16)

/-- The thick state after a classified sample of ratio `r` (R83). -/
def Window.thickAfter (w : Window) (r : Nat) : Bool :=
  if w.thick then !decide (min 255 (w.tThick + w.hyst) ≤ r) else decide (r < w.tThick)

/-- A classified sample (R83, R84). -/
def Window.classify (w : Window) (r : Nat) : Window :=
  if w.thickAfter r then
    { w with
      thick := true
      run := w.run + 1
      maxRun := max w.maxRun (min 255 (w.run + 1))
      thickCount := min 1000 (w.thickCount + 1) }
  else { w with thick := false, run := 0 }

/-- What sample k does to its window, before k moves on (R72, R82). -/
def Window.takeSample (w : Window) (d : Dfm) (a : Nat) : Window :=
  if w.void || !d.calibrated || d.degraded then w.voided
  else if w.guard then w
  else if w.masked then { w with thick := false, run := 0 }
  else w.classify (ratio a d.b16)

/-- Sample k of a window is due at H (R69, R72). -/
def Window.due (w : Window) (h : Nat) : Bool :=
  w.sonicEnabled && !w.finished && decide (w.lead + w.offS + w.next * w.pitch / 8 ≤ h)

/-- Take the sample of a window that is due at H, if one is (R69). -/
def Window.sample (d : Dfm) (h a : Nat) (w : Window) : Window :=
  if w.due h then { w.takeSample d a with next := w.next + 1 } else w

/-- The sample at H is the window's last (R71). -/
def Window.completes (d : Dfm) (h a : Nat) (w : Window) : Bool :=
  w.due h && (w.sample d h a).finished

/-- H has reached the window's zone end (R68). -/
def Window.passed (w : Window) (h : Nat) : Bool :=
  match w.zoneEnd with
  | some z => decide (z ≤ h)
  | none => false

/-! ### Writes to the page (R3, R71, R72, R86) -/

/-- The sonic field leaves PENDING once (R3); UNVERIFIED brings its flag (R71, R72). -/
def Page.sonicUnverified (p : Page) : Page :=
  if p.sonic = .pending then
    { p with sonic := .unverified, flags := { p.flags with unverified := true } }
  else p

/-- DONE, with DOUBLE when the run is min_run_mm or more (R71, R85). -/
def Page.sonicDone (p : Page) (maxRun thickCount minRun : Nat) : Page :=
  if p.sonic = .pending then
    { p with
      sonic := .done maxRun thickCount
      flags := { p.flags with double := p.flags.double || decide (minRun ≤ maxRun) } }
  else p

/-- The length and its flags, written once (R3, R86). -/
def Page.withLength (p : Page) (len lenMin lenMax : Nat) : Page :=
  if p.lengthMm.isSome then p
  else
    { p with
      lengthMm := some len
      flags := { p.flags with
        long := p.flags.long || decide (lenMax < len)
        short := p.flags.short || decide (len < lenMin) } }

/-- Change the record of the page a token names; nothing when the token is stale (R3). -/
def State.modToken (s : State) (token : Nat) (f : Page → Page) : State :=
  match s.live token with
  | some (i, _) => s.modPage i f
  | none => s

/-- The DFM completes a page's sonic part (R71). -/
def State.completeSonic (s : State) (w : Window) : State :=
  s.modToken w.token fun p =>
    if w.void then p.sonicUnverified else p.sonicDone w.maxRun w.thickCount w.minRun

/-! ### Samples at a new high-water position -/

/-- Every window takes the sample that is due, completed pages are reported, and windows passed leave the
list (R68, R69, R71). Pages whose last samples fall due at one H are reported in window-list order, which is
the model's choice (log 31). -/
def onSamples (l : LaneId) (s : State) : Move :=
  if (s.lane l).state.moving then
    let d := (s.lane l).dfm
    let h := (s.lane l).high
    let a := (s.lane l).amplitude.toNat
    let ready := (d.windows.filter (Window.completes d h a)).map (Window.sample d h a)
    let s1 := s.modDfm l fun d =>
      { d with windows := (d.windows.map (Window.sample d h a)).filter fun w => !w.passed h }
    (ready.foldl State.completeSonic s1, ready.map fun w => .assemble w.token)
  else (s, [])

/-! ### Air samples, calibration and degradation -/

/-- An air or calibration sample is valid (R76, R77). -/
def validAir (a : Nat) : Bool := decide (64 ≤ a) && decide (a ≤ 1022)

/-- The lane enters DEGRADED (R79). -/
def State.enterDegraded (s : State) (l : LaneId) : State :=
  ((s.modDfm l fun d =>
      { d with
        degraded := true
        windows := d.windows.map fun w => if w.finished then w else w.voided }).setRaw
    Ev.sonicDegraded l.val true).evalDrift l

/-- One step of the baseline toward sixteen times the sample (R77). -/
def baselineStep (b16 a : Nat) : Nat := ((b16 : Int) + Int.tdiv (16 * (a : Int) - b16) 8).toNat

/-- A baseline sample of a calibrated GOOD lane (R77). -/
def State.baselineSample (s : State) (l : LaneId) (a : Nat) : State :=
  if validAir a then
    (s.modDfm l fun d => { d with b16 := baselineStep d.b16 a, badAir := 0 }).evalDrift l
  else
    let s1 := s.modDfm l fun d => { d with badAir := d.badAir + 1 }
    if 8 ≤ (s.lane l).dfm.badAir + 1 then s1.enterDegraded l else s1

/-- The sixteenth valid calibration sample (R76). -/
def State.calibrated (s : State) (l : LaneId) (sum : Nat) : State :=
  ((s.modDfm l fun d =>
      { d with b16 := sum, bref16 := sum, calibration := .done, badAir := 0, degraded := false }).setRaw
    Ev.sonicDegraded l.val false).evalDrift l

/-- A calibration sample (R76). -/
def State.calibrationSample (s : State) (l : LaneId) (count sum a : Nat) : State :=
  if validAir a then
    if 16 ≤ count + 1 then s.calibrated l (sum + a)
    else s.modDfm l fun d => { d with calibration := .running (count + 1) (sum + a) }
  else
    let s1 := s.modDfm l fun d => { d with calibration := .none }
    if (s.lane l).dfm.degraded then s1 else s1.enterDegraded l

/-- The use of an air sample (R74). -/
def State.airSample (s : State) (l : LaneId) (a : Nat) : State :=
  match (s.lane l).dfm.calibration with
  | .running count sum => s.calibrationSample l count sum a
  | .done => if (s.lane l).dfm.degraded then s else s.baselineSample l a
  | .none => s

/-- The position is inside a window's exclusion zone (R73). -/
def Window.excludes (w : Window) (pos : Nat) : Bool :=
  decide (w.zoneStart ≤ pos) &&
    match w.zoneEnd with
    | some z => decide (pos < z)
    | none => true

/-- The position of the lane's next air sample (R73). -/
def State.airPosition (s : State) (l : LaneId) : Nat :=
  (s.lane l).dfm.gridOrigin + (s.lane l).dfm.gridNext * (s.laneRec l).pitch / 8

/-- The conditions of R73 for taking the air sample at a position. -/
def State.airTaken (s : State) (l : LaneId) (pos : Nat) : Bool :=
  (s.lane l).state.moving && (s.laneRec l).sonicEnabled
    && (s.lane l).dfm.windows.all fun w => !w.excludes pos

/-- The air grid at a new high-water position: the sample that falls due is taken or passed (R73). -/
def onAir (l : LaneId) (s : State) : Move :=
  if !(s.lane l).state.resting && decide (s.airPosition l ≤ (s.lane l).high) then
    let s1 := s.modDfm l fun d => { d with gridNext := d.gridNext + 1 }
    if s.airTaken l (s.airPosition l) then
      (s1.airSample l (s.lane l).amplitude.toNat, [.speedCheck l])
    else (s1, [])
  else (s, [])

/-- The calibration run that entry to RAMP_UP begins, or the lack of one (R75). -/
def State.beginCalibration (s : State) (l : LaneId) : State :=
  (s.modDfm l fun d =>
    { d with calibration := if (s.laneRec l).sonicEnabled then .running 0 0 else .none }).evalDrift l

/-- Step 4 of an adoption (R88). A calibration run in progress goes on when sonic_enabled is yes, which is the
model's choice (log 32). -/
def onAdoptDfm (l : LaneId) (s : State) : Move :=
  ((s.modDfm l fun d =>
      { d with
        gridOrigin := (s.lane l).high
        gridNext := 1
        calibration := if (s.laneRec l).sonicEnabled then d.calibration else .none }).evalDrift l,
    [.speedCheck l])

end Sys2Proof.Machine
end

