-- ==== Sys2Proof/Machine/Intake.lean ====
section
/-! DEFINITION. The Head Intake: gates, head cells and the closing of images (chapter 5). -/

namespace Sys2Proof.Machine

/-- The default close information (R92). -/
def CloseInfo.default : CloseInfo := ⟨0, false, none⟩

/-- Hand a cell to a head link; it is discarded at issue when the link is not UP (R91). -/
def State.sendHead (s : State) (l : LaneId) (kind : HeadKind) (token : Nat) : State :=
  if s.linkUp (.head l) then
    s.setHead l { s.head l with txQueue := (s.head l).txQueue ++ [⟨kind, token⟩] }
  else s

/-- The image becomes CLOSED with its close information, written once, and the image timer is cancelled
(R3, R92). -/
def Page.closeImage (p : Page) (info : CloseInfo) : Page :=
  { p with image := .closed, close := some (p.close.getD info), imageTimer := none }

/-- TRUNCATED is added (R92). -/
def Page.truncate (p : Page) : Page := { p with flags := { p.flags with truncated := true } }

/-- The closes of R92 that add TRUNCATED, with the default close information. -/
def Page.closeTruncated (p : Page) : Page := (p.closeImage CloseInfo.default).truncate

/-! ### Gate events (R93, R94) -/

/-- GATE_OPEN for a sheet (R46, R93): not issued when its token is stale. -/
def State.gateOpen (s : State) (l : LaneId) (token : Nat) : State :=
  match s.live token with
  | none => s
  | some (i, p) =>
    let s1 :=
      if p.image = .notOpen then
        if s.linkUp (.head l) then s.modPage i fun p => { p with image := .opened, cells := [] }
        else s.modPage i Page.closeTruncated
      else s
    s1.sendHead l .gateOpen token

/-- GATE_CLOSE for a sheet (R46, R94): an OPEN image gets its timer, of the sheet's gen_pick. -/
def State.gateClose (s : State) (l : LaneId) (token timeout : Nat) : State :=
  match s.live token with
  | none => s
  | some (i, p) =>
    let s1 := if p.image = .opened then s.modPage i fun p => { p with imageTimer := some timeout } else s
    s1.sendHead l .gateClose token

/-- CANCEL and the close of one OPEN image at a jam (R101). -/
def State.cancelImage (s : State) (l : LaneId) (token : Nat) : State :=
  match s.live token with
  | none => s
  | some (i, p) =>
    if p.image = .opened then (s.modPage i Page.closeTruncated).sendHead l .cancel token else s

/-! ### Head cells (R95-R99) -/

/-- The OPEN page of lane `l` that a head cell names; none when the cell is stale (R95). -/
def State.intakePage (s : State) (l : LaneId) (token : Nat) : Option (Fin 64 × Page) :=
  match s.live token with
  | some (i, p) => if p.lane = l ∧ p.image = .opened then some (i, p) else none
  | none => none

/-- A stale cell (R95). -/
def State.staleCell (s : State) (l : LaneId) : State :=
  (s.setHead l { s.head l with staleCount := min 65535 ((s.head l).staleCount + 1) }).occur
    Ev.staleCell l.val

/-- A DATA cell is truncated (R97). -/
def State.truncateData (s : State) (i : Fin 64) (l : LaneId) : State :=
  (s.modPage i Page.truncate).occur Ev.imageTruncated l.val

/-- A granted cell receives the payload and joins the page's cell list (R96, R104). -/
def State.storeCell (s : State) (i : Fin 64) (c : Nat) (rest : FreeList) (payload : List Byte) : State :=
  { s.modPage i fun p => { p with cells := p.cells ++ [c] } with
    pool := rest
    mem := Memory.write c payload s.mem }

/-- A DATA cell (R95, R96, R97). -/
def takeData (l : LaneId) (token : Nat) (payload : List Byte) (s : State) : Move :=
  match s.intakePage l token with
  | none => (s.staleCell l, [])
  | some (i, p) =>
    if p.flags.truncated then (s, [])
    else if Config.maxCellList ≤ p.cells.length ∨ payload = [] then (s.truncateData i l, [])
    else
      match FreeList.take? s.pool with
      | none => (s.truncateData i l, [])
      | some (c, rest) => (s.storeCell i c rest payload, [.holds])

/-- The close information of a CLOSE cell: a ticket over 24 bytes is cut to 24 (R98). -/
def closeInfoOf (mark : BitVec 4) (blank : Bool) (ticket : Option (List Byte)) : CloseInfo :=
  ⟨mark, blank, ticket.map fun t => t.take 24⟩

/-- A ticket over 24 bytes truncates the page (R98). -/
def ticketTooLong : Option (List Byte) → Bool
  | some t => decide (24 < t.length)
  | none => false

/-- A CLOSE cell (R95, R98). -/
def takeClose (l : LaneId) (token : Nat) (mark : BitVec 4) (blank : Bool) (ticket : Option (List Byte))
    (s : State) : Move :=
  match s.intakePage l token with
  | none => (s.staleCell l, [])
  | some (i, _) =>
    let s1 := s.modPage i fun p => p.closeImage (closeInfoOf mark blank ticket)
    (if ticketTooLong ticket then s1.truncateData i l else s1, [.assemble token])

/-- An image is closed TRUNCATED, with IMAGE_TRUNCATED latched (R99, R100). -/
def State.abortImage (s : State) (i : Fin 64) (l : LaneId) : State :=
  (s.modPage i Page.closeTruncated).occur Ev.imageTruncated l.val

/-- An ABORT cell (R95, R99). -/
def takeAbort (l : LaneId) (token : Nat) (s : State) : Move :=
  match s.intakePage l token with
  | none => (s.staleCell l, [])
  | some (i, _) => (s.abortImage i l, [.assemble token])

/-- Expiry of a page's image timer with the image still OPEN (R100). -/
def imageExpiry (token : Nat) (s : State) : Move :=
  match s.live token with
  | none => (s, [])
  | some (i, p) =>
    if p.imageTimer.isSome ∧ p.image = .opened then (s.abortImage i p.lane, [.assemble token])
    else (s, [])

/-! ### The head link (R102, R103) -/

/-- The HEAD_DOWN raw is re-evaluated (R102). -/
def State.evalHeadDown (s : State) (l : LaneId) : State :=
  s.setRaw Ev.headDown l.val (s.laneEnabled l && !s.linkUp (.head l))

/-- The entries whose page belongs to the lane and has an OPEN image. -/
def State.openEntries (s : State) (l : LaneId) : List (Fin 64) :=
  allEntries.filter fun i => (s.pageAt i).any fun p => p.lane == l && p.image == .opened

/-- What the HI does when the lane's head link leaves UP (R103). -/
def headLeavesUp (l : LaneId) (s : State) : Move :=
  (((s.openEntries l).foldl (fun s i => s.modPage i Page.closeTruncated) s).evalHeadDown l,
    (s.openEntries l).map (fun i => .assemble (s.tokenOf i)) ++ [.enterRunout l])

end Sys2Proof.Machine
end

