-- ==== Sys2Proof/Machine/Lanes.lean ====
section
/-! DEFINITION. The Lane Transport Controller: states, picks, misfeeds, edges, scheduled events, jams
(chapter 2). -/

namespace Sys2Proof.Machine

/-! ### Sheets of the path list (R45) -/

/-- The sheet record made at the allocation of a page under generation `g`, with its copied values (R45,
R179). -/
def State.newSheet (s : State) (l : LaneId) (g : Gen) (token : Nat) (lead : Option Nat) : Sheet where
  token := token
  genPick := g
  pitch := (s.pickLaneRec l g).pitch
  dImage := (s.pickLaneRec l g).dImage
  dExit := (s.pickLaneRec l g).dExit
  pickToEntry := (s.pickLaneRec l g).pickToEntry
  pickRetries := (s.pickLaneRec l g).pickRetries
  imageTimeout := (s.pickLaneRec l g).imageTimeout
  lenMax := (s.pickProfileRec l g).lenMax
  lead := lead
  trail := none
  gate := .none

/-- Change the first sheet of which `sel` holds. -/
def modSheet (sel : Sheet → Bool) (f : Sheet → Sheet) : List Sheet → List Sheet
  | [] => []
  | x :: xs => if sel x then f x :: xs else x :: modSheet sel f xs

/-- The sheet of a PICKED page: it has no lead yet. -/
def Sheet.awaits (token : Nat) (x : Sheet) : Bool := x.token == token && x.lead.isNone

/-- The sheet that covers the entry sensor: it has a lead and no trail. -/
def Sheet.onSensor (x : Sheet) : Bool := x.lead.isSome && x.trail.isNone

/-- The sheet of the lane's PICKED page. -/
def State.pickedSheet (s : State) (l : LaneId) : Option Sheet :=
  match s.pickedEntry l with
  | some i => (s.lane l).path.find? (Sheet.awaits (s.tokenOf i))
  | none => none

/-! ### Rest, runout and ramp-up (R22, R30-R33) -/

/-- The counter is set to 0, with all that goes with it (R22, R23, R24, R68, R73). -/
def Lane.zeroCounter (x : Lane) : Lane :=
  { x with
    counter := 0
    high := 0
    lastSensor := false
    dfm := { x.dfm with windows := [], gridOrigin := 0, gridNext := 1 } }

/-- The lane comes to rest: IDLE when it is enabled, OFF when it is not (R33, R49). -/
def State.toRest (s : State) (l : LaneId) : State :=
  let s1 := (s.modLane l fun x =>
    { x.zeroCounter with
      state := if s.laneEnabled l then .idle else .off
      trayEmpty := false }).modDfm l Dfm.endRun
  if s.laneEnabled l then s1.occur Ev.laneIdle l.val else s1

/-- RAMP_UP ends when the speed has reached its target and the calibration is finished (R30). -/
def Lane.rampUpEnds (x : Lane) : Bool :=
  x.state == .rampUp && x.speedReached && x.dfm.calibrationFinished

/-- A lane whose RAMP_UP ends goes on to HOLDING, and from there to FEEDING when its set is empty (R30,
R34). -/
def State.leaveRampUp (s : State) (l : LaneId) : State :=
  if (s.lane l).rampUpEnds then s.modLane l fun x => { x with state := .holding } else s

/-- R30 and R33: RAMP_UP ends when the speed has reached its target and the calibration is finished;
RAMP_DOWN ends when the speed has reached 0. That the FGC answers the rest before an adoption is the model's
choice (log 40). -/
def onSpeedCheck (l : LaneId) (s : State) : Move :=
  if (s.lane l).rampUpEnds then (s.leaveRampUp l, [.holds])
  else if (s.lane l).state = .rampDown ∧ (s.lane l).speed = 0 ∧ (s.lane l).ramp = none then
    (s.toRest l, [.fgc, .adoptMoment l])
  else (s, [])

/-- The path list is empty, so RUNOUT goes on to RAMP_DOWN (R31). -/
def Lane.drained (x : Lane) : Lane :=
  if x.path.isEmpty then { x with state := .rampDown, runoutTimer := none } else x

/-- Entering RUNOUT, in one act (R31). The misfeed timer is started afresh when a retry wait is cancelled. -/
def State.toRunout (s : State) (l : LaneId) : State :=
  s.modLane l fun x =>
    Lane.drained
      { x with
        state := .runout
        runoutTimer := some (s.laneRec l).runoutMs
        retryWait := none
        misfeedTimer :=
          if x.retryWait.isSome then (s.pickedSheet l).map Sheet.pickToEntry else x.misfeedTimer }

/-- A cause of R31 reaches the lane: in other states than those it names nothing changes. -/
def onEnterRunout (l : LaneId) (s : State) : Move :=
  if (s.lane l).state.stoppable then (s.toRunout l, [.fgc]) else (s, [])

/-- The test of R31 after a removal from the path list. -/
def onRunoutTest (l : LaneId) (s : State) : Move :=
  if (s.lane l).state = .runout ∧ (s.lane l).path = [] then (s.modLane l Lane.drained, [.fgc]) else (s, [])

/-- The lane goes to RAMP_UP: the gap state becomes CLEAR and a calibration begins (R27, R36, R75). -/
def State.toRampUp (s : State) (l : LaneId) : State :=
  (s.modLane l fun x => { x with state := .rampUp, gap := .clear }).beginCalibration l

/-! ### Picks (R34-R38) -/

/-- A lane whose set has become non-empty goes from FEEDING to HOLDING (R34). -/
def State.holdFeeding (s : State) (l : LaneId) : State :=
  if (s.lane l).state = .feeding ∧ (s.holding l).any then
    s.modLane l fun x => { x with state := .holding }
  else s

/-- The lanes that R34 takes from HOLDING to FEEDING. -/
def State.released (s : State) : List LaneId :=
  allLanes.filter fun l => (s.lane l).state == .holding && !(s.holding l).any

/-- A lane goes to FEEDING. -/
def State.toFeeding (s : State) (l : LaneId) : State := s.modLane l fun x => { x with state := .feeding }

/-- One of the lanes that the sets release goes to FEEDING, and tests its pick on entering it (R35). A lane
whose pick is not due competes with nobody and goes first; of several whose picks are due, which goes first
is not fixed (R5, log 7). -/
def feedNext (s : State) : (released notDue : List LaneId) → Move
  | _, l :: _ => (s.toFeeding l, [.pickTest l, .holds])
  | [], [] => (s, [])
  | l :: ls, [] => ((s.takeOne l ls).2.toFeeding (s.takeOne l ls).1, [.pickTest (s.takeOne l ls).1, .holds])

/-- The lanes of FEEDING whose set has become non-empty go to HOLDING (R34). -/
def State.holdAll (s : State) : State := allLanes.foldl State.holdFeeding s

/-- Every LTC re-evaluates its set (R34). Lanes that go to FEEDING go one at a time. -/
def onHolds (s : State) : Move :=
  feedNext s.holdAll s.holdAll.released (s.holdAll.released.filter fun l => !s.holdAll.pickReady l)

/-- The position that the lane's next page takes: the oldest open slot, or (next_seq, 0); none when the lane
issues no further seq and has no slot (R38, R43). -/
def Lane.nextPos (x : Lane) : Option SeqPos :=
  match x.slots with
  | q :: _ => some q
  | [] => if x.nextSeq < Config.seqEnd then some ⟨x.nextSeq, 0⟩ else none

/-- The slot is consumed, or next_seq increases by one (R38). -/
def Lane.takePos (x : Lane) : Lane :=
  match x.slots with
  | _ :: rest => { x with slots := rest }
  | [] => { x with nextSeq := x.nextSeq + 1 }

/-- A granted allocation (R4): the page's record in entry `i`, its sheet at the tail of the path list, the
position consumed, the gap state WAIT. `edge` is the lead of an unexpected sheet. -/
def State.allocate (s : State) (l : LaneId) (i : Fin 64) (pos : SeqPos) (edge : Option Nat) : State :=
  let g := (s.lane l).gen
  (s.setEntry i { s.entry i with page := some (Page.allocated l pos g edge) }).modLane l fun x =>
    { x.takePos with path := x.path ++ [s.newSheet l g (s.tokenOf i) edge], gap := .wait }

/-- A granted pick: the clutch is pulsed, the misfeed timer starts, and a consumed slot is on loan (R38,
R121). -/
def State.pick (s : State) (l : LaneId) (i : Fin 64) (pos : SeqPos) : State :=
  (s.allocate l i pos none).modLane l fun x =>
    { x with
      loan := (s.lane l).slots.head?
      clutchPulses := x.clutchPulses + 1
      misfeedTimer := some (s.laneRec l).pickToEntry }

/-- The tray is found empty where a pick or a re-pulse was to be made (R37, R40). -/
def trayFoundEmpty (l : LaneId) (s : State) : Move :=
  if (s.laneRec l).autostop then (s.toRunout l, [.fgc])
  else (s.modLane l fun x => { x with state := .holding, trayEmpty := true }, [])

/-- The pick test (R35), and the pick when it is due (R37, R38). -/
def onPickTest (l : LaneId) (s : State) : Move :=
  if s.pickDue l then
    if (s.lane l).trayPaper then
      match (s.lane l).nextPos, s.grantedEntry l with
      | some pos, some i => (s.pick l i pos, [.holds])
      | some _, none => (s.modLane l fun x => { x with state := .holding }, [])
      | none, _ => (s.modLane l fun x => { x with state := .holding }, [])
    else trayFoundEmpty l s
  else (s, [])

/-! ### Misfeeds (R39-R41) -/

/-- What every freeing entails (R8), in the order of log 16: the notice to the Table Banks when the page was not
judged (R12), the holding reasons, the release head, the adoption moment (R177). -/
def freedTasks (l : LaneId) (unjudged : Bool) : List Task :=
  (if unjudged then [.retire] else []) ++ [.holds, .release l, .adoptMoment l]

/-- The PICKED page in entry `i` is given up (R41): its sheet leaves the path list, a loaned slot returns,
the gap state becomes CLEAR, and the entry is freed. -/
def State.giveUpPick (s : State) (l : LaneId) (i : Fin 64) : State :=
  (s.modLane l fun x =>
    { x with
      path := x.path.eraseP (Sheet.awaits (s.tokenOf i))
      slots := match x.loan with
        | some q => insertSlot q x.slots
        | none => x.slots
      loan := none
      gap := .clear
      misfeedTimer := none
      retryWait := none }).freeEntry i

/-- Misfeed exhaustion (R41). The order of what follows is the model's (log 16, log 40). -/
def misfeedExhausted (l : LaneId) (i : Fin 64) (s : State) : Move :=
  let s1 := (s.giveUpPick l i).occur Ev.feedFailure l.val
  (if (s1.lane l).state.stoppable then s1.toRunout l
    else if (s1.lane l).state = .runout then s1.modLane l Lane.drained
    else s1,
    .fgc :: freedTasks l true)

/-- The lane waits to re-pulse the page in entry `i` (R39). -/
def State.toRetryWait (s : State) (l : LaneId) (i : Fin 64) : State :=
  (s.modPage i fun p => { p with attempts := p.attempts + 1 }).modLane l fun x =>
    { x with state := .retryWait, misfeedTimer := none, retryWait := some Config.retryWaitMs }

/-- The retries that remain for the page in entry `i`: its attempts is at most pick_retries (R39). -/
def State.retriesRemain (s : State) (l : LaneId) (i : Fin 64) : Bool :=
  match s.pageAt i, s.pickedSheet l with
  | some p, some sh => decide (p.attempts ≤ sh.pickRetries)
  | _, _ => false

/-- Expiry of the misfeed timer (R39). -/
def misfeedExpiry (l : LaneId) (s : State) : Move :=
  match (s.lane l).misfeedTimer, s.pickedEntry l with
  | some _, some i =>
    if (s.lane l).state = .feeding ∨ (s.lane l).state = .holding then
      if s.retriesRemain l i then (s.toRetryWait l i, [.fgc]) else misfeedExhausted l i s
    else if (s.lane l).state = .runout then misfeedExhausted l i s
    else (s, [])
  | _, _ => (s, [])

/-- The re-pulse of the waiting page (R40). -/
def State.repulse (s : State) (l : LaneId) : State :=
  s.modLane l fun x =>
    { x with
      state := .holding
      retryWait := none
      clutchPulses := x.clutchPulses + 1
      misfeedTimer := (s.pickedSheet l).map Sheet.pickToEntry }

/-- The end of the retry wait (R40). The order of what follows a page given up is the model's (log 16, log
40). -/
def retryEnd (l : LaneId) (s : State) : Move :=
  match (s.lane l).retryWait, s.pickedEntry l with
  | some _, some i =>
    if (s.lane l).state = .retryWait then
      if (s.lane l).trayPaper then (s.repulse l, [.fgc])
      else
        let t := trayFoundEmpty l (s.giveUpPick l i)
        (t.1, .fgc :: freedTasks l true)
    else (s, [])
  | _, _ => (s, [])

/-! ### Entry edges (R42-R44) -/

/-- A leading edge for the PICKED page in entry `i` (R42). -/
def State.leadingEdge (s : State) (l : LaneId) (i : Fin 64) : State :=
  let h := (s.lane l).high
  let tok := s.tokenOf i
  let gen := ((s.pageAt i).map Page.genPick).getD (s.lane l).gen
  ((s.modPage i fun p => { p with state := .inPath, lead := some (p.lead.getD h) }).modLane l fun x =>
      { x with
        path := modSheet (Sheet.awaits tok) (fun sh => { sh with lead := some h }) x.path
        loan := none
        misfeedTimer := none
        retryWait := none
        sensor := some tok
        state := if x.state = .retryWait then .holding else x.state }).openWindow l gen tok h

/-- A granted unexpected sheet (R43): a lane in RAMP_DOWN returns to RUNOUT with its timer afresh. -/
def State.unexpectedSheet (s : State) (l : LaneId) (i : Fin 64) (pos : SeqPos) : State :=
  let h := (s.lane l).high
  let tok := s.tokenOf i
  let s1 := ((s.allocate l i pos (some h)).modLane l fun x => { x with sensor := some tok }).openWindow l
    (s.lane l).gen tok h
  if (s.lane l).state = .rampDown then s1.toRunout l else s1

/-- A leading edge at a new high-water position (R42, R43). -/
def leadingEdgeTaken (l : LaneId) (s : State) : Move :=
  match s.pickedEntry l with
  | some i => (s.leadingEdge l i, [.fgc])
  | none =>
    match (s.lane l).nextPos, s.grantedEntry l with
    | some pos, some i =>
      if (s.lane l).path.length < 4 then (s.unexpectedSheet l i pos, [.fgc]) else (s, [.jam l .overrun])
    | _, _ => (s, [.jam l .overrun])

/-- The trailing edge of the sensor page (R44), with the length of R86 and, for a window without sonic
measurement, its sonic part (R72). -/
def State.trailingEdge (s : State) (l : LaneId) (tok : Nat) : State :=
  let h := (s.lane l).high
  let mine (w : Window) : Bool := w.token == tok && w.trail.isNone
  let s1 := (s.modLane l fun x =>
      { x with
        path := modSheet Sheet.onSensor (fun sh => { sh with trail := some h }) x.path
        sensor := none
        gap := .since h
        dfm := { x.dfm with windows := x.dfm.windows.map fun w => if mine w then w.atTrail h else w } }).modToken
    tok fun p => { p with trail := some (p.trail.getD h) }
  match (s.lane l).dfm.windows.find? mine with
  | some w =>
    s1.modToken tok fun p =>
      let q := p.withLength (lengthMm (h - w.lead) w.pitch) w.lenMin w.lenMax
      if w.sonicEnabled then q else q.sonicUnverified
  | none => s1

/-- A trailing edge; it is ignored when the lane has no sensor page (R44). That the verdict comes before the
pick test is the model's choice (log 40). -/
def trailingEdgeTaken (l : LaneId) (s : State) : Move :=
  match (s.lane l).sensor with
  | some tok => (s.trailingEdge l tok, [.assemble tok, .pickTest l])
  | none => (s, [])

/-- The entry sensor at a new high-water position (R24). -/
def onEdge (l : LaneId) (s : State) : Move :=
  if (s.lane l).state.moving ∧ (s.lane l).entryBlocked ≠ (s.lane l).lastSensor then
    let s1 := s.modLane l fun x => { x with lastSensor := x.entryBlocked }
    if (s.lane l).entryBlocked then leadingEdgeTaken l s1 else trailingEdgeTaken l s1
  else (s, [])

/-! ### Gate events and exits (R45, R46) -/

/-- The gate opening of a sheet is due at H (R46). -/
def Sheet.opens (h : Nat) (x : Sheet) : Bool :=
  x.gate == .none && x.lead.any fun p => decide (p + off x.dImage x.pitch ≤ h)

/-- The gate closing of a sheet is due at H (R46). -/
def Sheet.closes (h : Nat) (x : Sheet) : Bool :=
  x.gate == .opened && x.trail.any fun p => decide (p + off x.dImage x.pitch ≤ h)

/-- The exit of a sheet is due at H (R45). -/
def Sheet.exits (h : Nat) (x : Sheet) : Bool := x.trail.any fun p => decide (p + off x.dExit x.pitch ≤ h)

/-- The gate progress of the first sheet of which `sel` holds. -/
def State.setGate (s : State) (l : LaneId) (sel : Sheet → Bool) (g : GateProgress) : State :=
  s.modLane l fun x => { x with path := modSheet sel (fun sh => { sh with gate := g }) x.path }

/-- The events that are due at H, one after another: gate openings, gate closings, then exits, each in belt
order (R45, R46; log 6). After an exit the test of R31 comes before the pick test (log 40). -/
def onScheduled (l : LaneId) (s : State) : Move :=
  let h := (s.lane l).high
  if (s.lane l).state.moving then
    match (s.lane l).path.find? (Sheet.opens h) with
    | some sh =>
      ((s.setGate l (Sheet.opens h) .opened).gateOpen l sh.token, [.assemble sh.token, .scheduled l])
    | none =>
      match (s.lane l).path.find? (Sheet.closes h) with
      | some sh =>
        ((s.setGate l (Sheet.closes h) .closed).gateClose l sh.token sh.imageTimeout, [.scheduled l])
      | none =>
        if (s.lane l).path.any (Sheet.exits h) then
          (s.modLane l fun x => { x with path := x.path.eraseP (Sheet.exits h) },
            [.runoutTest l, .pickTest l, .scheduled l])
        else (s, [])
  else (s, [])

/-- The pick test at a new high-water position while the gap state is FROM(p) (R35). -/
def onGapPick (l : LaneId) (s : State) : Move :=
  match (s.lane l).gap with
  | .since _ => (s, [.pickTest l])
  | .clear => (s, [])
  | .wait => (s, [])

/-! ### Jams (R47, R48, R19) -/

/-- A page that is made HELD with reason JAM (R19). -/
def Page.heldByJam (p : Page) : Page :=
  { p with state := .held, verdict := some .lost, action := some .hold, holdReason := some .jam }

/-- LOST is added to a page, which acts by its state (R19). -/
def Page.addLost (p : Page) : Page :=
  let q := { p with flags := { p.flags with lost := true } }
  match p.state with
  | .picked => q.heldByJam
  | .inPath => q.heldByJam
  | .held => q.heldByJam
  | .ready => if p.release.isSome then q else q.heldByJam
  | .queued => q

/-- The lane's own part of entering JAMMED (R48, R60, R87, R122). -/
def Lane.jammed (x : Lane) (cause : JamCause) : Lane :=
  { x with
    state := .jammed
    speed := 0
    target := 0
    ramp := none
    misfeedTimer := none
    retryWait := none
    runoutTimer := none
    lastJam := some cause
    loan := none
    dfm := { x.dfm.endRun with windows := [] } }

/-- The tokens of the sheets in a lane's path list. -/
def Lane.pathTokens (x : Lane) : List Nat := x.path.map Sheet.token

/-- Entering JAMMED (R48, R101). CANCEL cells go out in path-list order, which is the model's choice (log
24). -/
def State.toJammed (s : State) (l : LaneId) (cause : JamCause) : State :=
  let toks := (s.lane l).pathTokens
  let s1 := (s.modLane l fun x => x.jammed cause).evalDrift l
  let s2 := toks.foldl (fun s t => s.modToken t Page.addLost) s1
  let s3 := toks.foldl (fun s t => s.cancelImage l t) s2
  s3.occur Ev.laneJammed l.val

/-- A jam cause or LANE_HALT reaches a lane (R48); it has no effect outside the moving states. The order of
what follows is the model's (log 40). -/
def onJam (l : LaneId) (cause : JamCause) (s : State) : Move :=
  if (s.lane l).state.moving then (s.toJammed l cause, [.fgc, .retire, .release l]) else (s, [])

/-- The dwell limit of the sensor page is exceeded (R47). -/
def State.dwells (s : State) (l : LaneId) : Bool :=
  (s.lane l).sensor.isSome &&
    ((s.lane l).path.find? Sheet.onSensor).any fun sh =>
      sh.lead.any fun p => decide (p + off (sh.lenMax + 50) sh.pitch < (s.lane l).high)

/-- The DWELL and POSITION_LIMIT tests at a new high-water position (R47). Where both hold at one position the
cause recorded is DWELL, which is the model's choice (log 6). -/
def onJamChecks (l : LaneId) (s : State) : Move :=
  if (s.lane l).state.moving then
    if s.dwells l then (s, [.jam l .dwell])
    else if (Config.counterMax : Int) ≤ (s.lane l).counter then (s, [.jam l .positionLimit])
    else (s, [])
  else (s, [])

/-! ### The encoder (R22, R23) -/

/-- A forward step of the encoder with the amplitude at the new position (R22, R23). -/
def forwardStep (l : LaneId) (amplitude : BitVec 10) (s : State) : Move :=
  let s1 := s.modLane l fun x => { x with amplitude := amplitude }
  if (s.lane l).state.resting then (s1, [])
  else
    let c := if (s.lane l).counter < Config.counterMax then (s.lane l).counter + 1 else (s.lane l).counter
    let s2 := s1.modLane l fun x => { x with counter := c }
    if ((s.lane l).high : Int) < c then
      (s2.modLane l fun x => { x with high := c.toNat },
        [.edge l, .scheduled l, .gapPick l, .samples l, .air l, .jamChecks l])
    else (s2, [])

/-- The counter has gone back past the reverse limit (R47). -/
def State.reversed (s : State) (l : LaneId) : Bool :=
  decide ((s.lane l).counter < ((s.lane l).high : Int) - off (s.laneRec l).reverseLimit (s.laneRec l).pitch)

/-- A reverse step of the encoder (R22), with the REVERSE test (R47). -/
def reverseStep (l : LaneId) (s : State) : Move :=
  if (s.lane l).state.resting then (s, [])
  else
    let s1 := s.modLane l fun x =>
      { x with counter := if -(Config.counterMax : Int) - 1 < x.counter then x.counter - 1 else x.counter }
    (s1, if (s.lane l).state.moving && s1.reversed l then [.jam l .reverse] else [])

/-! ### The tray sensor (R37) -/

/-- A change of the tray sensor: paper takes TRAY_EMPTY out of the set, but in JAMMED the sensor is not acted
on (R37, R48; log 13). -/
def trayChange (l : LaneId) (paper : Bool) (s : State) : Move :=
  let s1 := s.modLane l fun x => { x with trayPaper := paper }
  if paper ∧ (s.lane l).trayEmpty ∧ (s.lane l).state ≠ .jammed then
    (s1.modLane l fun x => { x with trayEmpty := false }, [.holds])
  else (s1, [])

/-- Expiry of the runout timer (R32). -/
def runoutExpiry (l : LaneId) (s : State) : Move :=
  if (s.lane l).runoutTimer.isSome ∧ (s.lane l).state = .runout ∧ (s.lane l).path ≠ [] then
    onJam l .runoutTimeout s
  else (s, [])

/-! ### Lane requests (R27-R29, R49) -/

/-- LANE_START on a lane (R27): the state after, what it entails, and the status. -/
def startLane (l : LaneId) (s : State) : Move × Status :=
  if !s.laneEnabled l then ((s, []), .state)
  else
    match (s.lane l).state with
    | .idle => (((s.modLane l Lane.zeroCounter).toRampUp l, [.fgc]), .ok)
    | .runout => ((s.modLane l fun x => { x with state := .holding, runoutTimer := none }, [.fgc]), .ok)
    | .rampDown => ((s.toRampUp l, [.fgc]), .ok)
    | .rampUp => ((s, []), .ok)
    | .feeding => ((s, []), .ok)
    | .holding => ((s, []), .ok)
    | .retryWait => ((s, []), .ok)
    | .off => ((s, []), .state)
    | .jammed => ((s, []), .state)

/-- LANE_STOP on a lane (R28). -/
def stopLane (l : LaneId) (s : State) : Move × Status := (onEnterRunout l s, .ok)

/-- LANE_HALT on a lane (R29). -/
def haltLane (l : LaneId) (s : State) : Move × Status := (onJam l .halt s, .ok)

/-- LANE_CLEAR on a lane (R49). The order of what follows is the model's (log 40). -/
def clearLane (l : LaneId) (s : State) : Move × Status :=
  if (s.lane l).state = .jammed then
    (((s.toRest l).modLane l fun x => { x with path := [], sensor := none, gap := .clear },
      [.fgc, .adoptMoment l]), .ok)
  else ((s, []), .state)

/-! ### Step 3 of an adoption (R50) -/

/-- The LTC acts on the new record's enabled field (R50). -/
def State.adoptEnabled (s : State) (l : LaneId) : State :=
  match (s.lane l).state with
  | .off => if s.laneEnabled l then s.modLane l fun x => { x.zeroCounter with state := .idle } else s
  | .idle =>
    if s.laneEnabled l then s
    else s.modLane l fun x => { x.zeroCounter with state := .off, trayEmpty := false }
  | .rampUp => if s.laneEnabled l then s else s.toRunout l
  | .feeding => if s.laneEnabled l then s else s.toRunout l
  | .holding => if s.laneEnabled l then s else s.toRunout l
  | .retryWait => if s.laneEnabled l then s else s.toRunout l
  | .runout => s
  | .rampDown => s
  | .jammed => s

/-- Step 3 of R178: the LTC acts on the new LANE record and re-evaluates its set; the HI re-evaluates the
HEAD_DOWN raw (R102). -/
def onAdoptLtc (l : LaneId) (s : State) : Move := ((s.adoptEnabled l).evalHeadDown l, [.holds])

end Sys2Proof.Machine
end

