-- ==== Sys2Proof/Machine/Release.lean ====
section
/-! DEFINITION. Verdict assembly, the Hold and Release Unit and the Lane Sequencer (chapters 1, 6 and 7). -/

namespace Sys2Proof.Machine

/-! ### Assembly (R16-R18) -/

/-- The verdict and the action are written, and the page becomes READY or HELD (R17, R18). -/
def Page.judged (p : Page) (r : ProfileRec) : Page :=
  { p with
    verdict := some p.flags.verdict
    action := some (p.flags.action r)
    state := if p.flags.action r = .pass then .ready else .held
    holdReason := if p.flags.action r = .pass then none else some .verdict }

/-- What the page's action entails (R18): a release for PASS; PAGE_HELD, and for STOP also RUNOUT. The order
is the model's (log 40). -/
def actionTasks (l : LaneId) : Action → List Task
  | .pass => [.retire, .release l]
  | .hold => [.retire, .holds]
  | .stop => [.retire, .enterRunout l, .holds]

/-- The verdict of an IN_PATH page is assembled when its three parts are complete (R16). -/
def onAssemble (token : Nat) (s : State) : Move :=
  match s.live token with
  | none => (s, [])
  | some (i, p) =>
    if p.state = .inPath ∧ p.complete then
      let r := s.pickProfileRec p.lane p.genPick
      let s1 := s.modPage i fun p => p.judged r
      (if p.flags.action r = .pass then s1 else s1.occur Ev.pageHeld p.lane.val,
        actionTasks p.lane (p.flags.action r))
    else (s, [])

/-! ### The batch context (R134-R143) -/

/-- The action of a page's mark in a mark map: none for mark 0 (R135). -/
def markAction (m : Vector MarkAction 15) (mark : BitVec 4) : MarkAction :=
  if mark = 0 then .ignore else (m.toList[mark.toNat - 1]?).getD .ignore

/-- The close information of a page; a page without one counts as the default (R92). -/
def Page.closeInfo (p : Page) : CloseInfo := p.close.getD CloseInfo.default

/-- The action compares the page's ticket (R136). -/
def MarkAction.isTicket : MarkAction → Bool
  | .ticketKeep => true
  | .ticketDrop => true
  | _ => false

/-- The page is dropped at step 5 (R140). -/
def MarkAction.drops : MarkAction → Bool
  | .sepDrop => true
  | .ticketDrop => true
  | .classDrop _ => true
  | _ => false

/-- The numbers, class, ticket and flags of a new batch (R137, steps 2-5). -/
def Batch.begin (b : Batch) (cls : Fin 32) (ticket : Option (List Byte)) : Batch :=
  { b with
    number := min 4294967295 (b.number + 1)
    document := 0
    page := 0
    cls := cls
    lastTicket := ticket
    startDoc := true
    firstOfBatch := true }

/-- The new batch, after its adoption (R137, steps 2-6). The FGC acts on the change of
class, and the page then goes on at step 3 of R134. -/
def onNewBatch (l : LaneId) (token : Nat) (s : State) : Move :=
  match s.live token with
  | none => (s, [])
  | some (_, p) =>
    ((s.modBatch l fun b => b.begin (s.profileRec l).defaultClass p.closeInfo.ticket).occur Ev.batchNew l.val,
      [.fgc])

/-- The sequencer takes the page in entry `i`: steps 1 and 2 of R134. -/
def takePage (l : LaneId) (i : Fin 64) (p : Page) (s : State) : Move :=
  let prof := s.profileRec l
  let action := markAction ((s.laneTables l).markmap[prof.markmap]) p.closeInfo.mark
  let tok := s.tokenOf i
  let s1 := s.modBatch l fun b => { b with opened := true }
  let rest := Task.lsqMarks l tok action prof.blankDrop
  if action.isTicket then
    if p.closeInfo.ticket = (s.lane l).batch.lastTicket then (s1.occur Ev.ticketRepeat l.val, [rest])
    else (s1, [.adopt l, .newBatch l tok, rest])
  else (s1, [rest])

/-- The HRU names the release head, and hands it to an IDLE sequencer when it is a READY page without release
information (R126, R127, R133). -/
def onRelease (l : LaneId) (s : State) : Move :=
  match s.releaseHead l with
  | .page i p =>
    if p.state = .ready ∧ p.release = none ∧ (s.lane l).batch.seqState = .idle then takePage l i p s
    else (s, [])
  | .none => (s, [])
  | .slot _ => (s, [])

/-- What a separator does to the batch context (R139). -/
def Batch.separator (b : Batch) (split : Split) : Batch :=
  match split with
  | .mark => { b with startDoc := true }
  | .count _ => { b with startDoc := true }
  | .ticket => b

/-- Steps 3 and 4 of R134 (R139). -/
def Batch.marked (b : Batch) (split : Split) : MarkAction → Batch
  | .sepKeep => b.separator split
  | .sepDrop => b.separator split
  | .classKeep c => { b.separator split with cls := c }
  | .classDrop c => { b.separator split with cls := c }
  | .ignore => b
  | .ticketKeep => b
  | .ticketDrop => b

/-- A page is dropped as blank (R141). -/
def CloseInfo.blankDropped (c : CloseInfo) (blankDrop : Bool) : Bool := c.mark == 0 && c.blank && blankDrop

/-- Steps 3-6 of R134: the separator or class switch, then a drop, or the page goes on to be numbered. The
change of class reaches the FGC in the same act (R53, R139). That step 5 frees the entry of a dropped page before
the FGC acts on the change of class, and that for a kept page the FGC acts, with the holds and picks this
brings, before steps 7-9 is the model's choice (log 35). -/
def onLsqMarks (l : LaneId) (token : Nat) (action : MarkAction) (blankDrop : Bool) (s : State) : Move :=
  match s.live token with
  | none => (s, [])
  | some (i, p) =>
    let s1 := s.modBatch l fun b => b.marked (s.profileRec l).split action
    if action.drops || p.closeInfo.blankDropped blankDrop then
      (s1.freeEntry i, .fgc :: freedTasks l false)
    else (s1, [.fgc, .lsqNumber l token])

/-- The count split of step 7 (R142). -/
def Split.reached (split : Split) (page : Nat) : Bool :=
  match split with
  | .count n => decide (n ≤ page)
  | .mark => false
  | .ticket => false

/-- Step 7 forces a split (R142). -/
def Batch.forced (b : Batch) (split : Split) (maxDocPages : Nat) : Bool :=
  !b.startDoc && !split.reached b.page && decide (maxDocPages ≤ b.page)

/-- Step 7 of R134 (R142). -/
def Batch.splitTests (b : Batch) (split : Split) (maxDocPages : Nat) : Batch :=
  { b with startDoc := b.startDoc || split.reached b.page || decide (maxDocPages ≤ b.page) }

/-- Step 8 of R134 (R143). -/
def Batch.numbered (b : Batch) : Batch :=
  { b with
    document := if b.startDoc then min 4294967295 (b.document + 1) else b.document
    page := if b.startDoc then 1 else min 4095 (b.page + 1)
    startDoc := false
    firstOfBatch := false }

/-- The release information written at step 8 (R143): `b` is the context before the numbering. -/
def Batch.releaseInfo (b : Batch) : ReleaseInfo where
  batch := b.number
  document := b.numbered.document
  page := b.numbered.page
  cls := b.cls
  firstOfDocument := b.startDoc
  firstOfBatch := b.firstOfBatch

/-- Steps 7 and 8 of R134; step 9 is the attempt that follows. -/
def onLsqNumber (l : LaneId) (token : Nat) (s : State) : Move :=
  match s.live token with
  | none => (s, [])
  | some (i, _) =>
    let split := (s.profileRec l).split
    let limit := (s.classRec l (s.lane l).batch.cls).maxDocPages
    let b := (s.lane l).batch.splitTests split limit
    let s1 := (s.modPage i fun p => { p with release := some b.releaseInfo }).modBatch l fun _ => b.numbered
    (if (s.lane l).batch.forced split limit then s1.occur Ev.docSplitForced l.val else s1,
      [.attempt l token])

/-! ### Enqueue and the wait for room (R145-R147, R154) -/

/-- A copy joins a channel's queue at its tail (R154). -/
def State.enqueue (token size : Nat) (s : State) (c : ChanId) : State :=
  s.setChan c { s.chan c with queue := (s.chan c).queue ++ [⟨token, size, 0⟩] }

/-- The page is admitted (R154, R13): a copy on every channel named, the page QUEUED, the sequencer IDLE with
its wait timer stopped and its stall raw false (R145). -/
def State.admitCopies (s : State) (l : LaneId) (i : Fin 64) (token size : Nat) (cs : List ChanId) : State :=
  ((cs.foldl (State.enqueue token size) s).modPage i fun p =>
      { p with state := .queued, copies := cs.length }).modBatch l
    (fun b => { b with seqState := .idle, waitTimer := none, stallRaw := false }) |>.setRaw
    Ev.releaseStall l.val false

/-- The refusal that takes the sequencer from IDLE to WAITING starts the wait timer; a refused retry changes
nothing (R146, R147). -/
def State.refuse (s : State) (l : LaneId) (token : Nat) : State :=
  if (s.lane l).batch.seqState = .idle then
    s.modBatch l fun b => { b with seqState := .waiting token, waitTimer := some 0 }
  else s

/-- An enqueue attempt (R145). The order of what an admission entails is the model's (log 40). -/
def onAttempt (l : LaneId) (token : Nat) (s : State) : Move :=
  match s.live token with
  | none => (s, [])
  | some (i, p) =>
    if p.state = .ready then
      match s.releaseClass p with
      | none => (s, [])
      | some r =>
        if s.admissible p then
          (s.admitCopies l i token p.copySize r.channels, r.channels.map Task.fillEval ++ [.release l])
        else (s.refuse l token, [])
    else (s, [])

/-- The lane's sequencer is WAITING on a page that a retry would admit; with a channel given, the page's class
must name it (R146, R158). -/
def State.retryAdmits (s : State) (c : Option ChanId) (l : LaneId) : Bool :=
  match (s.lane l).batch.seqState with
  | .idle => false
  | .waiting token =>
    match s.live token with
    | none => false
    | some (_, p) =>
      p.state == .ready && s.admissible p &&
        match c, s.releaseClass p with
        | none, _ => true
        | some c, some r => r.channels.contains c
        | some _, none => false

/-- The token a sequencer waits for. -/
def Batch.waitToken (b : Batch) : Nat :=
  match b.seqState with
  | .waiting token => token
  | .idle => 0

/-- One of the sequencers that would be admitted retries. -/
def retryNext (c : Option ChanId) (s : State) : (ready : List LaneId) → Move
  | [] => (s, [])
  | l :: ls =>
    ((s.takeOne l ls).2,
      [.attempt (s.takeOne l ls).1 (s.lane (s.takeOne l ls).1).batch.waitToken, .retries c])

/-- The waiting sequencers retry one at a time; which is taken first is not fixed (R154, R158, log 7). A
refused retry changes nothing (R146), so only those that would be admitted are taken. That the lane admitted
asks for its next pages before another lane retries is the model's choice (log 36). -/
def onRetries (c : Option ChanId) (s : State) : Move :=
  retryNext c s (allLanes.filter (s.retryAdmits c))

/-- The wait has lasted 2,000 ms: the stall raw becomes true (R147). -/
def waitExpiry (l : LaneId) (s : State) : Move :=
  match (s.lane l).batch.waitTimer with
  | some e =>
    if (s.lane l).batch.stallRaw then (s, [])
    else
      ((s.modBatch l fun b => { b with waitTimer := some (max e Config.stallMs), stallRaw := true }).setRaw
        Ev.releaseStall l.val true, [])
  | none => (s, [])

/-! ### Step 5 of an adoption (R148) -/

/-- The current class of a context that is not opened follows the new tables (R148). -/
def onAdoptLsq (l : LaneId) (s : State) : Move :=
  (s.modBatch l fun b => if b.opened then b else { b with cls := (s.profileRec l).defaultClass }, [])

/-! ### Resolutions and slots (R113-R123) -/

/-- The HELD page that a token names (R113). -/
def State.heldPage (s : State) (token : Nat) : Option (Fin 64 × Page) :=
  match s.live token with
  | some (i, p) => if p.state = .held then some (i, p) else none
  | none => none

/-- ACCEPT on a page record (R114). -/
def Page.accepted (p : Page) : Page :=
  let q := { p with flags := { p.flags with accepted := true }, holdReason := none, state := .ready }
  if p.image = .notOpen then q.closeImage CloseInfo.default else q

/-- PAGE_RESOLVE with action ACCEPT (R113, R114). The order of what follows is the model's (log 40). -/
def acceptPage (token : Nat) (s : State) : Move × Status :=
  match s.heldPage token with
  | none => ((s, []), .notHeld)
  | some (i, p) => ((s.modPage i Page.accepted, [.holds, .release p.lane]), .ok)

/-- PAGE_RESOLVE with action DROP (R113, R115). -/
def dropPage (token : Nat) (s : State) : Move × Status :=
  match s.heldPage token with
  | none => ((s, []), .notHeld)
  | some (i, p) => ((s.freeEntry i, freedTasks p.lane false), .ok)

/-- The conditions of R116 for a page at (seq, s). They do not ask whether a position above s was vacated
before, which is the model's reading (log 33). -/
def State.slotRangeRefused (s : State) (l : LaneId) (pos : SeqPos) (n : Nat) : Bool :=
  let later (q : SeqPos) : Bool := q.seq == pos.seq && decide (pos.sub < q.sub)
  decide (4 < pos.sub + n)
    || decide (0 < s.countPages fun p => p.lane == l && later p.pos)
    || (s.lane l).slots.any later
    || (s.lane l).loan.any later
    || decide (8 < (s.lane l).slots.length + (if (s.lane l).loan.isSome then 1 else 0) + n)

/-- The slots (seq, s) up to (seq, s + n - 1) enter the list (R117). -/
def openSlots (pos : SeqPos) (n : Nat) (slots : List SeqPos) : List SeqPos :=
  (List.range n).foldl (fun ss k => insertSlot ⟨pos.seq, pos.sub + k⟩ ss) slots

/-- PAGE_RESOLVE with action RESCAN (R113, R116, R117). -/
def rescanPage (token n : Nat) (s : State) : Move × Status :=
  if n < 1 ∨ 4 < n then ((s, []), .range)
  else
    match s.heldPage token with
    | none => ((s, []), .notHeld)
    | some (i, p) =>
      if s.slotRangeRefused p.lane p.pos n then ((s, []), .slotRange)
      else
        (((s.freeEntry i).modLane p.lane fun x => { x with slots := openSlots p.pos n x.slots },
          freedTasks p.lane false), .ok)

/-- SLOT_CANCEL of a slot of a lane (R123). The order of what follows is the model's (log 40). -/
def cancelSlot (l : LaneId) (pos : SeqPos) (s : State) : Move × Status :=
  if pos ∈ (s.lane l).slots then
    ((s.modLane l fun x => { x with slots := x.slots.erase pos }, [.holds, .release l, .adoptMoment l]), .ok)
  else ((s, []), .noSlot)

end Sys2Proof.Machine
end

