-- ==== Sys2Proof/Machine/Egress.lean ====
section
/-! DEFINITION. The Egress Queue Manager: fill states, completed copies, pause (chapter 8). -/

namespace Sys2Proof.Machine

/-- A channel takes a fill state, and hands its raw levels to the Event Reporter (R157). -/
def State.setFillState (s : State) (c : ChanId) (f : FillState) : State :=
  ((s.setChan c { s.chan c with fillState := f }).setRaw Ev.channelNear c.val (f != .opened)).setRaw
    Ev.channelFull c.val (f == .full)

/-- The fill state after a re-evaluation; a disabled record keeps the value it had (R157). -/
def State.newFillState (s : State) (c : ChanId) : FillState :=
  if (s.channelRec c).enabled then
    FillState.settle (s.channelRec c) (s.chan c).fill (s.chan c).fillState
  else (s.chan c).fillState

/-- The fill state of a channel is re-evaluated, and a change is handed to the FGC (R157, R158). -/
def onFillEval (c : ChanId) (s : State) : Move :=
  if s.newFillState c = (s.chan c).fillState then (s, [])
  else (s.setFillState c (s.newFillState c), [.fgc])

/-- The EQM acts on the channels' new records (R159): fill states are re-evaluated and the waiting sequencers
retry. A disabled record is left alone by both. The order of this work is the model's choice (log 37). -/
def onAdoptChannels (old : Gen) (s : State) : Move :=
  if old = s.channelGen then (s, []) else (s, allChans.map Task.fillEval ++ [.retries none])

/-- One more cell of the copy at the head of a queue has been sent; a copy that has sent all its cells leaves
the queue (R164, R165). -/
def advanceQueue : List Copy → List Copy
  | [] => []
  | x :: xs => if x.size ≤ x.sent + 1 then xs else { x with sent := x.sent + 1 } :: xs

/-- The copy at the head of the queue sends its last cell (R165). -/
def headCompletes (q : List Copy) : Bool := q.head?.any fun x => decide (x.size ≤ x.sent + 1)

/-- Copies outstanding falls by one; at 0 the page is freed (R13, R165). -/
def State.copyDone (s : State) (token : Nat) : Move :=
  match s.live token with
  | none => (s, [])
  | some (i, p) =>
    if p.copies ≤ 1 then (s.freeEntry i, freedTasks p.lane false)
    else (s.modPage i fun p => { p with copies := p.copies - 1 }, [])

/-- A channel cell has been handed whole to the link (R158, R164, R165). The order of what follows is the
model's (log 16, log 40). -/
def cellSent (c : ChanId) (s : State) : Move :=
  match (s.chan c).queue with
  | [] => (s, [])
  | x :: _ =>
    let s1 := s.setChan c { s.chan c with queue := advanceQueue (s.chan c).queue }
    if headCompletes (s.chan c).queue then
      let t := s1.copyDone x.token
      (t.1, t.2 ++ [.fillEval c, .retries (some c)])
    else (s1, [.fillEval c, .retries (some c)])

/-! ### Far-end pause (R160, R161) -/

/-- The channel that a channel number 1-8 names on a trunk (R160). -/
def channelOf (t : Trunk) (n : Nat) : Option ChanId :=
  if h : 1 ≤ n ∧ n ≤ 8 then some ⟨trunkIndex t * 8 + (n - 1), by cases t <;> simp only [trunkIndex] <;> omega⟩
  else none

/-- PAUSE on or off for a channel number (R160). -/
def takePause (t : Trunk) (n : Nat) (timer : Option Nat) (s : State) : Move :=
  match channelOf t n with
  | some c => (s.setChan c { s.chan c with pauseTimer := timer }, [])
  | none => (s, [])

/-- Expiry of a channel's pause timer (R161). -/
def pauseExpiry (c : ChanId) (s : State) : Move :=
  if (s.chan c).pauseTimer.isSome then
    ((s.setChan c { s.chan c with pauseTimer := none }).occur Ev.pauseExpired c.val, [])
  else (s, [])

end Sys2Proof.Machine
end

