-- ==== Sys2Proof/Machine/Banks.lean ====
section
/-! DEFINITION. The Table Banks: commit, adoption, retirement, the bank copy (chapter 9). -/

namespace Sys2Proof.Machine

/-! ### Retirement and the bank copy (R180, R181) -/

/-- PENDING becomes ACTIVE, the old ACTIVE bank becomes RETIRED, the adopted set is emptied and the bank copy
begins (R180). -/
def State.retireTo (s : State) (g : Gen) : State :=
  { s with
    activeBank := s.otherBank
    activeGen := g
    otherRole := .retired Config.bankCopyMs
    lanes := s.lanes.map fun x => { x with adopted := false } }

/-- The old generation is retired when every lane has adopted and no unjudged page names it (R180). -/
def onRetire (s : State) : Move :=
  match s.pendingGen with
  | some g => if s.allAdopted ∧ s.refCount s.activeGen = 0 then (s.retireTo g, []) else (s, [])
  | none => (s, [])

/-- Completion of the bank copy (R181); without one in flight nothing changes. -/
def copyComplete (s : State) : Move :=
  if s.copying then
    ({ s with
        banks := s.banks.set s.otherBank s.banks[s.activeBank]
        otherRole := .shadow }.occur Ev.tablesReady 0, [])
  else (s, [])

/-! ### Adoption (R177, R178) -/

/-- Step 1 of R178, and the change of channel generation of step 2 (R151). Until step 6 the in-use sets and
QUEUE_FULL keep the lane's group and class of the old generation, and its target is left (R63; log 39). -/
def State.switchTo (s : State) (l : LaneId) (g : Gen) : State :=
  { s.modLane l fun x => { x with gen := g, adopted := true, adoptingFrom := some x.gen } with
    channelGen := g }

/-- Adoption by a lane (R178): nothing when no generation is pending or the lane has adopted it. Steps 2 to 6
follow in order, then step 7 for a WAITING sequencer, and step 8 for the lane that is the last of the six. -/
def onAdopt (l : LaneId) (s : State) : Move :=
  match s.pendingGen with
  | none => (s, [])
  | some g =>
    if (s.lane l).adopted then (s, [])
    else
      let s1 := s.switchTo l g
      (s1, [.adoptChannels s.channelGen, .adoptLtc l, .adoptDfm l, .adoptLsq l, .adoptFgc l]
        ++ (match (s.lane l).batch.seqState with
            | .waiting token => [.attempt l token]
            | .idle => [])
        ++ (if s1.allAdopted then [.adoptEnd] else []))

/-- Step 8 of R178: TABLES_ADOPTED is latched and R180 applies. -/
def onAdoptEnd (s : State) : Move := (s.occur Ev.tablesAdopted 0, [.retire])

/-- The adoption moments OFF and IDLE of a lane (R177). -/
def onAdoptMoment (l : LaneId) (s : State) : Move :=
  if s.mayAdopt l ∧ s.atMoment l then (s, [.adopt l]) else (s, [])

/-- A lane whose adoption touches nothing that another lane's does: it rests and its sequencer does not
wait. -/
def State.adoptsAlone (s : State) (l : LaneId) : Bool :=
  (s.lane l).state.resting && (s.lane l).batch.seqState == .idle

/-- The next of the lanes that are left adopts; `alone` are those of them that adopt alone. -/
def adoptNext (s : State) : (left alone : List LaneId) → Move
  | left, l :: _ => (s, [.adopt l, .adoptAll (left.erase l)])
  | [], [] => (s, [])
  | l :: ls, [] =>
    ((s.takeOne l ls).2, [.adopt (s.takeOne l ls).1, .adoptAll ((l :: ls).erase (s.takeOne l ls).1)])

/-- Several lanes adopt in one act (R176, R178), one after another: those that rest first, in ascending
order; of several others, which goes first is not fixed (log 9). -/
def onAdoptAll (ls : List LaneId) (s : State) : Move :=
  adoptNext s (ls.filter s.mayAdopt) ((ls.filter s.mayAdopt).filter s.adoptsAlone)

/-! ### The table requests (R173-R176, R182) -/

/-- The SHADOW bank becomes PENDING under the next number, with an empty adopted set (R176, step 1). -/
def State.makePending (s : State) : State :=
  { s with
    genCounter := s.genCounter + 1
    otherRole := .pending (s.genCounter + 1)
    lanes := s.lanes.map fun x => { x with adopted := false } }

/-- The lanes that adopt in the act of a commit: all under NOW, those at a moment under BOUNDARY (R176). -/
def State.committed (s : State) (now : Bool) : List LaneId := allLanes.filter fun l => now || s.atMoment l

/-- TABLE_COMMIT (R175, R176): mode 0 is BOUNDARY and 1 is NOW. -/
def commitTables (mode : Nat) (s : State) : Move × Status :=
  if 1 < mode then ((s, []), .range)
  else
    match s.otherRole with
    | .retired _ => ((s, []), .busy)
    | .pending _ => ((s, []), .pending)
    | .shadow =>
      match (s.banks[s.otherBank]).fault with
      | some (t, i) => ((s, []), .invalid t.code i)
      | none => ((s.makePending, [.adoptAll (s.committed (mode == 1))]), .ok)

/-- TABLE_LOAD (R173, R174): the whole record is written into the SHADOW bank. `len` says that the payload has
the length its table code gives (R201). -/
def loadTable (table index : Nat) (record : List Byte) (s : State) : Move × Status :=
  match tableOfCode table with
  | none => ((s, []), .range)
  | some id =>
    if record.length ≠ id.recordLength then ((s, []), .range)
    else
      match (s.banks[s.otherBank]).load id index record with
      | none => ((s, []), .range)
      | some (t, clamped) =>
        match s.otherRole with
        | .retired _ => ((s, []), .busy)
        | .pending _ => ((s, []), .pending)
        | .shadow =>
          (({ s with banks := s.banks.set s.otherBank t }, []), if clamped then .clamped else .ok)

/-- The record reply of TABLE_READ: the bank's generation, then the record (section 11.5). -/
def tableReply (gen : Option Gen) (record : List Byte) : List Byte :=
  optBytes 2 (gen.map BitVec.toNat) ++ record

/-- TABLE_READ (R182): bank operands 0 ACTIVE, 1 PENDING, 2 SHADOW. -/
def readTable (bank table index : Nat) (s : State) : Status × List Byte :=
  match tableOfCode table with
  | none => (.range, [])
  | some id =>
    if 2 < bank ∨ id.entries ≤ index then (.range, [])
    else
      let answer (b : Fin 2) (gen : Option Gen) : Status × List Byte :=
        (.ok, tableReply gen (((s.banks[b]).recordBytes id index).getD []))
      match bank, s.otherRole with
      | 0, _ => answer s.activeBank (some s.activeGen)
      | 1, .pending g => answer s.otherBank (some g)
      | 1, _ => (.state, [])
      | _, .retired _ => (.busy, [])
      | _, .pending _ => (.state, [])
      | _, .shadow => answer s.otherBank none

end Sys2Proof.Machine
end

