-- ==== Sys2Proof/Machine/Cells.lean ====
section
/-! DEFINITION. The cells on the links: the CRC, the bytes of a cell that is sent, and the command that a
received cell is (chapter 11). -/

namespace Sys2Proof.Machine

/-! ### The CRC (R199) -/

/-- One bit of the CRC's division by 1021h. -/
def crcShift (c : BitVec 16) : BitVec 16 := if c.msb then (c <<< 1) ^^^ 0x1021#16 else c <<< 1

/-- One byte, most significant bit first. -/
def crcByte (c : BitVec 16) (b : Byte) : BitVec 16 :=
  (List.range 8).foldl (fun c _ => crcShift c) (c ^^^ (b.setWidth 16 <<< 8))

/-- The CRC-16 of bytes: initial value FFFFh, no final inversion (R199). -/
def crc16 (bs : List Byte) : BitVec 16 := bs.foldl crcByte 0xFFFF#16

/-! ### Kind codes (section 11.5) -/

namespace Kind

def idle : Byte := 0x00
def data : Byte := 0x01
def close : Byte := 0x02
def abort : Byte := 0x03
def gateOpen : Byte := 0x08
def gateClose : Byte := 0x09
def cancel : Byte := 0x0A
def pageStart : Byte := 0x10
def request : Byte := 0x20
def reply : Byte := 0x21
def report : Byte := 0x22
def pause : Byte := 0x23

/-- The codes of the kind table. -/
def all : List Byte :=
  [idle, data, close, abort, gateOpen, gateClose, cancel, pageStart, request, reply, report, pause]

end Kind

/-! ### Cells that are sent (R200) -/

/-- Header bytes 0-13 of a cell. -/
def OutCell.header (c : OutCell) : List Byte :=
  [c.kind] ++ le 1 c.channel ++ le 1 c.token ++ le 1 (bitOf c.endMark 0) ++ le 2 c.payload.length
    ++ padTo 8 c.special

/-- The bytes of a cell on the link: the header, the CRC, the payload. -/
def OutCell.bytes (c : OutCell) : List Byte :=
  c.header ++ le 2 (crc16 (c.header ++ c.payload)).toNat ++ c.payload

/-- An IDLE cell: every header field 0 except the CRC (R200). -/
def idleCell : OutCell := ⟨Kind.idle, 0, 0, false, [], []⟩

def HeadKind.code : HeadKind → Byte
  | .gateOpen => Kind.gateOpen
  | .gateClose => Kind.gateClose
  | .cancel => Kind.cancel

/-- A head port cell as it is sent (section 11.5). -/
def HeadCell.cell (c : HeadCell) : OutCell := ⟨c.kind.code, 0, c.token, false, [], []⟩

/-- The cell a port offers while its link is UP. -/
def State.offered (s : State) : Port → Option OutCell
  | .head l => (s.head l).txQueue.head?.map HeadCell.cell
  | .trunk t => (s.trunk t).tx.map TxCell.cell

/-- What a port sends (R200): nothing in DOWN, IDLE cells in TRAINING, in UP the cell offered or IDLE. -/
def State.output (s : State) (p : Port) : Option OutCell :=
  match (s.link p).state with
  | .down => none
  | .training => some idleCell
  | .up => some ((s.offered p).getD idleCell)

/-! ### Cells that are received (R199, R201, R168) -/

/-- A received cell is valid (R199): at least a header, the payload length right and at most 1,024, the kind
known, the CRC right. -/
def validCell (bs : List Byte) : Bool :=
  decide (16 ≤ bs.length) && decide (field bs 4 2 ≤ 1024) && decide (bs.length = 16 + field bs 4 2)
    && Kind.all.contains (BitVec.ofNat 8 (field bs 0 1))
    && decide ((crc16 (bs.take 14 ++ bs.drop 16)).toNat = field bs 14 2)

/-- The command that a valid cell of a kind other than IDLE is on a head port (R201). -/
def headCommand (l : LaneId) (kind : Byte) (bs : List Byte) : Instr :=
  let token := BitVec.ofNat 8 (field bs 2 1)
  if kind = Kind.data then .data l token (bs.drop 16)
  else if kind = Kind.close then
    .close l token (BitVec.ofNat 4 (field bs 6 1)) (flagAt bs 7 0)
      (if flagAt bs 7 1 then some (bs.drop 16) else none)
  else if kind = Kind.abort then .abort l token
  else .cellDiscarded (.head l)

/-- The command that a valid cell of a kind other than IDLE is on a trunk port (R168, R201). -/
def trunkCommand (t : Trunk) (kind : Byte) (bs : List Byte) : Instr :=
  if kind = Kind.request ∧ field bs 1 1 = 0 then
    .request t (BitVec.ofNat 8 (field bs 6 1)) (BitVec.ofNat 8 (field bs 7 1)) (bs.drop 16)
  else if kind = Kind.pause then
    if flagAt bs 6 0 then .pauseOn t (BitVec.ofNat 8 (field bs 1 1))
    else .pauseOff t (BitVec.ofNat 8 (field bs 1 1))
  else .cellDiscarded (.trunk t)

/-- The command that a received cell's bytes are (R199, R201). -/
def receivedCommand (p : Port) (bs : List Byte) : Instr :=
  let kind := BitVec.ofNat 8 (field bs 0 1)
  if !validCell bs then .badCellReceived p
  else if kind = Kind.idle then .idleCellReceived p
  else
    match p with
    | .head l => headCommand l kind bs
    | .trunk t => trunkCommand t kind bs

end Sys2Proof.Machine
end

