-- ==== Sys2Proof/Machine/Status.lean ====
section
/-! DEFINITION. The records the part sends: page headers, reports and status records (R190, R202, section
11.5). -/

namespace Sys2Proof.Machine

/-! ### Codes (section 11.4) -/

def LaneState.code : LaneState → Nat
  | .off => 0
  | .idle => 1
  | .rampUp => 2
  | .feeding => 3
  | .holding => 4
  | .retryWait => 5
  | .runout => 6
  | .rampDown => 7
  | .jammed => 8

/-- FREE is 0. -/
def PageState.code : PageState → Nat
  | .picked => 1
  | .inPath => 2
  | .ready => 3
  | .held => 4
  | .queued => 5

def Verdict.code : Verdict → Nat
  | .clean => 0
  | .unverified => 1
  | .short => 2
  | .long => 3
  | .double => 4
  | .truncated => 5
  | .lost => 6

def HoldReason.code : HoldReason → Nat
  | .verdict => 0
  | .jam => 1

def JamCause.code : JamCause → Nat
  | .dwell => 0
  | .reverse => 1
  | .overrun => 2
  | .positionLimit => 3
  | .runoutTimeout => 4
  | .halt => 5

def Image.code : Image → Nat
  | .notOpen => 0
  | .opened => 1
  | .closed => 2

def GateProgress.code : GateProgress → Nat
  | .none => 0
  | .opened => 1
  | .closed => 2

def LinkState.code : LinkState → Nat
  | .down => 0
  | .training => 1
  | .up => 2

def FillState.code : FillState → Nat
  | .opened => 0
  | .near => 1
  | .full => 2

def ResetCause.code : ResetCause → Nat
  | .powerOn => 0
  | .pin => 1
  | .requestFull => 2
  | .requestLine => 3

def Status.code : Status → Nat
  | .ok => 0
  | .clamped => 1
  | .busy => 2
  | .pending => 3
  | .invalid _ _ => 4
  | .range => 5
  | .state => 6
  | .notHeld => 7
  | .slotRange => 8
  | .noSlot => 9
  | .unknown => 10

/-- A code, or all ones when the value is absent (R202). -/
def codeOr (o : Option Nat) : List Byte := le 1 (o.getD 255)

/-- A set of named items as a bitmap (R202). -/
def PageFlags.code (f : PageFlags) : Nat :=
  bitOf f.lost 0 + bitOf f.truncated 1 + bitOf f.double 2 + bitOf f.long 3 + bitOf f.short 4
    + bitOf f.unverified 5 + bitOf f.accepted 6

def Holding.code (h : Holding) : Nat :=
  bitOf h.holdLimit 0 + bitOf h.queueFull 1 + bitOf h.tableFull 2 + bitOf h.poolLow 3
    + bitOf h.trayEmpty 4 + bitOf h.seqLimit 5

/-- A sequence position: seq 4, sub 1. -/
def SeqPos.bytes (p : SeqPos) : List Byte := le 4 p.seq ++ le 1 p.sub

/-- An optional 48-bit position: presence and 6 bytes. -/
def optPos : Option Nat → List Byte
  | some p => 1 :: le48 p
  | none => 0 :: le48 0

/-! ### The page header (R164) -/

/-- Sonic 1, max_run 1, thick_count 2. -/
def Sonic.bytes : Sonic → List Byte
  | .pending => le 1 0 ++ le 1 0 ++ le 2 0
  | .done m c => le 1 1 ++ le 1 m ++ le 2 c
  | .unverified => le 1 2 ++ le 1 0 ++ le 2 0

/-- Batch 4, document 4, page-in-document 2, class 1, release flags 1. -/
def releaseBytes : Option ReleaseInfo → List Byte
  | some r =>
    le 4 r.batch ++ le 4 r.document ++ le 2 r.page ++ le 1 r.cls.val
      ++ le 1 (bitOf r.firstOfDocument 0 + bitOf r.firstOfBatch 1 + 4)
  | none => le 4 0 ++ le 4 0 ++ le 2 0 ++ le 1 0 ++ le 1 0

/-- The total of the byte counts of a page's cells (R109, R164). -/
def State.byteTotal (s : State) (p : Page) : Nat :=
  (p.cells.map fun c => (Memory.read s.mem c).length).sum

/-- The page header of the page in an entry: 36 bytes (R164). -/
def State.pageHeader (s : State) (token : Nat) (p : Page) : List Byte :=
  le 1 token ++ le 1 p.lane.val ++ p.pos.bytes ++ le 2 p.genPick.toNat ++ releaseBytes p.release
    ++ codeOr (p.verdict.map Verdict.code) ++ le 1 p.flags.code ++ le 2 (p.lengthMm.getD 65535)
    ++ p.sonic.bytes ++ leSat 2 p.cells.length ++ leSat 4 (s.byteTotal p) ++ le 1 0

/-! ### Reports (R196) -/

/-- The payload of a report: source set 2, count 1, raw-set presence 1, raw set 2. -/
def State.reportPayload (s : State) (c : Fin 20) : List Byte :=
  le 2 (s.event c).sources.toNat ++ le 1 (s.event c).count ++ byteOf (Ev.level c)
    ++ le 2 (if Ev.level c then (s.event c).raw.toNat else 0)

/-- The report cell of a class. -/
def State.reportCell (s : State) (c : Fin 20) : OutCell :=
  ⟨Kind.report, 0, 0, false, le 1 c.val, s.reportPayload c⟩

/-! ### Replies (R186) -/

/-- Table and index for INVALID, else 0. -/
def Status.detail : Status → List Byte
  | .invalid t i => le 1 t ++ le 1 i
  | .ok => [0, 0]
  | .clamped => [0, 0]
  | .busy => [0, 0]
  | .pending => [0, 0]
  | .range => [0, 0]
  | .state => [0, 0]
  | .notHeld => [0, 0]
  | .slotRange => [0, 0]
  | .noSlot => [0, 0]
  | .unknown => [0, 0]

/-- The reply cell. -/
def Reply.cell (r : Reply) : OutCell :=
  ⟨Kind.reply, 0, 0, false, [r.kind, r.tag] ++ le 1 r.status.code ++ r.status.detail, r.record⟩

/-! ### Status records (R190) -/

/-- The role (ACTIVE, PENDING, SHADOW, RETIRED) and the generation of a bank (R171). -/
def State.bankRole (s : State) (b : Fin 2) : Nat × Option Gen :=
  if b = s.activeBank then (0, some s.activeGen)
  else
    match s.otherRole with
    | .pending g => (1, some g)
    | .shadow => (2, none)
    | .retired _ => (3, none)

def State.bankBytes (s : State) (b : Fin 2) : List Byte :=
  le 1 (s.bankRole b).1 ++ optBytes 2 ((s.bankRole b).2.map BitVec.toNat)

/-- The adopted set as a bitmap. -/
def State.adoptedSet (s : State) : Nat :=
  (allLanes.map fun l => bitOf (s.lane l).adopted l.val).sum

/-- The part record. -/
def State.partStatus (s : State) : List Byte :=
  le 1 s.resetCause.code ++ le 1 s.nonFree ++ le 4 (FreeList.size s.pool) ++ s.bankBytes 0 ++ s.bankBytes 1
    ++ le 2 s.genCounter.toNat ++ le 1 s.adoptedSet ++ byteOf s.copying ++ le 2 s.channelGen.toNat
    ++ le 1 (trunkIndex s.mgmtTrunk)

def GapState.bytes : GapState → List Byte
  | .clear => le 1 0 ++ le48 0
  | .wait => le 1 1 ++ le48 0
  | .since p => le 1 2 ++ le48 p

/-- A path list entry: token 1, gen_pick 2, lead 7, trail 7, gate progress 1. -/
def Sheet.bytes (x : Sheet) : List Byte :=
  le 1 x.token ++ le 2 x.genPick.toNat ++ optPos x.lead ++ optPos x.trail ++ le 1 x.gate.code

/-- Ramp running 1, S0 2, E1 2, k 2, slope 2. -/
def rampBytes : Option Ramp → List Byte
  | some r => le 1 1 ++ le 2 r.origin ++ le 2 r.target ++ le 2 r.elapsed ++ le 2 r.slope
  | none => le 1 0 ++ le 2 0 ++ le 2 0 ++ le 2 0 ++ le 2 0

/-- Calibration 1, run count 1. -/
def Calibration.bytes : Calibration → List Byte
  | .none => le 1 0 ++ le 1 0
  | .running n _ => le 1 1 ++ le 1 n
  | .done => le 1 2 ++ le 1 0

/-- A window list entry: token 1, next k 2, N 3, void 1, thick 1, run 1, max_run 1. -/
def Window.bytes (w : Window) : List Byte :=
  le 1 w.token ++ leSat 2 w.next ++ optBytes 2 (w.samples.map (min 65535)) ++ byteOf w.void ++ byteOf w.thick
    ++ leSat 1 w.run ++ leSat 1 w.maxRun

/-- A held set entry: token 1, seq 4, sub 1, reason 1. -/
def State.heldBytes (s : State) (x : Fin 64 × Page) : List Byte :=
  le 1 (s.tokenOf x.1) ++ x.2.pos.bytes ++ codeOr (x.2.holdReason.map HoldReason.code)

/-- The loaned slot: presence and 5. -/
def loanBytes : Option SeqPos → List Byte
  | some q => 1 :: q.bytes
  | none => 0 :: (SeqPos.bytes ⟨0, 0⟩)

/-- The kind of a page at the release head: PICKED, IN_PATH, HELD, READY waiting for room (section 11.4). -/
def headKindOf : PageState → Nat
  | .picked => 1
  | .inPath => 2
  | .held => 3
  | .ready => 4
  | .queued => 0

/-- Release head kind 1, seq 4, sub 1, token 1. -/
def State.releaseHeadBytes (s : State) (l : LaneId) : List Byte :=
  match s.releaseHead l with
  | .none => le 1 0 ++ SeqPos.bytes ⟨0, 0⟩ ++ le 1 0
  | .page i p => le 1 (headKindOf p.state) ++ p.pos.bytes ++ le 1 (s.tokenOf i)
  | .slot q => le 1 5 ++ q.bytes ++ le 1 0

/-- Sequencer state 1, waiting token 1. -/
def SeqState.bytes : SeqState → List Byte
  | .idle => le 1 0 ++ le 1 0
  | .waiting t => le 1 1 ++ le 1 t

/-- The attempts of the lane's PICKED page; 0 when it has none. -/
def State.pickedAttempts (s : State) (l : LaneId) : Nat :=
  match s.pickedEntry l with
  | some i => ((s.pageAt i).map Page.attempts).getD 0
  | none => 0

/-- The transport part of a lane record (R25, R64). -/
def State.transportStatus (s : State) (l : LaneId) : List Byte :=
  let x := s.lane l
  le 1 l.val ++ le 1 x.state.code ++ le 1 (s.holding l).code ++ codeOr (x.lastJam.map JamCause.code)
    ++ x.gap.bytes ++ le48 x.counter ++ le48 x.high ++ le 5 x.nextSeq ++ le 2 (x.runoutTimer.getD 0)
    ++ le 1 (s.pickedAttempts l) ++ optBytes 1 x.sensor ++ listBytes (x.path.map Sheet.bytes)
    ++ le 2 x.speed ++ le 2 (motorCode x.speed) ++ le 2 x.target ++ rampBytes x.ramp
    ++ byteOf x.speedReached ++ byteOf (s.nearInUse l) ++ byteOf (s.fullInUse l)

/-- The monitor part of a lane record (R89). -/
def Dfm.status (d : Dfm) : List Byte :=
  byteOf d.degraded ++ d.calibration.bytes ++ le 2 d.b16 ++ le 2 d.bref16 ++ le 1 d.badAir
    ++ byteOf d.driftRaw ++ listBytes (d.windows.map Window.bytes)

/-- The intake part of a lane record (R109). -/
def State.intakeStatus (s : State) (l : LaneId) : List Byte :=
  le 1 (s.head l).link.state.code ++ le 1 (s.openEntries l).length
    ++ le 1 (s.countPages fun p => p.lane == l && p.image == .opened && p.imageTimer.isSome)
    ++ le 2 (s.head l).staleCount ++ le 2 (s.head l).link.errors
    ++ byteOf ((s.event Ev.headDown).raw.getLsbD l.val)

/-- The order part of a lane record (R130). -/
def State.orderStatus (s : State) (l : LaneId) : List Byte :=
  le 1 (s.laneNonFree l) ++ le 1 (s.heldCount l) ++ le 2 (s.lane l).gen.toNat
    ++ listBytes ((s.heldSet l).map s.heldBytes) ++ listBytes ((s.lane l).slots.map SeqPos.bytes)
    ++ loanBytes (s.lane l).loan ++ s.releaseHeadBytes l

/-- The sequencer part of a lane record (R149). -/
def Batch.status (b : Batch) : List Byte :=
  le 4 b.number ++ ticketBytes b.lastTicket ++ le 4 b.document ++ le 2 b.page ++ le 1 b.cls.val
    ++ byteOf b.startDoc ++ byteOf b.firstOfBatch ++ b.seqState.bytes ++ leSat 4 (b.waitTimer.getD 0)
    ++ byteOf b.stallRaw

/-- The lane record. -/
def State.laneStatus (s : State) (l : LaneId) : List Byte :=
  s.transportStatus l ++ (s.lane l).dfm.status ++ s.intakeStatus l ++ s.orderStatus l
    ++ (s.lane l).batch.status

/-- Close information: presence 1, mark 1, blank 1, ticket. -/
def closeBytes : Option CloseInfo → List Byte
  | some c => 1 :: (le 1 c.mark.toNat ++ byteOf c.blank ++ ticketBytes c.ticket)
  | none => 0 :: (le 1 0 ++ byteOf false ++ ticketBytes none)

/-- The copies of a page: channel 1 and sent 2 for each (R169), by ascending channel index, which is the
model's choice (log 38). -/
def State.copyBytes (s : State) (token : Nat) : List (List Byte) :=
  allChans.flatMap fun c =>
    ((s.chan c).queue.filter fun x => x.token == token).map fun x => le 1 c.val ++ le 2 x.sent

/-- The page record. -/
def State.pageStatus (s : State) (token : Nat) (p : Page) : List Byte :=
  s.pageHeader token p ++ le 1 p.state.code ++ codeOr (p.action.map Action.code)
    ++ codeOr (p.holdReason.map HoldReason.code) ++ le 1 p.attempts ++ optPos p.lead ++ optPos p.trail
    ++ le 1 p.image.code ++ closeBytes p.close ++ byteOf p.imageTimer.isSome ++ le 2 (p.imageTimer.getD 0)
    ++ le 1 p.copies ++ listBytes (s.copyBytes token)

/-- A queue entry: token 1, lane 1, seq 4, sub 1, size 2, sent 2. -/
def State.queueBytes (s : State) (x : Copy) : List Byte :=
  le 1 x.token
    ++ (match s.live x.token with
        | some (_, p) => le 1 p.lane.val ++ p.pos.bytes
        | none => le 1 0 ++ SeqPos.bytes ⟨0, 0⟩)
    ++ le 2 x.size ++ le 2 x.sent

/-- The channel record. -/
def State.channelStatus (s : State) (c : ChanId) : List Byte :=
  le 1 c.val ++ (s.channelRec c).bytes ++ le 4 (s.chan c).fill ++ le 1 (s.chan c).fillState.code
    ++ byteOf (s.chan c).pauseTimer.isSome ++ le 2 ((s.chan c).pauseTimer.getD 0)
    ++ listBytes ((s.chan c).queue.map s.queueBytes)

/-- The trunk record. -/
def State.trunkStatus (s : State) (t : Trunk) : List Byte :=
  le 1 (trunkIndex t) ++ le 1 (s.trunk t).link.state.code ++ le 1 ((s.trunk t).rr.val + 1)
    ++ byteOf (s.mgmtTrunk == t) ++ le 2 (s.trunk t).link.errors ++ le 1 (s.trunk t).requests.length
    ++ le 1 (s.trunk t).discards

/-- The event class record. -/
def State.eventStatus (s : State) (c : Fin 20) : List Byte :=
  let e := s.event c
  le 1 c.val ++ le 2 (if Ev.level c then e.raw.toNat else 0) ++ byteOf e.latch ++ le 2 e.sources.toNat
    ++ le 1 e.count ++ byteOf e.enabled ++ le 1 e.priority.val ++ byteOf e.reportPending

/-- The lane that a byte names (R26). -/
def laneOf (n : Nat) : Option LaneId := if h : n < 6 then some ⟨n, h⟩ else none

/-- The channel that an index names. -/
def chanOf (n : Nat) : Option ChanId := if h : n < 16 then some ⟨n, h⟩ else none

/-- The event class that a number names. -/
def classOf (n : Nat) : Option (Fin 20) := if h : n < 20 then some ⟨n, h⟩ else none

/-- The trunk that a code names. -/
def trunkOf : Nat → Option Trunk
  | 0 => some .a
  | 1 => some .b
  | _ => none

/-- The reply of a read: OK with the record, or RANGE. -/
def okOr (refusal : Status) : Option (List Byte) → Status × List Byte
  | some r => (.ok, r)
  | none => (refusal, [])

/-- STATUS_READ of an object and its operand (R190). -/
def readStatus (object operand : Nat) (s : State) : Status × List Byte :=
  match object with
  | 0 => (.ok, s.partStatus)
  | 1 => okOr .range ((laneOf operand).map s.laneStatus)
  | 2 => okOr .state ((s.live operand).map fun x => s.pageStatus operand x.2)
  | 3 => okOr .range ((chanOf operand).map s.channelStatus)
  | 4 => okOr .range ((trunkOf operand).map s.trunkStatus)
  | 5 => okOr .range ((classOf operand).map s.eventStatus)
  | _ => (.range, [])

end Sys2Proof.Machine
end

