-- ==== Sys2Proof/Machine/Resets.lean ====
section
/-! DEFINITION. The hard reset and the line reset (R191, and the reset rule of each chapter). -/

namespace Sys2Proof.Machine

/-- A lane after a hard reset: its input pins keep their levels (log 10). -/
def Lane.hardReset (x : Lane) : Lane :=
  { Lane.reset with entryBlocked := x.entryBlocked, trayPaper := x.trayPaper, amplitude := x.amplitude }

/-- A hard reset with its cause (R191, R197 and the chapters' reset rules). The queue of waiting commands is
the interface's, not the part's; a free cell's bytes cannot be read (log 11); the free draws go on. -/
def State.hardReset (s : State) (cause : ResetCause) : State :=
  { State.reset with
    pending := s.pending
    resetCause := cause
    freeDraws := s.freeDraws
    lanes := s.lanes.map Lane.hardReset
    mem := s.mem }

/-! ### The line reset -/

/-- CANCEL for the page in an entry when its image is OPEN and its lane's head link is UP (R110). -/
def State.cancelAtReset (s : State) (i : Fin 64) : State :=
  match s.pageAt i with
  | some p => if p.image = .opened then s.sendHead p.lane .cancel (s.tokenOf i) else s
  | none => s

/-- An entry that a line reset frees (R14). -/
def Entry.freed (e : Entry) : Entry :=
  match e.page with
  | some _ => ⟨(e.incarnation + 1) % 4, none⟩
  | none => e

/-- A cell being sent goes on, but no longer advances a count of a page that the reset has freed (R200). -/
def TxCell.detached (x : TxCell) : TxCell :=
  match x.owner with
  | .channel c _ => { x with owner := .channel c false }
  | .reply => x
  | .report _ => x

/-- A trunk at a line reset: only its round-robin pointer is set (R170, R191, R197). -/
def TrunkPort.lineReset (x : TrunkPort) : TrunkPort := { x with rr := 0, tx := x.tx.map TxCell.detached }

/-- A line reset's adoption of a pending generation, and its retirement (R183). -/
def State.adoptAtReset (s : State) : State :=
  match s.pendingGen with
  | none => s
  | some g =>
    let s1 : State := { s with lanes := s.lanes.map (fun x => { x with gen := g }), channelGen := g }
    (if s.allAdopted then s1 else s1.occur Ev.tablesAdopted 0).retireTo g

/-- A lane at a line reset, but for its state and class (R51, R65, R90, R131, R150). -/
def Lane.lineReset (x : Lane) : Lane :=
  { x.hardReset with gen := x.gen, clutchPulses := x.clutchPulses }

/-- The lane is IDLE or OFF, in the default class (R51, R150). -/
def State.restAtReset (s : State) (l : LaneId) : State :=
  s.modLane l fun x =>
    { x with
      state := if s.laneEnabled l then .idle else .off
      batch := { x.batch with cls := (s.profileRec l).defaultClass } }

/-- The raw levels of a lane after a line reset (R90, R110, R150). -/
def State.laneRawsAtReset (s : State) (l : LaneId) : State :=
  (((s.setRaw Ev.sonicDegraded l.val false).setRaw Ev.sonicDrift l.val false).setRaw Ev.releaseStall l.val
    false).evalHeadDown l

/-- The raw levels of a channel after a line reset (R170). -/
def State.chanRawsAtReset (s : State) (c : ChanId) : State :=
  (s.setRaw Ev.channelNear c.val false).setRaw Ev.channelFull c.val false

/-- What a line reset clears of the part, before any adoption (R14, R110, R170). -/
def State.clearAtReset (s : State) : State :=
  { s with
    entries := s.entries.map Entry.freed
    pool := FreeList.whole
    channels := Vector.replicate 16 Channel.reset
    trunkA := s.trunkA.lineReset
    trunkB := s.trunkB.lineReset
    resetCause := .requestLine }

/-- A line reset, in one act (R14, R51, R60, R90, R110, R131, R150, R170, R183, R191, R197; log 26). -/
def State.lineReset (s : State) : State :=
  let s1 := (allEntries.foldl State.cancelAtReset s).clearAtReset.adoptAtReset
  let s2 := allLanes.foldl State.restAtReset { s1 with lanes := s1.lanes.map Lane.lineReset }
  let s3 := allChans.foldl State.chanRawsAtReset (allLanes.foldl State.laneRawsAtReset s2)
  s3.occur Ev.partReset 0

/-- The reset that a PART_RESET asked for takes effect (R188, R191). -/
def State.takeReset (s : State) : Option ResetKind → State
  | none => s
  | some .full => s.hardReset .requestFull
  | some .line => s.lineReset

/-! ### The commands -/

/-- POWER_ON (R191). -/
def execPowerOn (s : State) : Host.Outcome State Fault Refusal := .next (s.hardReset .powerOn)

/-- RESET_PIN (R191). -/
def execResetPin (s : State) : Host.Outcome State Fault Refusal := .next (s.hardReset .pin)

end Sys2Proof.Machine
end

