-- ==== Sys2Proof/Machine/Speed.lean ====
section
/-! DEFINITION. The Feed Group Controller: targets and ramps (chapter 3). -/

namespace Sys2Proof.Machine

/-- The value that a new target is compared with: the end speed of the present ramp, or the speed when no
ramp runs (R55). -/
def Lane.heading (x : Lane) : Nat :=
  match x.ramp with
  | some r => r.target
  | none => x.speed

/-- Give a lane the target `e`: a ramp starts when the target has changed (R55, R56). -/
def Lane.retarget (x : Lane) (e slope : Nat) : Lane :=
  if e = x.heading then { x with target := e }
  else if slope = 0 then { x with target := e, speed := e, ramp := none }
  else if e = x.speed then { x with target := e, ramp := none }
  else { x with target := e, ramp := some ⟨x.speed, e, 0, slope⟩ }

/-- The FGC recomputes a lane's target (R55), from the GROUP record of its generation in use (R52). A lane that
is adopting is left as it is until step 6 of R178, whatever comes about before (R63; log 39). -/
def State.retarget (s : State) (l : LaneId) : State :=
  s.modLane l fun x => if x.adoptingFrom.isSome then x else x.retarget (s.targetOf l) (s.groupRec l).slopeMs

/-- The FGC recomputes every lane's target and gives each LTC its conditions (R53, R54, R55, R59). A lane
whose target and conditions are as they were is not changed by this. The lanes whose RAMP_UP ends by it are
all HOLDING before any of them may feed, so that `holds` sees them together and which of them goes to FEEDING
and picks first is not fixed (R5, R30; log 7). Lanes that come to rest do so in ascending order (log 34). -/
def onFgc (s : State) : Move :=
  (allLanes.foldl State.leaveRampUp (allLanes.foldl State.retarget s), allLanes.map Task.speedCheck ++ [.holds])

/-- Step 6 of R178: from here on the in-use sets and QUEUE_FULL take the lane's group and class from its new
generation, and the lane's target is computed again, with its new GROUP record and slope (R63). -/
def onAdoptFgc (l : LaneId) (s : State) : Move := onFgc (s.modLane l fun x => { x with adoptingFrom := none })

/-- One speed control period of a running ramp (R57). -/
def Lane.rampPeriod (x : Lane) : Lane :=
  match x.ramp with
  | some r =>
    { x with
      speed := r.speedAt (r.elapsed + 1)
      ramp := if r.slope ≤ r.elapsed + 1 then none else some { r with elapsed := r.elapsed + 1 } }
  | none => x

end Sys2Proof.Machine
end

