-- ==== Sys2Proof/Machine/Acts.lean ====
section
/-! DEFINITION. How an act is carried out: its tasks one after another, then the transmit slots. -/

namespace Sys2Proof.Machine

/-- What each sub-act does. -/
def handle : Task → State → Move
  | .fgc, s => onFgc s
  | .speedCheck l, s => onSpeedCheck l s
  | .holds, s => onHolds s
  | .pickTest l, s => onPickTest l s
  | .runoutTest l, s => onRunoutTest l s
  | .enterRunout l, s => onEnterRunout l s
  | .jam l cause, s => onJam l cause s
  | .assemble token, s => onAssemble token s
  | .retire, s => onRetire s
  | .release l, s => onRelease l s
  | .adoptMoment l, s => onAdoptMoment l s
  | .adopt l, s => onAdopt l s
  | .adoptAll ls, s => onAdoptAll ls s
  | .adoptChannels old, s => onAdoptChannels old s
  | .adoptLtc l, s => onAdoptLtc l s
  | .adoptDfm l, s => onAdoptDfm l s
  | .adoptLsq l, s => onAdoptLsq l s
  | .adoptFgc l, s => onAdoptFgc l s
  | .adoptEnd, s => onAdoptEnd s
  | .newBatch l token, s => onNewBatch l token s
  | .lsqMarks l token action blankDrop, s => onLsqMarks l token action blankDrop s
  | .lsqNumber l token, s => onLsqNumber l token s
  | .attempt l token, s => onAttempt l token s
  | .retries c, s => onRetries c s
  | .fillEval c, s => onFillEval c s
  | .edge l, s => onEdge l s
  | .scheduled l, s => onScheduled l s
  | .gapPick l, s => onGapPick l s
  | .samples l, s => onSamples l s
  | .air l, s => onAir l s
  | .jamChecks l, s => onJamChecks l s

/-- Carry out tasks depth first, those that a task entails before those that waited. Tasks beyond the fuel
would be dropped (log 5). -/
def run : Nat → List Task → State → State
  | 0, _, s => s
  | _ + 1, [], s => s
  | n + 1, t :: ts, s => run n ((handle t s).2 ++ ts) (handle t s).1

/-! ### Transmit slots (R162, R163, R196) -/

/-- The class reported next: the highest priority among those pending, then the lowest index (R196). -/
def State.reportChoice (s : State) : Option (Fin 20) :=
  (List.finRange 20).foldl
    (fun best c =>
      if (s.event c).reportPending then
        match best with
        | some b => if (s.event b).priority < (s.event c).priority then some c else some b
        | none => some c
      else best)
    none

/-- The destination channel at an index 0-7 of a trunk. -/
def trunkChan (t : Trunk) (k : Fin 8) : ChanId :=
  ⟨trunkIndex t * 8 + k.val, by cases t <;> simp only [trunkIndex] <;> omega⟩

/-- A channel is eligible at a slot (R163). -/
def State.eligible (s : State) (c : ChanId) : Bool :=
  (s.channelRec c).enabled && (s.chan c).pauseTimer.isNone && !(s.chan c).queue.isEmpty

/-- The first eligible channel counting from the round-robin pointer upward (R163). -/
def State.turn (s : State) (t : Trunk) : Option (Fin 8) :=
  ((List.finRange 8).map fun k => (s.trunk t).rr + k).find? fun k => s.eligible (trunkChan t k)

/-- The cell at position `sent` of a copy (R164). -/
def State.copyCell (s : State) (c : ChanId) (x : Copy) (p : Page) : OutCell :=
  let last := decide (x.size ≤ x.sent + 1)
  if x.sent = 0 then
    ⟨Kind.pageStart, c.val % 8 + 1, x.token, last, [], s.pageHeader x.token p⟩
  else
    ⟨Kind.data, c.val % 8 + 1, x.token, last, [], Memory.read s.mem (p.cells.getD (x.sent - 1) 0)⟩

/-- The next cell of a channel (R164). -/
def State.channelCell (s : State) (c : ChanId) : Option OutCell :=
  match (s.chan c).queue with
  | [] => none
  | x :: _ => (s.live x.token).map fun y => s.copyCell c x y.2

/-- The trunk's path takes a cell. -/
def State.load (s : State) (t : Trunk) (owner : TxOwner) (cell : OutCell) : State :=
  s.setTrunk t { s.trunk t with tx := some ⟨owner, cell⟩ }

/-- A report slot, when the trunk is the management trunk and a report is pending (R196). -/
def State.reportSlot (s : State) (t : Trunk) : Option State :=
  match s.reportChoice with
  | some c =>
    if s.mgmtTrunk = t then
      some ((s.setEvent c { s.event c with reportPending := false }).load t (.report c) (s.reportCell c))
    else none
  | none => none

/-- A slot for a channel cell, when a channel is eligible; the pointer moves on (R163). -/
def State.channelSlot (s : State) (t : Trunk) : Option State :=
  match s.turn t with
  | some k =>
    (s.channelCell (trunkChan t k)).map fun cell =>
      (s.setTrunk t { s.trunk t with rr := k + 1 }).load t (.channel (trunkChan t k) true) cell
  | none => none

/-- The transmit slot of a trunk, when its link is UP and its path is free: a reply, then a report, then a
channel cell (R162). -/
def State.slot (s : State) (t : Trunk) : State :=
  if s.linkUp (.trunk t) && (s.trunk t).tx.isNone then
    match (s.trunk t).reply with
    | some r => s.load t .reply r.cell
    | none => ((s.reportSlot t).orElse fun _ => s.channelSlot t).getD s
  else s

/-- The transmit slots that an act leaves (log 12). -/
def State.slots (s : State) : State := (s.slot .a).slot .b

/-- The state after an act. -/
def settle (m : Move) : State := (run Config.actFuel m.2 m.1).slots

/-- An act: the move, what it entails, and the transmit slots. -/
def act (m : Move) : Host.Outcome State Fault Refusal := .next (settle m)

end Sys2Proof.Machine
end

