-- ==== Sys2Proof/Machine/Encoder.lean ====
section
/-! DEFINITION. The lane connections: encoder, entry sensor and tray sensor (chapters 2 and 4). -/

namespace Sys2Proof.Machine

/-- ENCODER_FORWARD_STEP (R22, R23). -/
def execEncoderForwardStep (l : LaneId) (amplitude : BitVec 10) (s : State) :
    Host.Outcome State Fault Refusal :=
  act (forwardStep l amplitude s)

/-- ENCODER_REVERSE_STEP (R22, R47). -/
def execEncoderReverseStep (l : LaneId) (s : State) : Host.Outcome State Fault Refusal :=
  act (reverseStep l s)

/-- ENTRY_SENSOR_CHANGE: the level is taken at a new high-water position, not here (R24). -/
def execEntrySensorChange (l : LaneId) (blocked : Bool) (s : State) : Host.Outcome State Fault Refusal :=
  .next (s.modLane l fun x => { x with entryBlocked := blocked })

/-- TRAY_SENSOR_CHANGE (R37). -/
def execTraySensorChange (l : LaneId) (paper : Bool) (s : State) : Host.Outcome State Fault Refusal :=
  act (trayChange l paper s)

end Sys2Proof.Machine
end

