-- ==== Sys2Proof/Machine/Links.lean ====
section
/-! DEFINITION. Link states, training and link loss: the commands on a port (section 11.1). -/

namespace Sys2Proof.Machine

/-- A link that enters DOWN (R198). -/
def Link.toDown (x : Link) : Link := { x with state := .down, idleRun := 0, badRun := 0 }

/-- The link after a bad cell in TRAINING or UP, before a possible loss (R198, R199). -/
def Link.bad (x : Link) : Link :=
  { x with idleRun := 0, badRun := x.badRun + 1, errors := min 65535 (x.errors + 1) }

/-- The link after a valid cell other than IDLE (R198). -/
def Link.validCell (x : Link) : Link :=
  match x.state with
  | .down => x
  | .training => { x with idleRun := 0, badRun := 0 }
  | .up => { x with badRun := 0 }

/-- The TRUNK_DOWN raw of a trunk (R192). -/
def State.evalTrunkDown (s : State) (t : Trunk) : State :=
  s.setRaw Ev.trunkDown (trunkIndex t) ((s.trunk t).hasBeenUp && !s.linkUp (.trunk t))

/-! ### Becoming UP -/

/-- A trunk's link has become UP (R189, R192). -/
def State.trunkUp (s : State) (t : Trunk) : State :=
  let s1 := s.setTrunk t { s.trunk t with hasBeenUp := true }
  let s2 := if s.linkUp (.trunk s.mgmtTrunk) && s.mgmtTrunk != t then s1 else { s1 with mgmtTrunk := t }
  s2.evalTrunkDown t

/-- The blocks that depend on a port take its becoming UP (R198). -/
def State.portUp (s : State) : Port → State
  | .head l => s.evalHeadDown l
  | .trunk t => s.trunkUp t

/-! ### Leaving UP -/

/-- An abandoned report is pending again when its mask is enabled and its latch still set (R200). -/
def State.restoreReport (s : State) (tx : Option TxCell) : State :=
  match tx with
  | some ⟨.report c, _⟩ =>
    if (s.event c).enabled && (s.event c).latch then
      s.setEvent c { s.event c with reportPending := true }
    else s
  | _ => s

/-- A trunk's link has left UP (R167, R188, R189, R192, R200): the cell being sent is abandoned, the waiting
reply and the queued requests are discarded, and the management trunk may change. -/
def State.trunkLoss (s : State) (t : Trunk) : State :=
  let s1 := (s.restoreReport (s.trunk t).tx).setTrunk t
    { s.trunk t with tx := none, reply := none, requests := [] }
  let s2 :=
    if s.mgmtTrunk = t ∧ s.linkUp (.trunk (otherTrunk t)) then { s1 with mgmtTrunk := otherTrunk t } else s1
  s2.evalTrunkDown t

/-- The blocks that depend on a port take its leaving UP (R198); a reset whose reply is discarded takes effect
in this act (R188). -/
def portLoss (p : Port) (s : State) : Move :=
  match p with
  | .head l => headLeavesUp l (s.setHead l { s.head l with txQueue := [] })
  | .trunk t => ((s.trunkLoss t).takeReset ((s.trunk t).reply.bind Reply.reset), [])

/-- A port goes DOWN; `x` is its link before, with the counts as they stand (R198). -/
def goDown (p : Port) (x : Link) (s : State) : Move :=
  let s1 := s.setLink p x.toDown
  if s.linkUp p then portLoss p s1 else (s1, [])

/-! ### The commands -/

/-- SIGNAL_DETECTED (R198). -/
def execSignalDetected (p : Port) (s : State) : Host.Outcome State Fault Refusal :=
  if (s.link p).state = .down then
    .next (s.setLink p { s.link p with state := .training, idleRun := 0, badRun := 0 })
  else .next s

/-- LOSS_OF_SIGNAL (R198). -/
def execLossOfSignal (p : Port) (s : State) : Host.Outcome State Fault Refusal :=
  act (goDown p (s.link p) s)

/-- IDLE_CELL_RECEIVED (R198). -/
def execIdleCellReceived (p : Port) (s : State) : Host.Outcome State Fault Refusal :=
  match (s.link p).state with
  | .down => .next s
  | .training =>
    if (s.link p).idleRun + 1 < 8 then
      .next (s.setLink p { s.link p with idleRun := (s.link p).idleRun + 1, badRun := 0 })
    else act ((s.setLink p { s.link p with state := .up, idleRun := 8, badRun := 0 }).portUp p, [])
  | .up => .next (s.setLink p { s.link p with badRun := 0 })

/-- BAD_CELL_RECEIVED (R198, R199). -/
def execBadCellReceived (p : Port) (s : State) : Host.Outcome State Fault Refusal :=
  match (s.link p).state with
  | .down => .next s
  | .training =>
    if (s.link p).badRun + 1 < 4 then .next (s.setLink p (s.link p).bad) else act (goDown p (s.link p).bad s)
  | .up =>
    if (s.link p).badRun + 1 < 4 then .next (s.setLink p (s.link p).bad) else act (goDown p (s.link p).bad s)

/-- CELL_DISCARDED (R198, R201). -/
def execCellDiscarded (p : Port) (s : State) : Host.Outcome State Fault Refusal :=
  .next (s.setLink p (s.link p).validCell)

end Sys2Proof.Machine
end

