-- ==== Sys2Proof/Machine/Received.lean ====
section
/-! DEFINITION. The cells that a port delivers: DATA, CLOSE and ABORT from a head, REQUEST and PAUSE on a trunk
(R160, R168, R184, R201, chapter 5). -/

namespace Sys2Proof.Machine

/-- A valid cell other than IDLE arrives on a port: its link's runs change, and it is delivered only while the
link is UP (R198). -/
def deliver (p : Port) (f : State → Move) (s : State) : Host.Outcome State Fault Refusal :=
  if s.linkUp p then act (f (s.setLink p (s.link p).validCell)) else .next (s.setLink p (s.link p).validCell)

/-- DATA (R96). -/
def execData (l : LaneId) (token : Byte) (payload : List Byte) (s : State) :
    Host.Outcome State Fault Refusal :=
  deliver (.head l) (takeData l token.toNat payload) s

/-- CLOSE (R98). -/
def execClose (l : LaneId) (token : Byte) (mark : BitVec 4) (blank : Bool) (ticket : Option (List Byte))
    (s : State) : Host.Outcome State Fault Refusal :=
  deliver (.head l) (takeClose l token.toNat mark blank ticket) s

/-- ABORT (R99). -/
def execAbort (l : LaneId) (token : Byte) (s : State) : Host.Outcome State Fault Refusal :=
  deliver (.head l) (takeAbort l token.toNat) s

/-- A request joins its trunk's queue and makes the trunk the management trunk, or is discarded and counted
when the queue holds 4 (R184, R189). -/
def takeRequest (t : Trunk) (r : Request) (s : State) : Move :=
  if (s.trunk t).requests.length < 4 then
    ({ s.setTrunk t { s.trunk t with requests := (s.trunk t).requests ++ [r] } with mgmtTrunk := t }, [])
  else (s.setTrunk t { s.trunk t with discards := min 255 ((s.trunk t).discards + 1) }, [])

/-- REQUEST (R184). -/
def execRequest (t : Trunk) (kind tag : Byte) (payload : List Byte) (s : State) :
    Host.Outcome State Fault Refusal :=
  deliver (.trunk t) (takeRequest t ⟨kind, tag, payload⟩) s

/-- PAUSE on (R160). -/
def execPauseOn (t : Trunk) (channel : Byte) (s : State) : Host.Outcome State Fault Refusal :=
  deliver (.trunk t) (takePause t channel.toNat (some Config.pauseMs)) s

/-- PAUSE off (R160). -/
def execPauseOff (t : Trunk) (channel : Byte) (s : State) : Host.Outcome State Fault Refusal :=
  deliver (.trunk t) (takePause t channel.toNat none) s

end Sys2Proof.Machine
end

