-- ==== Sys2Proof/Machine/Operands.lean ====
section
/-! DEFINITION. The operands of the requests: which request the MGE takes next, which row it is, and the tests
on its payload (R184-R186, R201, section 11.5). -/

namespace Sys2Proof.Machine

/-! ### The next request (R185, R191) -/

/-- A trunk's queue is servable: it holds a request and no reply waits to be sent on the trunk (R185). -/
def TrunkPort.servable (x : TrunkPort) : Bool := !x.requests.isEmpty && x.reply.isNone

/-- A PART_RESET has been carried out and its effect is still to come (R191). -/
def State.resetWaits (s : State) : Bool :=
  (s.trunkA.reply.bind Reply.reset).isSome || (s.trunkB.reply.bind Reply.reset).isSome

/-- The trunk whose oldest request the MGE takes next: when both are servable, the one other than the one it
served last (R185); none while a reset waits (R191). -/
def State.nextTrunk (s : State) : Option Trunk :=
  if s.resetWaits then none
  else if (s.trunk (otherTrunk s.lastServed)).servable then some (otherTrunk s.lastServed)
  else if (s.trunk s.lastServed).servable then some s.lastServed
  else none

/-- The request that the MGE takes next, with its trunk. -/
def State.nextRequest (s : State) : Option (Trunk × Request) :=
  match s.nextTrunk with
  | some t => (s.trunk t).requests.head?.map fun r => (t, r)
  | none => none

/-! ### Which row a request is (log 3) -/

/-- The request has the kind code `k`. -/
def Request.isKind (k : Nat) (r : Request) : Bool := r.kind.toNat == k

/-- A PAGE_RESOLVE with the action of code `a`; one that is malformed or names no action belongs to each of
the three rows, and each refuses it RANGE (log 3). -/
def Request.isResolve (a : Nat) (r : Request) : Bool :=
  r.isKind 7 && (r.payload.length != 3 || field r.payload 1 1 == a || decide (2 < field r.payload 1 1))

/-- A PART_RESET of the kind of code `k`; one that is malformed or names no kind belongs to both rows
(log 3). -/
def Request.isReset (k : Nat) (r : Request) : Bool :=
  r.isKind 10 && (r.payload.length != 1 || field r.payload 0 1 == k || decide (1 < field r.payload 0 1))

/-- A request whose kind code is 13-255 (R186). -/
def Request.isUnknown (r : Request) : Bool := decide (13 ≤ r.kind.toNat)

/-! ### Answers -/

/-- What carrying out a request gives: the move, and the reply's status, record and waiting reset. -/
structure Answer where
  move : Move
  status : Status
  record : List Byte
  reset : Option ResetKind

/-- An answer without a record. -/
def Answer.plain (r : Move × Status) : Answer := ⟨r.1, r.2, [], none⟩

/-- A request refused with a status changes no state (R186). -/
def Answer.refuse (s : State) (st : Status) : Answer := ⟨(s, []), st, [], none⟩

/-- The answer of a read, which changes no state; a refused one carries no record (R186, R190). -/
def Answer.read (s : State) (r : Status × List Byte) : Answer := ⟨(s, []), r.1, r.2, none⟩

/-- A payload of another length than the kind's is refused RANGE (R186). -/
def sized (n : Nat) (body : List Byte → State → Answer) (payload : List Byte) (s : State) : Answer :=
  if payload.length = n then body payload s else .refuse s .range

/-! ### The bodies of the thirteen kinds -/

/-- TABLE_LOAD: table 1, index 1, record. -/
def bodyTableLoad (payload : List Byte) (s : State) : Answer :=
  if payload.length < 2 then .refuse s .range
  else .plain (loadTable (field payload 0 1) (field payload 1 1) (payload.drop 2) s)

/-- TABLE_COMMIT: mode 1. -/
def bodyTableCommit : List Byte → State → Answer :=
  sized 1 fun p s => .plain (commitTables (field p 0 1) s)

/-- TABLE_READ: bank 1, table 1, index 1. -/
def bodyTableRead : List Byte → State → Answer :=
  sized 3 fun p s => .read s (readTable (field p 0 1) (field p 1 1) (field p 2 1) s)

/-- A lane request: lane 1 (R26). -/
def bodyLane (f : LaneId → State → Move × Status) : List Byte → State → Answer :=
  sized 1 fun p s =>
    match laneOf (field p 0 1) with
    | some l => .plain (f l s)
    | none => .refuse s .range

/-- PAGE_RESOLVE with the action of code `a`: token 1, action 1, n 1. -/
def bodyResolve (a : Nat) (f : Nat → Nat → State → Move × Status) : List Byte → State → Answer :=
  sized 3 fun p s =>
    if field p 1 1 = a then .plain (f (field p 0 1) (field p 2 1) s) else .refuse s .range

/-- SLOT_CANCEL: lane 1, seq 4, sub 1 (R123). -/
def bodySlotCancel : List Byte → State → Answer :=
  sized 6 fun p s =>
    match laneOf (field p 0 1) with
    | some l =>
      if 3 < field p 5 1 then .refuse s .range
      else .plain (cancelSlot l ⟨field p 1 4, field p 5 1⟩ s)
    | none => .refuse s .range

/-- STATUS_READ: object 1, operand 1. -/
def bodyStatusRead : List Byte → State → Answer :=
  sized 2 fun p s => .read s (readStatus (field p 0 1) (field p 1 1) s)

/-- PART_RESET of the kind of code `k`: kind 1. The reset waits for the reply to go out (R191). -/
def bodyPartReset (k : Nat) (reset : ResetKind) : List Byte → State → Answer :=
  sized 1 fun p s => if field p 0 1 = k then ⟨(s, []), .ok, [], some reset⟩ else .refuse s .range

/-- The state of a class after EVENT_SET (R194). -/
def EventState.configured (e : EventState) (enabled : Bool) (priority : Fin 4) : EventState :=
  { e with
    enabled := enabled
    priority := priority
    reportPending := enabled && (e.reportPending || (!e.enabled && e.latch)) }

/-- EVENT_SET: class 1, mask 1, priority 1 (R194). -/
def bodyEventSet : List Byte → State → Answer :=
  sized 3 fun p s =>
    match classOf (field p 0 1) with
    | some c =>
      if h : field p 2 1 < 4 then
        .plain ((s.setEvent c ((s.event c).configured (flagAt p 1 0) ⟨field p 2 1, h⟩), []), .ok)
      else .refuse s .range
    | none => .refuse s .range

/-- The state of a class after the named sources leave its source set (R195). -/
def EventState.cleared (e : EventState) (named : BitVec 16) : EventState :=
  if e.sources &&& ~~~ named = 0 then
    { e with sources := 0, latch := false, count := 0, reportPending := false }
  else { e with sources := e.sources &&& ~~~ named }

/-- EVENT_CLEAR: class 1, source set 2 (R195). -/
def bodyEventClear : List Byte → State → Answer :=
  sized 3 fun p s =>
    match classOf (field p 0 1) with
    | some c =>
      if 2 ^ Ev.sourceCount c ≤ field p 1 2 then .refuse s .range
      else .plain ((s.setEvent c ((s.event c).cleared (BitVec.ofNat 16 (field p 1 2))), []), .ok)
    | none => .refuse s .range

end Sys2Proof.Machine
end

