-- ==== Sys2Proof/Machine/Requests.lean ====
section
/-! DEFINITION. The requests the MGE carries out, one command each (chapter 10). A command whose row is not the
row of the next request changes nothing (log 2, log 3). -/

namespace Sys2Proof.Machine

/-- The request leaves its queue, and its trunk is the one served last (R185). -/
def State.takeOff (s : State) (t : Trunk) : State :=
  { s.setTrunk t { s.trunk t with requests := (s.trunk t).requests.tail } with lastServed := t }

/-- The reply is handed to the trunk's transmit path, where it waits for a slot (R186). -/
def State.giveReply (s : State) (t : Trunk) (r : Reply) : State :=
  s.setTrunk t { s.trunk t with reply := some r }

/-- The reply to a request. -/
def Answer.reply (a : Answer) (r : Request) : Reply := ⟨r.kind, r.tag, a.status, a.record, a.reset⟩

/-- Carry out the next request when it is of the row `want` (R185, R186). -/
def serve (want : Request → Bool) (body : List Byte → State → Answer) (s : State) :
    Host.Outcome State Fault Refusal :=
  match s.nextRequest with
  | none => .next s
  | some (t, r) =>
    if want r then
      let a := body r.payload (s.takeOff t)
      act (a.move.1.giveReply t (a.reply r), a.move.2)
    else .next s

/-- TABLE_LOAD (R173). -/
def execTableLoad (s : State) : Host.Outcome State Fault Refusal := serve (Request.isKind 0) bodyTableLoad s

/-- TABLE_COMMIT (R175). -/
def execTableCommit (s : State) : Host.Outcome State Fault Refusal :=
  serve (Request.isKind 1) bodyTableCommit s

/-- TABLE_READ (R182). -/
def execTableRead (s : State) : Host.Outcome State Fault Refusal := serve (Request.isKind 2) bodyTableRead s

/-- LANE_START (R27). -/
def execLaneStart (s : State) : Host.Outcome State Fault Refusal :=
  serve (Request.isKind 3) (bodyLane startLane) s

/-- LANE_STOP (R28). -/
def execLaneStop (s : State) : Host.Outcome State Fault Refusal :=
  serve (Request.isKind 4) (bodyLane stopLane) s

/-- LANE_HALT (R29). -/
def execLaneHalt (s : State) : Host.Outcome State Fault Refusal :=
  serve (Request.isKind 5) (bodyLane haltLane) s

/-- LANE_CLEAR (R49). -/
def execLaneClear (s : State) : Host.Outcome State Fault Refusal :=
  serve (Request.isKind 6) (bodyLane clearLane) s

/-- PAGE_RESOLVE with action ACCEPT (R114). -/
def execPageResolveAccept (s : State) : Host.Outcome State Fault Refusal :=
  serve (Request.isResolve 0) (bodyResolve 0 fun token _ => acceptPage token) s

/-- PAGE_RESOLVE with action DROP (R115). -/
def execPageResolveDrop (s : State) : Host.Outcome State Fault Refusal :=
  serve (Request.isResolve 1) (bodyResolve 1 fun token _ => dropPage token) s

/-- PAGE_RESOLVE with action RESCAN (R117). -/
def execPageResolveRescan (s : State) : Host.Outcome State Fault Refusal :=
  serve (Request.isResolve 2) (bodyResolve 2 rescanPage) s

/-- SLOT_CANCEL (R123). -/
def execSlotCancel (s : State) : Host.Outcome State Fault Refusal := serve (Request.isKind 8) bodySlotCancel s

/-- STATUS_READ (R190). -/
def execStatusRead (s : State) : Host.Outcome State Fault Refusal := serve (Request.isKind 9) bodyStatusRead s

/-- PART_RESET of kind FULL (R191). -/
def execPartResetFull (s : State) : Host.Outcome State Fault Refusal :=
  serve (Request.isReset 0) (bodyPartReset 0 .full) s

/-- PART_RESET of kind LINE (R191). -/
def execPartResetLine (s : State) : Host.Outcome State Fault Refusal :=
  serve (Request.isReset 1) (bodyPartReset 1 .line) s

/-- EVENT_SET (R194). -/
def execEventSet (s : State) : Host.Outcome State Fault Refusal := serve (Request.isKind 11) bodyEventSet s

/-- EVENT_CLEAR (R195). -/
def execEventClear (s : State) : Host.Outcome State Fault Refusal := serve (Request.isKind 12) bodyEventClear s

/-- A request of an unknown kind is refused UNKNOWN (R186). -/
def execUnknownRequest (s : State) : Host.Outcome State Fault Refusal :=
  serve Request.isUnknown (fun _ s => .refuse s .unknown) s

end Sys2Proof.Machine
end

