-- ==== Sys2Proof/Machine/Sent.lean ====
section
/-! DEFINITION. The ends of the part's transmissions: a cell has been handed whole to its link (R200). -/

namespace Sys2Proof.Machine

/-- The trunk's path is free again. -/
def State.freePath (s : State) (t : Trunk) : State := s.setTrunk t { s.trunk t with tx := none }

/-- CHANNEL_CELL_SENT (R164, R165). A cell of a page that a line reset has freed advances no count (R200). -/
def execChannelCellSent (t : Trunk) (s : State) : Host.Outcome State Fault Refusal :=
  match (s.trunk t).tx with
  | some ⟨.channel c true, _⟩ => act (cellSent c (s.freePath t))
  | some ⟨.channel _ false, _⟩ => act (s.freePath t, [])
  | some ⟨.reply, _⟩ => .next s
  | some ⟨.report _, _⟩ => .next s
  | none => .next s

/-- REPLY_SENT (R187, R191): the trunk's queue is servable again, and a reset that waited takes effect. -/
def execReplySent (t : Trunk) (s : State) : Host.Outcome State Fault Refusal :=
  match (s.trunk t).tx with
  | some ⟨.reply, _⟩ =>
    act (((s.freePath t).setTrunk t { (s.freePath t).trunk t with reply := none }).takeReset
      ((s.trunk t).reply.bind Reply.reset), [])
  | some ⟨.channel _ _, _⟩ => .next s
  | some ⟨.report _, _⟩ => .next s
  | none => .next s

/-- REPORT_SENT (R196). -/
def execReportSent (t : Trunk) (s : State) : Host.Outcome State Fault Refusal :=
  match (s.trunk t).tx with
  | some ⟨.report _, _⟩ => act (s.freePath t, [])
  | some ⟨.channel _ _, _⟩ => .next s
  | some ⟨.reply, _⟩ => .next s
  | none => .next s

/-- HEAD_CELL_SENT (R91, R200): the next cell in issue order is sent from now on. -/
def execHeadCellSent (l : LaneId) (s : State) : Host.Outcome State Fault Refusal :=
  .next (s.setHead l { s.head l with txQueue := (s.head l).txQueue.tail })

end Sys2Proof.Machine
end

