-- ==== Sys2Proof/Machine/Timers.lean ====
section
/-! DEFINITION. The steps that time brings: the speed control period, the expiries, the bank copy's end, and
the running down of the timers on an empty queue. -/

namespace Sys2Proof.Machine

/-- SPEED_CONTROL_PERIOD of a lane (R57): a lane with no running ramp is not changed. -/
def execSpeedControlPeriod (l : LaneId) (s : State) : Host.Outcome State Fault Refusal :=
  match (s.lane l).ramp with
  | some _ => act (s.modLane l Lane.rampPeriod, [.speedCheck l])
  | none => .next s

/-- MISFEED_TIMER_EXPIRY (R39). -/
def execMisfeedTimerExpiry (l : LaneId) (s : State) : Host.Outcome State Fault Refusal :=
  act (misfeedExpiry l s)

/-- RETRY_WAIT_END (R40). -/
def execRetryWaitEnd (l : LaneId) (s : State) : Host.Outcome State Fault Refusal := act (retryEnd l s)

/-- RUNOUT_TIMER_EXPIRY (R32). -/
def execRunoutTimerExpiry (l : LaneId) (s : State) : Host.Outcome State Fault Refusal :=
  act (runoutExpiry l s)

/-- IMAGE_TIMER_EXPIRY (R100). -/
def execImageTimerExpiry (token : Byte) (s : State) : Host.Outcome State Fault Refusal :=
  act (imageExpiry token.toNat s)

/-- PAUSE_TIMER_EXPIRY (R161). -/
def execPauseTimerExpiry (c : ChanId) (s : State) : Host.Outcome State Fault Refusal :=
  act (pauseExpiry c s)

/-- WAIT_TIMER_EXPIRY (R147). -/
def execWaitTimerExpiry (l : LaneId) (s : State) : Host.Outcome State Fault Refusal := act (waitExpiry l s)

/-- BANK_COPY_COMPLETE (R181). -/
def execBankCopyComplete (s : State) : Host.Outcome State Fault Refusal := act (copyComplete s)

/-! ### One ms on an empty queue (log 1) -/

/-- A running timer has one ms less left, at least 0. -/
def tickDown : Option Nat → Option Nat
  | some n => some (n - 1)
  | none => none

def Batch.tick (b : Batch) : Batch := { b with waitTimer := b.waitTimer.map (· + 1) }

def Lane.tick (x : Lane) : Lane :=
  { x with
    misfeedTimer := tickDown x.misfeedTimer
    retryWait := tickDown x.retryWait
    runoutTimer := tickDown x.runoutTimer
    batch := x.batch.tick }

def Entry.tick (e : Entry) : Entry :=
  { e with page := e.page.map fun p => { p with imageTimer := tickDown p.imageTimer } }

def Channel.tick (c : Channel) : Channel := { c with pauseTimer := tickDown c.pauseTimer }

def OtherRole.tick : OtherRole → OtherRole
  | .retired n => .retired (n - 1)
  | .shadow => .shadow
  | .pending g => .pending g

/-- One ms passes for every running timer; nothing else changes (log 1). -/
def State.tick (s : State) : State :=
  { s with
    entries := s.entries.map Entry.tick
    lanes := s.lanes.map Lane.tick
    channels := s.channels.map Channel.tick
    otherRole := s.otherRole.tick }

end Sys2Proof.Machine
end

