-- ==== Sys2Proof/Machine/Dispatch.lean ====
section
/-! DEFINITION. The command table: one arm for each row of spec/opcode_table.json. -/

namespace Sys2Proof.Machine

def exec (i : Instr) (s : State) : Host.Outcome State Fault Refusal :=
  match i with
  | .powerOn => Sys2Proof.Machine.execPowerOn s
  | .resetPin => Sys2Proof.Machine.execResetPin s
  | .signalDetected p => Sys2Proof.Machine.execSignalDetected p s
  | .lossOfSignal p => Sys2Proof.Machine.execLossOfSignal p s
  | .idleCellReceived p => Sys2Proof.Machine.execIdleCellReceived p s
  | .badCellReceived p => Sys2Proof.Machine.execBadCellReceived p s
  | .cellDiscarded p => Sys2Proof.Machine.execCellDiscarded p s
  | .data l token payload => Sys2Proof.Machine.execData l token payload s
  | .close l token mark blank ticket => Sys2Proof.Machine.execClose l token mark blank ticket s
  | .abort l token => Sys2Proof.Machine.execAbort l token s
  | .request t kind tag payload => Sys2Proof.Machine.execRequest t kind tag payload s
  | .pauseOn t channel => Sys2Proof.Machine.execPauseOn t channel s
  | .pauseOff t channel => Sys2Proof.Machine.execPauseOff t channel s
  | .tableLoad => Sys2Proof.Machine.execTableLoad s
  | .tableCommit => Sys2Proof.Machine.execTableCommit s
  | .tableRead => Sys2Proof.Machine.execTableRead s
  | .laneStart => Sys2Proof.Machine.execLaneStart s
  | .laneStop => Sys2Proof.Machine.execLaneStop s
  | .laneHalt => Sys2Proof.Machine.execLaneHalt s
  | .laneClear => Sys2Proof.Machine.execLaneClear s
  | .pageResolveAccept => Sys2Proof.Machine.execPageResolveAccept s
  | .pageResolveDrop => Sys2Proof.Machine.execPageResolveDrop s
  | .pageResolveRescan => Sys2Proof.Machine.execPageResolveRescan s
  | .slotCancel => Sys2Proof.Machine.execSlotCancel s
  | .statusRead => Sys2Proof.Machine.execStatusRead s
  | .partResetFull => Sys2Proof.Machine.execPartResetFull s
  | .partResetLine => Sys2Proof.Machine.execPartResetLine s
  | .eventSet => Sys2Proof.Machine.execEventSet s
  | .eventClear => Sys2Proof.Machine.execEventClear s
  | .unknownRequest => Sys2Proof.Machine.execUnknownRequest s
  | .encoderForwardStep l amplitude => Sys2Proof.Machine.execEncoderForwardStep l amplitude s
  | .encoderReverseStep l => Sys2Proof.Machine.execEncoderReverseStep l s
  | .entrySensorChange l blocked => Sys2Proof.Machine.execEntrySensorChange l blocked s
  | .traySensorChange l paper => Sys2Proof.Machine.execTraySensorChange l paper s
  | .speedControlPeriod l => Sys2Proof.Machine.execSpeedControlPeriod l s
  | .misfeedTimerExpiry l => Sys2Proof.Machine.execMisfeedTimerExpiry l s
  | .retryWaitEnd l => Sys2Proof.Machine.execRetryWaitEnd l s
  | .runoutTimerExpiry l => Sys2Proof.Machine.execRunoutTimerExpiry l s
  | .imageTimerExpiry token => Sys2Proof.Machine.execImageTimerExpiry token s
  | .pauseTimerExpiry c => Sys2Proof.Machine.execPauseTimerExpiry c s
  | .waitTimerExpiry l => Sys2Proof.Machine.execWaitTimerExpiry l s
  | .bankCopyComplete => Sys2Proof.Machine.execBankCopyComplete s
  | .channelCellSent t => Sys2Proof.Machine.execChannelCellSent t s
  | .replySent t => Sys2Proof.Machine.execReplySent t s
  | .reportSent t => Sys2Proof.Machine.execReportSent t s
  | .headCellSent l => Sys2Proof.Machine.execHeadCellSent l s

end Sys2Proof.Machine
end

