-- ==== Sys2Proof/Safety.lean ====
section
/-! DEFINITION. What a sound state is: the invariants of the rules, and the vocabulary in which the
statements speak of a command's outcome. -/

namespace Sys2Proof.Machine

/-! ### The cell pool (R104, R110) -/

/-- The cells of the cell lists of all non-FREE pages. -/
def State.pageCells (s : State) : List Nat :=
  s.entries.toList.flatMap fun e =>
    match e.page with
    | some p => p.cells
    | none => []

/-- A page whose image is NOT_OPEN has an empty cell list (R93). -/
def State.unopenedEmpty (s : State) : Prop :=
  ∀ (i : Fin 64) (p : Page), s.pageAt i = some p → p.image = .notOpen → p.cells = []

/-- Every one of the 65,536 cells is in the free list or in one cell list, and in one place only (R104). -/
def PoolSound (s : State) : Prop :=
  FreeList.wf s.pool = true
    ∧ (FreeList.cells s.pool ++ s.pageCells).Perm (List.range Config.poolCells)
    ∧ s.unopenedEmpty

/-- The pool's content is in its canonical form. -/
def MemorySound (s : State) : Prop := Memory.wf s.mem = true

/-! ### Lanes -/

/-- The counter keeps its range, H is not below it and both are 0 at rest (R22, R23). -/
def Lane.PositionSound (x : Lane) : Prop :=
  -(Config.counterMax : Int) - 1 ≤ x.counter
    ∧ x.counter ≤ x.high
    ∧ x.high ≤ Config.counterMax
    ∧ (x.state.resting = true → x.counter = 0 ∧ x.high = 0)

def PositionsSound (s : State) : Prop := ∀ l, (s.lane l).PositionSound

/-- The states in which the speed is 0 (R61). -/
def LaneState.still (x : LaneState) : Bool := x.resting || x == .jammed

/-- The speed and the ramp's ends lie in 0-1,500, a ramp has not run past its slope, and the speed is 0
without a ramp in OFF, IDLE and JAMMED (R61). -/
def Lane.SpeedSound (x : Lane) : Prop :=
  x.speed ≤ 1500
    ∧ (∀ r, x.ramp = some r → r.origin ≤ 1500 ∧ r.target ≤ 1500 ∧ r.elapsed < r.slope)
    ∧ (x.state.still = true → x.speed = 0 ∧ x.ramp = none)

/-- The target speeds of a bank keep their ranges (R174). -/
def Tables.SpeedsInRange (t : Tables) : Prop :=
  ∀ g : Fin 3, (t.group[g]).targetSpeed ≤ 1500 ∧ (t.group[g]).throttleSpeed ≤ 1500

def SpeedsSound (s : State) : Prop :=
  (∀ b : Fin 2, (s.banks[b]).SpeedsInRange) ∧ ∀ l, (s.lane l).SpeedSound

/-- A calibration run has fewer than sixteen samples, each valid (R76). -/
def Calibration.Sound : Calibration → Prop
  | .none => True
  | .running count sum => count ≤ 15 ∧ 64 * count ≤ sum ∧ sum ≤ 1022 * count
  | .done => True

/-- The baseline of a calibrated GOOD lane lies in 1,024-16,352, and the counts keep their ranges (R67,
R78). -/
def Dfm.Sound (d : Dfm) : Prop :=
  d.calibration.Sound
    ∧ (d.calibrated = true → d.degraded = false → 1024 ≤ d.b16)
    ∧ d.b16 ≤ 16352
    ∧ d.bref16 ≤ 16352
    ∧ d.badAir ≤ 8
    ∧ (d.degraded = false → d.badAir ≤ 7)

def AirSound (s : State) : Prop := ∀ l, (s.lane l).dfm.Sound

/-- The limits of the path list and of the page table (R9, R45). -/
def LimitsSound (s : State) : Prop := ∀ l, (s.lane l).path.length ≤ 4 ∧ s.laneNonFree l ≤ 24

/-- A lane has at most one PICKED page (R35, R121). -/
def OnePicked (s : State) : Prop :=
  ∀ (i j : Fin 64) (p q : Page), s.pageAt i = some p → s.pageAt j = some q →
    p.state = .picked → q.state = .picked → p.lane = q.lane → i = j

/-- The slot list is in position order without duplicates, and with the loaned slot holds at most 8 (R120). -/
def Lane.SlotsSound (x : Lane) : Prop :=
  x.slots.Pairwise (fun a b => a.before b = true)
    ∧ x.slots.length + (if x.loan.isSome then 1 else 0) ≤ 8

def SlotsSound (s : State) : Prop := ∀ l, (s.lane l).SlotsSound

/-! ### Ports, requests and events -/

/-- The request queues and the counts that stop keep their bounds (R95, R184, R192, R199). -/
def CountsSound (s : State) : Prop :=
  (∀ t, (s.trunk t).requests.length ≤ 4 ∧ (s.trunk t).discards ≤ 255)
    ∧ (∀ p, (s.link p).errors ≤ 65535)
    ∧ (∀ l, (s.head l).staleCount ≤ 65535)
    ∧ ∀ c, (s.event c).count ≤ 255

/-! ### Tables (R174) -/

def LaneRec.InRange (r : LaneRec) : Prop :=
  (64 ≤ r.pitch ∧ r.pitch ≤ 511) ∧ (8 ≤ r.dSonic ∧ r.dSonic ≤ 200) ∧ (9 ≤ r.dImage ∧ r.dImage ≤ 400)
    ∧ (10 ≤ r.dExit ∧ r.dExit ≤ 1000) ∧ (10 ≤ r.gapMm ∧ r.gapMm ≤ 200)
    ∧ (50 ≤ r.pickToEntry ∧ r.pickToEntry ≤ 2000) ∧ r.pickRetries ≤ 3 ∧ (1 ≤ r.holdLimit ∧ r.holdLimit ≤ 4)
    ∧ r.pickReserve ≤ 8192 ∧ (5 ≤ r.reverseLimit ∧ r.reverseLimit ≤ 50)
    ∧ (500 ≤ r.runoutMs ∧ r.runoutMs ≤ 10000) ∧ (50 ≤ r.imageTimeout ∧ r.imageTimeout ≤ 5000)

def GroupRec.InRange (r : GroupRec) : Prop :=
  (100 ≤ r.targetSpeed ∧ r.targetSpeed ≤ 1500) ∧ (100 ≤ r.throttleSpeed ∧ r.throttleSpeed ≤ 1500)
    ∧ r.slopeMs ∈ [0, 50, 100, 200, 400, 800]

def Zone.InRange (z : Zone) : Prop := z.start ≤ 999 ∧ 1 ≤ z.stop ∧ z.stop ≤ 1000

def Split.InRange : Split → Prop
  | .mark => True
  | .count n => 1 ≤ n ∧ n ≤ 4095
  | .ticket => True

def ProfileRec.InRange (r : ProfileRec) : Prop :=
  (50 ≤ r.lenMin ∧ r.lenMin ≤ 1000) ∧ (50 ≤ r.lenMax ∧ r.lenMax ≤ 1000) ∧ (1 ≤ r.tThick ∧ r.tThick ≤ 254)
    ∧ r.hyst ≤ 63 ∧ (1 ≤ r.minRun ∧ r.minRun ≤ 255) ∧ r.zones.length ≤ 2 ∧ (∀ z ∈ r.zones, z.InRange)
    ∧ r.split.InRange

def ClassRec.InRange (r : ClassRec) : Prop := 1 ≤ r.maxDocPages ∧ r.maxDocPages ≤ 4095

def ChannelRec.InRange (r : ChannelRec) : Prop :=
  (64 ≤ r.limit ∧ r.limit ≤ 65536) ∧ (2 ≤ r.full ∧ r.full ≤ 65536) ∧ (2 ≤ r.near ∧ r.near ≤ 65536)
    ∧ (1 ≤ r.ease ∧ r.ease ≤ 65535)

/-- Every numeric field of every record lies in its range (R174). -/
def Tables.InRange (t : Tables) : Prop :=
  (∀ i : Fin 6, (t.lane[i]).InRange) ∧ (∀ i : Fin 3, (t.group[i]).InRange)
    ∧ (∀ i : Fin 16, (t.profile[i]).InRange) ∧ (∀ i : Fin 32, (t.cls[i]).InRange)
    ∧ ∀ i : Fin 16, (t.channel[i]).InRange

def TablesSound (s : State) : Prop := ∀ b : Fin 2, (s.banks[b]).InRange

/-! ### Loading a record (R173, R174) -/

/-- A numeric field of a record: the value written, where its bytes stand, and its range. -/
structure Ranged where
  written : Nat
  at_ : Nat
  width : Nat
  low : Nat
  high : Nat

/-- Each field is written as the record carries it, brought into its range. -/
def Clamps (bs : List Byte) (fields : List Ranged) : Prop :=
  ∀ f ∈ fields, f.written = max f.low (min (field bs f.at_ f.width) f.high)

/-- Some field of the record lies outside its range. -/
def OutOfRange (bs : List Byte) (fields : List Ranged) : Prop :=
  ∃ f ∈ fields, field bs f.at_ f.width < f.low ∨ f.high < field bs f.at_ f.width

/-- The numeric fields of a LANE record. -/
def LaneRec.ranged (r : LaneRec) : List Ranged :=
  [⟨r.group.val, 1, 1, 0, 2⟩, ⟨r.pitch, 2, 2, 64, 511⟩, ⟨r.dSonic, 4, 2, 8, 200⟩, ⟨r.dImage, 6, 2, 9, 400⟩,
    ⟨r.dExit, 8, 2, 10, 1000⟩, ⟨r.gapMm, 10, 1, 10, 200⟩, ⟨r.pickToEntry, 11, 2, 50, 2000⟩,
    ⟨r.pickRetries, 13, 1, 0, 3⟩, ⟨r.holdLimit, 14, 1, 1, 4⟩, ⟨r.pickReserve, 15, 2, 0, 8192⟩,
    ⟨r.profile.val, 17, 1, 0, 15⟩, ⟨r.reverseLimit, 18, 1, 5, 50⟩, ⟨r.runoutMs, 19, 2, 500, 10000⟩,
    ⟨r.imageTimeout, 21, 2, 50, 5000⟩]

/-- The numeric fields of a GROUP record but slope_ms. -/
def GroupRec.ranged (r : GroupRec) : List Ranged :=
  [⟨r.targetSpeed, 0, 2, 100, 1500⟩, ⟨r.throttleSpeed, 2, 2, 100, 1500⟩]

/-- The numeric fields of the mask zones that a PROFILE record has. -/
def ProfileRec.rangedZones (r : ProfileRec) : List Ranged :=
  r.zones.zipIdx.flatMap fun z =>
    [⟨z.1.start, 8 + 4 * z.2, 2, 0, 999⟩, ⟨z.1.stop, 10 + 4 * z.2, 2, 1, 1000⟩]

/-- The numeric fields of a PROFILE record; the n of its split only under COUNT (log 17). -/
def ProfileRec.ranged (r : ProfileRec) : List Ranged :=
  [⟨r.lenMin, 0, 2, 50, 1000⟩, ⟨r.lenMax, 2, 2, 50, 1000⟩, ⟨r.tThick, 4, 1, 1, 254⟩, ⟨r.hyst, 5, 1, 0, 63⟩,
      ⟨r.minRun, 6, 1, 1, 255⟩, ⟨r.markmap.val, 21, 1, 0, 3⟩, ⟨r.defaultClass.val, 22, 1, 0, 31⟩]
    ++ r.rangedZones
    ++ match r.split with
      | .count n => [⟨n, 24, 2, 1, 4095⟩]
      | .mark => []
      | .ticket => []

/-- The class of a mark map entry, where its action has one. -/
def MarkAction.ranged (a : MarkAction) (i : Nat) : List Ranged :=
  match a with
  | .classKeep c => [⟨c.val, 2 * i + 1, 1, 0, 31⟩]
  | .classDrop c => [⟨c.val, 2 * i + 1, 1, 0, 31⟩]
  | .ignore => []
  | .sepKeep => []
  | .sepDrop => []
  | .ticketKeep => []
  | .ticketDrop => []

/-- The numeric fields of a CLASS record; the mirror's only when there is one (log 17). -/
def ClassRec.ranged (r : ClassRec) : List Ranged :=
  [⟨r.primary.val, 1, 1, 0, 15⟩, ⟨r.maxDocPages, 3, 2, 1, 4095⟩]
    ++ match r.mirror with
      | some c => [⟨c.val, 2, 1, 0, 15⟩]
      | none => []

/-- The numeric fields of a CHANNEL record. -/
def ChannelRec.ranged (r : ChannelRec) : List Ranged :=
  [⟨r.limit, 1, 4, 64, 65536⟩, ⟨r.full, 5, 4, 2, 65536⟩, ⟨r.near, 9, 4, 2, 65536⟩, ⟨r.ease, 13, 4, 1, 65535⟩]

/-- Some coded field of a PROFILE record names no code (R174). -/
def badProfileCodes (bs : List Byte) : Prop :=
  2 < field bs 7 1 ∨ (∃ at_ ∈ [16, 17, 18, 19, 20, 23], 2 < field bs at_ 1) ∨ 1 < field bs 26 1

/-- Some action of a mark map names no code (R174). -/
def badMarkCodes (bs : List Byte) : Prop := ∃ i < 15, 6 < field bs (2 * i) 1

/-! ### The rules between fields that a commit tests (R175) -/

/-- The record in entry `i` of a table exists and breaks the rule of its table (R175). -/
def Tables.Breaks (t : Tables) : TableId → Nat → Prop
  | .lane, i => ∃ r, t.lane[i]? = some r ∧ r.enabled = true ∧ ¬(r.dSonic < r.dImage ∧ r.dImage < r.dExit)
  | .group, i => ∃ r, t.group[i]? = some r ∧ r.targetSpeed < r.throttleSpeed
  | .profile, i => ∃ r, t.profile[i]? = some r ∧
      (r.lenMax < r.lenMin ∨ (∃ z ∈ r.zones, z.stop ≤ z.start)
        ∨ (∃ pre a b post, r.zones = pre ++ a :: b :: post ∧ b.start < a.stop)
        ∨ (t.cls[r.defaultClass]).enabled = false)
  | .markmap, i => ∃ m, t.markmap[i]? = some m ∧
      ∃ (k : Fin 15) (c : Fin 32), (m[k] = .classKeep c ∨ m[k] = .classDrop c) ∧ (t.cls[c]).enabled = false
  | .cls, i => ∃ r, t.cls[i]? = some r ∧ r.mirror = some r.primary
  | .channel, i => ∃ r, t.channel[i]? = some r ∧ r.enabled = true
      ∧ ¬(r.ease < r.near ∧ r.near ≤ r.full ∧ r.full ≤ r.limit)

/-! ### Records of fields (R202, section 11.5) -/

/-- A field of a record: its width in bytes and its value. -/
abbrev Fields := List (Nat × Nat)

/-- The bytes of a record, field after field, least significant byte first. -/
def Fields.bytes (fs : Fields) : List Byte := fs.flatMap fun f => le f.1 f.2

/-- The place of a value in the order that section 11.4 gives its list. -/
def codeIn {α : Type} [DecidableEq α] (order : List α) (x : α) : Nat := order.idxOf x

/-- An optional field: its presence byte, then its bytes, 0 when it is absent. -/
def ifPresent (width : Nat) (v : Option Nat) : Fields := [(1, v.isSome.toNat), (width, v.getD 0)]

/-- A list: its length in one byte, which stops at 255, then its entries. -/
def counted (entries : List Fields) : Fields := (1, min 255 entries.length) :: entries.flatten

/-- A ticket: its presence, its length, and 24 bytes. -/
def ticketFields (t : Option (List Byte)) : Fields :=
  (1, t.isSome.toNat) :: (1, min 255 (t.getD []).length) :: (padTo 24 (t.getD [])).map fun b => (1, b.toNat)

/-- A position as 48 bits, two's complement. -/
def bits48 (x : Int) : Nat := (x % 281474976710656).toNat

/-- The page header's fields (R164, section 11.5). -/
def State.headerFields (s : State) (token : Nat) (p : Page) : Fields :=
  [(1, token), (1, p.lane.val), (4, p.pos.seq), (1, p.pos.sub), (2, p.genPick.toNat)]
    ++ (match p.release with
      | some r => [(4, r.batch), (4, r.document), (2, r.page), (1, r.cls.val),
          (1, r.firstOfDocument.toNat + 2 * r.firstOfBatch.toNat + 4)]
      | none => [(4, 0), (4, 0), (2, 0), (1, 0), (1, 0)])
    ++ [(1, match p.verdict with
          | some v => codeIn [.clean, .unverified, .short, .long, .double, .truncated, .lost] v
          | none => 255),
        (1, p.flags.lost.toNat + 2 * p.flags.truncated.toNat + 4 * p.flags.double.toNat + 8 * p.flags.long.toNat
          + 16 * p.flags.short.toNat + 32 * p.flags.unverified.toNat + 64 * p.flags.accepted.toNat),
        (2, p.lengthMm.getD 65535)]
    ++ (match p.sonic with
      | .pending => [(1, 0), (1, 0), (2, 0)]
      | .done m c => [(1, 1), (1, m), (2, c)]
      | .unverified => [(1, 2), (1, 0), (2, 0)])
    ++ [(2, min 65535 p.cells.length),
        (4, min 4294967295 (p.cells.map fun c => (Memory.read s.mem c).length).sum), (1, 0)]

/-- The transport and speed fields of a lane record. -/
def State.transportFields (s : State) (l : LaneId) : Fields :=
  let x := s.lane l
  let h := s.holding l
  [(1, l.val),
    (1, codeIn [.off, .idle, .rampUp, .feeding, .holding, .retryWait, .runout, .rampDown, .jammed] x.state),
    (1, h.holdLimit.toNat + 2 * h.queueFull.toNat + 4 * h.tableFull.toNat + 8 * h.poolLow.toNat
      + 16 * h.trayEmpty.toNat + 32 * h.seqLimit.toNat),
    (1, match x.lastJam with
      | some c => codeIn [.dwell, .reverse, .overrun, .positionLimit, .runoutTimeout, .halt] c
      | none => 255)]
  ++ (match x.gap with
    | .clear => [(1, 0), (6, 0)]
    | .wait => [(1, 1), (6, 0)]
    | .since p => [(1, 2), (6, bits48 p)])
  ++ [(6, bits48 x.counter), (6, bits48 x.high), (5, x.nextSeq), (2, x.runoutTimer.getD 0),
      (1, match s.pickedEntry l with
        | some i => ((s.pageAt i).map Page.attempts).getD 0
        | none => 0)]
  ++ ifPresent 1 x.sensor
  ++ counted (x.path.map fun sh =>
      [(1, sh.token), (2, sh.genPick.toNat)] ++ ifPresent 6 (sh.lead.map fun p => bits48 p)
        ++ ifPresent 6 (sh.trail.map fun p => bits48 p) ++ [(1, codeIn [.none, .opened, .closed] sh.gate)])
  ++ [(2, x.speed), (2, motorCode x.speed), (2, x.target)]
  ++ (match x.ramp with
    | some r => [(1, 1), (2, r.origin), (2, r.target), (2, r.elapsed), (2, r.slope)]
    | none => [(1, 0), (2, 0), (2, 0), (2, 0), (2, 0)])
  ++ [(1, x.speedReached.toNat), (1, (s.nearInUse l).toNat), (1, (s.fullInUse l).toNat)]

/-- The monitor fields of a lane record. -/
def Dfm.fields (d : Dfm) : Fields :=
  [(1, d.degraded.toNat)]
  ++ (match d.calibration with
    | .none => [(1, 0), (1, 0)]
    | .running n _ => [(1, 1), (1, n)]
    | .done => [(1, 2), (1, 0)])
  ++ [(2, d.b16), (2, d.bref16), (1, d.badAir), (1, d.driftRaw.toNat)]
  ++ counted (d.windows.map fun w =>
      [(1, w.token), (2, min 65535 w.next)] ++ ifPresent 2 (w.samples.map fun n => min 65535 n)
        ++ [(1, w.void.toNat), (1, w.thick.toNat), (1, min 255 w.run), (1, min 255 w.maxRun)])

/-- The intake and order fields of a lane record. A QUEUED page is never the release head. -/
def State.orderFields (s : State) (l : LaneId) : Fields :=
  [(1, codeIn [.down, .training, .up] (s.head l).link.state),
    (1, s.countPages fun p => p.lane == l && p.image == .opened),
    (1, s.countPages fun p => p.lane == l && p.image == .opened && p.imageTimer.isSome),
    (2, (s.head l).staleCount), (2, (s.head l).link.errors),
    (1, ((s.event Ev.headDown).raw.getLsbD l.val).toNat),
    (1, s.laneNonFree l), (1, s.heldCount l), (2, (s.lane l).gen.toNat)]
  ++ counted ((s.heldSet l).map fun x =>
      [(1, s.tokenOf x.1), (4, x.2.pos.seq), (1, x.2.pos.sub),
        (1, match x.2.holdReason with
          | some r => codeIn [.verdict, .jam] r
          | none => 255)])
  ++ counted ((s.lane l).slots.map fun q => [(4, q.seq), (1, q.sub)])
  ++ (match (s.lane l).loan with
    | some q => [(1, 1), (4, q.seq), (1, q.sub)]
    | none => [(1, 0), (4, 0), (1, 0)])
  ++ (match s.releaseHead l with
    | .none => [(1, 0), (4, 0), (1, 0), (1, 0)]
    | .page i p => [(1, codeIn [.queued, .picked, .inPath, .held, .ready] p.state), (4, p.pos.seq), (1, p.pos.sub),
        (1, s.tokenOf i)]
    | .slot q => [(1, 5), (4, q.seq), (1, q.sub), (1, 0)])

/-- The sequencer fields of a lane record. -/
def Batch.fields (b : Batch) : Fields :=
  (4, b.number) :: ticketFields b.lastTicket
  ++ [(4, b.document), (2, b.page), (1, b.cls.val), (1, b.startDoc.toNat), (1, b.firstOfBatch.toNat)]
  ++ (match b.seqState with
    | .idle => [(1, 0), (1, 0)]
    | .waiting t => [(1, 1), (1, t)])
  ++ [(4, min 4294967295 (b.waitTimer.getD 0)), (1, b.stallRaw.toNat)]

/-- The fields of a page record after its header; copies by ascending channel (log 38). -/
def State.pageFields (s : State) (token : Nat) (p : Page) : Fields :=
  [(1, codeIn [.picked, .inPath, .ready, .held, .queued] p.state + 1),
    (1, match p.action with
      | some a => codeIn [.pass, .hold, .stop] a
      | none => 255),
    (1, match p.holdReason with
      | some r => codeIn [.verdict, .jam] r
      | none => 255),
    (1, p.attempts)]
  ++ ifPresent 6 (p.lead.map fun x => bits48 x) ++ ifPresent 6 (p.trail.map fun x => bits48 x)
  ++ [(1, codeIn [.notOpen, .opened, .closed] p.image), (1, p.close.isSome.toNat),
      (1, ((p.close.map fun c => c.mark.toNat).getD 0)), (1, ((p.close.map fun c => c.blank.toNat).getD 0))]
  ++ ticketFields (p.close.bind fun c => c.ticket)
  ++ [(1, p.imageTimer.isSome.toNat), (2, p.imageTimer.getD 0), (1, p.copies)]
  ++ counted (allChans.flatMap fun c =>
      ((s.chan c).queue.filter fun x => x.token == token).map fun x => [(1, c.val), (2, x.sent)])

/-- The fields of a channel record. -/
def State.channelFields (s : State) (c : ChanId) : Fields :=
  [(1, c.val), (1, (s.channelRec c).enabled.toNat), (4, (s.channelRec c).limit), (4, (s.channelRec c).full),
    (4, (s.channelRec c).near), (4, (s.channelRec c).ease), (3, 0), (4, (s.chan c).fill),
    (1, codeIn [.opened, .near, .full] (s.chan c).fillState), (1, (s.chan c).pauseTimer.isSome.toNat),
    (2, (s.chan c).pauseTimer.getD 0)]
  ++ counted ((s.chan c).queue.map fun x =>
      [(1, x.token)]
      ++ (match s.live x.token with
        | some (_, p) => [(1, p.lane.val), (4, p.pos.seq), (1, p.pos.sub)]
        | none => [(1, 0), (4, 0), (1, 0)])
      ++ [(2, x.size), (2, x.sent)])

/-- The fields of a trunk record; the management trunk as 1 or 0 (log 30). -/
def State.trunkFields (s : State) (k : Trunk) : Fields :=
  [(1, codeIn [.a, .b] k), (1, codeIn [.down, .training, .up] (s.trunk k).link.state), (1, (s.trunk k).rr.val + 1),
    (1, if s.mgmtTrunk = k then 1 else 0), (2, (s.trunk k).link.errors), (1, (s.trunk k).requests.length),
    (1, (s.trunk k).discards)]

/-- The fields of an event class record: the raw set of a pulse class is 0. -/
def State.eventFields (s : State) (c : Fin 20) : Fields :=
  [(1, c.val), (2, if c ∈ [Ev.sonicDegraded, Ev.sonicDrift, Ev.headDown, Ev.releaseStall, Ev.channelNear,
      Ev.channelFull, Ev.trunkDown] then (s.event c).raw.toNat else 0),
    (1, (s.event c).latch.toNat), (2, (s.event c).sources.toNat), (1, (s.event c).count),
    (1, (s.event c).enabled.toNat), (1, (s.event c).priority.val), (1, (s.event c).reportPending.toNat)]

/-- The fields of a bank in the part record: its role and its generation. -/
def State.bankFields (s : State) (b : Fin 2) : Fields :=
  if b = s.activeBank then (1, 0) :: ifPresent 2 (some s.activeGen.toNat)
  else
    match s.otherRole with
    | .pending g => (1, 1) :: ifPresent 2 (some g.toNat)
    | .shadow => (1, 2) :: ifPresent 2 none
    | .retired _ => (1, 3) :: ifPresent 2 none

/-- The fields of the part record. -/
def State.partFields (s : State) : Fields :=
  [(1, codeIn [.powerOn, .pin, .requestFull, .requestLine] s.resetCause), (1, s.nonFree),
    (4, FreeList.size s.pool)]
  ++ s.bankFields 0 ++ s.bankFields 1
  ++ [(2, s.genCounter.toNat), (1, (allLanes.map fun l => (s.lane l).adopted.toNat * 2 ^ l.val).sum),
      (1, match s.otherRole with
        | .retired _ => 1
        | .shadow => 0
        | .pending _ => 0),
      (2, s.channelGen.toNat), (1, codeIn [.a, .b] s.mgmtTrunk)]

/-! ### After a reset (R51, R65, R90, R131, R150) -/

/-- A lane right after either kind of reset, but for its state, generation and current class. -/
def Lane.Fresh (x : Lane) : Prop :=
  (x.adoptingFrom = none ∧ x.counter = 0 ∧ x.high = 0 ∧ x.lastSensor = false ∧ x.path = [] ∧ x.sensor = none
      ∧ x.nextSeq = 0
      ∧ x.slots = [] ∧ x.loan = none ∧ x.gap = .clear ∧ x.trayEmpty = false ∧ x.misfeedTimer = none
      ∧ x.retryWait = none ∧ x.runoutTimer = none ∧ x.lastJam = none)
    ∧ (x.speed = 0 ∧ x.target = 0 ∧ x.ramp = none)
    ∧ (x.dfm.degraded = false ∧ x.dfm.calibration = .none ∧ x.dfm.b16 = 0 ∧ x.dfm.bref16 = 0
      ∧ x.dfm.badAir = 0 ∧ x.dfm.gridOrigin = 0 ∧ x.dfm.gridNext = 1 ∧ x.dfm.windows = []
      ∧ x.dfm.driftRaw = false)
    ∧ (x.batch.number = 0 ∧ x.batch.lastTicket = none ∧ x.batch.document = 0 ∧ x.batch.page = 0
      ∧ x.batch.startDoc = true ∧ x.batch.firstOfBatch = true ∧ x.batch.opened = false
      ∧ x.batch.seqState = .idle ∧ x.batch.waitTimer = none ∧ x.batch.stallRaw = false)

/-- The levels of a lane's input pins are as they were (log 10). -/
def SamePins (x y : Lane) : Prop :=
  y.entryBlocked = x.entryBlocked ∧ y.trayPaper = x.trayPaper ∧ y.amplitude = x.amplitude

/-! ### Outcomes -/

/-- The command answers a next state of which `P` holds. -/
def Completes (i : Instr) (s : State) (P : State → Prop) : Prop := ∃ t, exec i s = .next t ∧ P t

/-- The command answers the state that the act beginning with `s1` leaves: what `s1` and its sub-acts entail,
then the transmit slots. -/
def Begins (i : Instr) (s s1 : State) (ts : List Task) : Prop := exec i s = .next (settle (s1, ts))

/-- In `t` the request `r` of trunk `k` has been carried out from `s`: it has left its queue, the trunk is the
one served last, the reply waits with the status and record, and the other trunk's queue and reply are as they
were (R185, R186). -/
def Replied (s t : State) (k : Trunk) (r : Request) (st : Status) (record : List Byte) : Prop :=
  (t.trunk k).reply = some ⟨r.kind, r.tag, st, record, none⟩
    ∧ (t.trunk k).requests = (s.trunk k).requests.tail
    ∧ t.lastServed = k
    ∧ (t.trunk (otherTrunk k)).requests = (s.trunk (otherTrunk k)).requests
    ∧ (t.trunk (otherTrunk k)).reply = (s.trunk (otherTrunk k)).reply

/-- A lane request of a kind code: its one operand byte names the lane (section 11.5). -/
def laneRequest (kind : Byte) (tag : Byte) (l : LaneId) : Request := ⟨kind, tag, [BitVec.ofNat 8 l.val]⟩

/-! ### What is left as it was -/

/-- Nothing of the paper, the pages, the pool and the channels has changed. -/
def SamePaper (s t : State) : Prop :=
  t.lanes = s.lanes ∧ t.entries = s.entries ∧ t.pool = s.pool ∧ t.mem = s.mem ∧ t.channels = s.channels
    ∧ t.heads = s.heads

/-- Nothing of the table banks has changed. -/
def SameTables (s t : State) : Prop :=
  t.banks = s.banks ∧ t.activeBank = s.activeBank ∧ t.activeGen = s.activeGen ∧ t.otherRole = s.otherRole
    ∧ t.genCounter = s.genCounter ∧ t.channelGen = s.channelGen

/-- Every lane but `l` is as it was. -/
def OtherLanes (s t : State) (l : LaneId) : Prop := ∀ k, k ≠ l → t.lane k = s.lane k

/-- Every entry but `i` is as it was. -/
def OtherEntries (s t : State) (i : Fin 64) : Prop := ∀ j, j ≠ i → t.entry j = s.entry j

/-- Every channel but `c` is as it was. -/
def OtherChannels (s t : State) (c : ChanId) : Prop := ∀ d, d ≠ c → t.chan d = s.chan d

/-- Nothing of an event class has changed but report-pending, which a transmit slot may clear. -/
def SameEvent (a b : EventState) : Prop :=
  b.raw = a.raw ∧ b.latch = a.latch ∧ b.sources = a.sources ∧ b.count = a.count ∧ b.enabled = a.enabled
    ∧ b.priority = a.priority

def SameEvents (s t : State) : Prop := ∀ c, SameEvent (s.event c) (t.event c)

/-- No link, no management trunk and no reset cause has changed. -/
def SameLinks (s t : State) : Prop :=
  (∀ p, t.link p = s.link p) ∧ t.mgmtTrunk = s.mgmtTrunk ∧ t.resetCause = s.resetCause
    ∧ t.pending = s.pending

end Sys2Proof.Machine
end

