-- ==== Sys2Proof/Certificates/Slice0/Obligations.lean ====
section
/-! DEFINITION. The statements about the part, for the provers. OBLIGATIONS.json gives each its title, the rule
it comes from and its tier. -/

open Sys2Proof Sys2Proof.Machine

/-! ### The machine -/

/-- A step takes the command at the front of the queue and carries it out on the state with the queue's
rest. -/
def Obligations.StepRunsFrontCommand : Prop :=
  ∀ (c : Instr) (rest : List Instr) (s : State),
    step { s with pending := c :: rest } = exec c { s with pending := rest }

/-- On an empty queue one ms passes for every running timer and for the bank copy; nothing else changes.
That a step on an empty queue is a tick of one ms is the model's choice (log 1). -/
def Obligations.EmptyQueueTicks : Prop :=
  ∀ s : State, s.pending = [] → ∃ t, step s = .next t
    ∧ t = { s with lanes := t.lanes, entries := t.entries, channels := t.channels, otherRole := t.otherRole }
    ∧ (∀ l, t.lane l = { s.lane l with
        misfeedTimer := (s.lane l).misfeedTimer.map (· - 1)
        retryWait := (s.lane l).retryWait.map (· - 1)
        runoutTimer := (s.lane l).runoutTimer.map (· - 1)
        batch := { (s.lane l).batch with waitTimer := (s.lane l).batch.waitTimer.map (· + 1) } })
    ∧ (∀ i, t.entry i = { s.entry i with
        page := (s.pageAt i).map fun p => { p with imageTimer := p.imageTimer.map (· - 1) } })
    ∧ (∀ c, t.chan c = { s.chan c with pauseTimer := (s.chan c).pauseTimer.map (· - 1) })
    ∧ t.pendingGen = s.pendingGen
    ∧ (s.otherRole = .shadow → t.otherRole = .shadow)
    ∧ ∀ n, s.otherRole = .retired n → t.otherRole = .retired (n - 1)

/-- Every command, in every state, answers a next state, and leaves the waiting commands as they were. -/
def Obligations.EveryCommandAnswersNext : Prop :=
  ∀ (i : Instr) (s : State), Completes i s fun t => t.pending = s.pending

/-! ### Resets -/

/-- What a hard reset leaves: by POWER_ON, by RESET_PIN, and in the act in which the OK reply to
PART_RESET(FULL) has been handed whole to the link. That the pins keep their levels is the model's (log
10). -/
def Obligations.HardResetLeaves : Prop :=
  ∀ (i : Instr) (cause : ResetCause),
    ∀ s : State,
    (i = .powerOn ∧ cause = .powerOn) ∨ (i = .resetPin ∧ cause = .pin)
      ∨ (∃ k cell r, i = .replySent k ∧ (s.trunk k).tx = some ⟨.reply, cell⟩ ∧ (s.trunk k).reply = some r
          ∧ r.reset = some .full ∧ cause = .requestFull) →
    Completes i s fun t =>
      t.resetCause = cause
      ∧ (∀ e, t.entry e = ⟨0, none⟩)
      ∧ (∀ l, (t.lane l).Fresh ∧ (t.lane l).state = .off ∧ (t.lane l).gen = 0 ∧ (t.lane l).batch.cls = 0
          ∧ (t.lane l).adopted = false ∧ SamePins (s.lane l) (t.lane l))
      ∧ (∀ p, t.link p = ⟨.down, 0, 0, 0⟩)
      ∧ (∀ l, (t.head l).staleCount = 0 ∧ (t.head l).txQueue = [])
      ∧ FreeList.cells t.pool = List.range 65536
      ∧ (∀ c, t.chan c = ⟨[], .opened, none⟩)
      ∧ (∀ k, (t.trunk k).hasBeenUp = false ∧ (t.trunk k).tx = none ∧ (t.trunk k).rr = 0
          ∧ (t.trunk k).requests = [] ∧ (t.trunk k).discards = 0 ∧ (t.trunk k).reply = none)
      ∧ (∀ b : Fin 2, t.banks[b] = Tables.zeroed)
      ∧ t.activeBank = 0 ∧ t.activeGen = 0 ∧ t.otherRole = .shadow ∧ t.genCounter = 0 ∧ t.channelGen = 0
      ∧ t.lastServed = .b ∧ t.mgmtTrunk = .a
      ∧ (∀ c, c ≠ Ev.partReset → t.event c = ⟨0, false, 0, 0, true, 1, false⟩)
      ∧ t.event Ev.partReset = ⟨0, true, 1, 1, true, 1, true⟩

/-- The values of a zeroed bank, and the one ordering rule that it breaks: PROFILE 0 names class 0, which is
disabled. -/
def Obligations.ZeroedBankValues : Prop :=
  (∀ i : Fin 6, Tables.zeroed.lane[i] =
      { enabled := false, sonicEnabled := false, autostop := false, group := 0, pitch := 64, dSonic := 8
        dImage := 9, dExit := 10, gapMm := 10, pickToEntry := 50, pickRetries := 0, holdLimit := 1
        pickReserve := 0, profile := 0, reverseLimit := 5, runoutMs := 500, imageTimeout := 50 })
    ∧ (∀ i : Fin 3, Tables.zeroed.group[i] = { targetSpeed := 100, throttleSpeed := 100, slopeMs := 0 })
    ∧ (∀ i : Fin 16, Tables.zeroed.profile[i] =
      { lenMin := 50, lenMax := 50, tThick := 1, hyst := 0, minRun := 1, zones := [], polDouble := .pass
        polLong := .pass, polShort := .pass, polUnverified := .pass, polTruncated := .pass, markmap := 0
        defaultClass := 0, split := .mark, blankDrop := false })
    ∧ (∀ (i : Fin 4) (m : Fin 15), (Tables.zeroed.markmap[i])[m] = .ignore)
    ∧ (∀ i : Fin 32, Tables.zeroed.cls[i] = { enabled := false, primary := 0, mirror := none, maxDocPages := 1 })
    ∧ (∀ i : Fin 16, Tables.zeroed.channel[i] = { enabled := false, limit := 64, full := 2, near := 2, ease := 1 })
    ∧ Tables.zeroed.fault = some (.profile, 0)
    ∧ ({ Tables.zeroed with
          cls := Tables.zeroed.cls.set 0 { enabled := true, primary := 0, mirror := none, maxDocPages := 1 } }
        : Tables).fault = none

/-- A line reset, in the act in which the OK reply to PART_RESET(LINE) has been handed whole to the link:
what it clears, what it keeps, the lanes IDLE or OFF in the generation that every lane then holds. A CANCEL
cell goes out on an UP head link for every OPEN image of the lane; their order is the model's (log 24), and so
are the pins (log 10). Each round-robin pointer is at channel 1. -/
def Obligations.LineResetLeaves : Prop :=
  ∀ (s : State) (k : Trunk) (cell : OutCell) (r : Reply),
    (s.trunk k).tx = some ⟨.reply, cell⟩ → (s.trunk k).reply = some r → r.reset = some .line →
    Completes (.replySent k) s fun t =>
      t.resetCause = .requestLine
      ∧ (∀ e, t.pageAt e = none
          ∧ (t.entry e).incarnation = if (s.pageAt e).isSome then ((s.entry e).incarnation + 1) % 4
              else (s.entry e).incarnation)
      ∧ FreeList.cells t.pool = List.range 65536
      ∧ (∀ l, (t.lane l).Fresh ∧ (t.lane l).state = (if t.laneEnabled l then .idle else .off)
          ∧ (t.lane l).gen = s.pendingGen.getD (s.lane l).gen ∧ (t.lane l).batch.cls = (t.profileRec l).defaultClass
          ∧ SamePins (s.lane l) (t.lane l))
      ∧ (∀ c, t.chan c = ⟨[], .opened, none⟩)
      ∧ (∀ p, t.link p = s.link p)
      ∧ (∀ l, (t.head l).staleCount = (s.head l).staleCount
          ∧ (t.head l).txQueue = (s.head l).txQueue
            ++ if s.linkUp (.head l) then
                ((List.finRange 64).filter fun i =>
                  (s.pageAt i).any fun p => p.lane == l && p.image == .opened).map
                  fun i => ⟨.cancel, s.tokenOf i⟩
              else [])
      ∧ (∀ j, (t.trunk j).rr = 0)
      ∧ t.banks = s.banks ∧ t.genCounter = s.genCounter
      ∧ (∀ g, s.pendingGen = some g →
          t.activeGen = g ∧ t.channelGen = g ∧ t.activeBank = s.otherBank ∧ t.otherRole = .retired 4)
      ∧ (s.pendingGen = none → t.otherRole = s.otherRole)
      ∧ (t.trunk k).reply = none ∧ (t.trunk k).requests = (s.trunk k).requests
      ∧ (t.trunk (otherTrunk k)).reply = (s.trunk (otherTrunk k)).reply
      ∧ (t.trunk (otherTrunk k)).requests = (s.trunk (otherTrunk k)).requests
      ∧ t.mgmtTrunk = s.mgmtTrunk ∧ t.lastServed = s.lastServed
      ∧ (∀ c, (t.event c).enabled = (s.event c).enabled ∧ (t.event c).priority = (s.event c).priority)
      ∧ (∀ c, c ≠ Ev.partReset → c ≠ Ev.tablesAdopted → c ≠ Ev.headDown →
          (t.event c).latch = (s.event c).latch ∧ (t.event c).sources = (s.event c).sources
          ∧ (t.event c).count = (s.event c).count)
      ∧ (t.event Ev.partReset).latch = true ∧ (t.event Ev.partReset).count = min 255 ((s.event Ev.partReset).count + 1)
      ∧ ∀ l : LaneId, (t.event Ev.headDown).raw.getLsbD l.val = (t.laneEnabled l && !t.linkUp (.head l))

/-! ### What every step keeps -/

/-- The state right after power-on has every property that the next statements say every step keeps. -/
def Obligations.ResetStateIsSound : Prop :=
  PoolSound State.reset ∧ MemorySound State.reset ∧ PositionsSound State.reset ∧ SpeedsSound State.reset
    ∧ AirSound State.reset ∧ LimitsSound State.reset ∧ OnePicked State.reset ∧ SlotsSound State.reset
    ∧ CountsSound State.reset ∧ TablesSound State.reset

/-- Every cell is in the free list or in one cell list, once, and the free cells and the cell lists together
are the 65,536 cells. -/
def Obligations.StepKeepsCellsConserved : Prop :=
  ∀ s t : State, PoolSound s → step s = .next t →
    PoolSound t ∧ FreeList.size t.pool + t.pageCells.length = 65536

/-- Three properties, each kept by every step: the pool's content is in its canonical form, which is the
model's own (log 11); every numeric field of both banks lies in its range; the request queues and the counts
that stop keep their bounds. -/
def Obligations.StepKeepsDataForms : Prop :=
  ∀ s t : State, step s = .next t →
    (MemorySound s → MemorySound t) ∧ (TablesSound s → TablesSound t) ∧ (CountsSound s → CountsSound t)

/-- The counter stays within -2^47 and 2^47 - 1 and never above H; both are 0 in OFF and IDLE. -/
def Obligations.StepKeepsPositions : Prop :=
  ∀ s t : State, PositionsSound s → step s = .next t → PositionsSound t

/-- Every lane's speed lies in 0-1,500 and is 0 in OFF, IDLE and JAMMED. -/
def Obligations.StepKeepsSpeedsInRange : Prop :=
  ∀ s t : State, SpeedsSound s → step s = .next t → SpeedsSound t

/-- While a lane is calibrated and GOOD its B16 lies in 1,024-16,352; the calibration run and the bad-air
count keep their ranges. -/
def Obligations.StepKeepsAirBaseline : Prop :=
  ∀ s t : State, AirSound s → step s = .next t → AirSound t

/-- A path list holds at most 4 sheets and a lane at most 24 non-FREE pages; a lane has at most one PICKED
page; the part holds at most 64 non-FREE pages. -/
def Obligations.StepKeepsPageLimits : Prop :=
  ∀ s t : State, step s = .next t → (LimitsSound s → LimitsSound t) ∧ (OnePicked s → OnePicked t) ∧ t.nonFree ≤ 64

/-- A slot list is in position order without duplicates, and with the loaned slot it holds at most 8. -/
def Obligations.StepKeepsSlotLists : Prop :=
  ∀ s t : State, SlotsSound s → step s = .next t → SlotsSound t

/-! ### The page table (chapter 1) -/

/-- A token names the page in entry t - 64 x floor(t / 64) exactly while that entry is not FREE and has the
incarnation floor(t / 64). An allocation is granted exactly while some entry is FREE and the lane has fewer
than 24 non-FREE pages, and takes the FREE entry with the lowest index. Freeing an entry returns its cells
to the tail of the free list in their order, advances the incarnation modulo 4, makes the token stale, and
touches nothing else. -/
def Obligations.EntriesAndTokens : Prop :=
  ((∀ (s : State) (token : Nat) (i : Fin 64) (p : Page),
      s.live token = some (i, p) ↔
        i.val = token - 64 * (token / 64) ∧ s.pageAt i = some p ∧ (s.entry i).incarnation = token / 64)
    ∧ ∀ (s : State) (i : Fin 64) (p : Page), s.pageAt i = some p →
        s.tokenOf i = 64 * (s.entry i).incarnation + i.val ∧ s.live (s.tokenOf i) = some (i, p))
  ∧ (∀ (s : State) (l : LaneId) (i : Fin 64),
    s.grantedEntry l = some i ↔
      s.laneNonFree l < 24 ∧ s.pageAt i = none ∧ ∀ j : Fin 64, j < i → s.pageAt j ≠ none)
  ∧ (∀ (s : State) (i : Fin 64) (p : Page), s.pageAt i = some p →
    (s.freeEntry i).entry i = ⟨((s.entry i).incarnation + 1) % 4, none⟩
      ∧ FreeList.cells (s.freeEntry i).pool = FreeList.cells s.pool ++ p.cells
      ∧ (s.freeEntry i).live (s.tokenOf i) = none
      ∧ OtherEntries s (s.freeEntry i) i
      ∧ s.freeEntry i = { s with entries := (s.freeEntry i).entries, pool := (s.freeEntry i).pool })

/-- The verdict is the highest-ranking flag present, and the action the most severe of the policies of the
flags present, with HOLD for LOST; ACCEPTED takes no part. The last of the three parts of an IN_PATH page
brings its verdict, under the PROFILE of its gen_pick: READY for PASS, which asks for the release head, else
HELD with reason VERDICT and PAGE_HELD, and only STOP sends the lane to RUNOUT. In any other state, or before,
nothing happens. -/
def Obligations.VerdictAssembled : Prop :=
  (∀ (f : PageFlags) (r : ProfileRec),
    (f.verdict =
      if f.lost then .lost else if f.truncated then .truncated else if f.double then .double
      else if f.long then .long else if f.short then .short else if f.unverified then .unverified else .clean)
    ∧ (f.action r = .stop ↔
        (f.truncated ∧ r.polTruncated = .stop) ∨ (f.double ∧ r.polDouble = .stop)
        ∨ (f.long ∧ r.polLong = .stop) ∨ (f.short ∧ r.polShort = .stop)
        ∨ (f.unverified ∧ r.polUnverified = .stop))
    ∧ (f.action r = .pass ↔
        ¬f.lost ∧ (f.truncated → r.polTruncated = .pass) ∧ (f.double → r.polDouble = .pass)
        ∧ (f.long → r.polLong = .pass) ∧ (f.short → r.polShort = .pass)
        ∧ (f.unverified → r.polUnverified = .pass))
    ∧ ∀ a, ({ f with accepted := a } : PageFlags).verdict = f.verdict
        ∧ ({ f with accepted := a } : PageFlags).action r = f.action r)
  ∧ (∀ (s : State) (token : Nat) (i : Fin 64) (p : Page), s.live token = some (i, p) →
    (p.state = .inPath → p.lengthMm.isSome → p.sonic ≠ .pending → p.image = .closed →
      ∃ t ts, handle (.assemble token) s = (t, ts)
        ∧ t.pageAt i = some { p with
            verdict := some p.flags.verdict
            action := some (p.flags.action (s.pickProfileRec p.lane p.genPick))
            state := if p.flags.action (s.pickProfileRec p.lane p.genPick) = .pass then .ready else .held
            holdReason := if p.flags.action (s.pickProfileRec p.lane p.genPick) = .pass then none
              else some .verdict }
        ∧ OtherEntries s t i ∧ t.lanes = s.lanes ∧ t.pool = s.pool ∧ t.channels = s.channels
        ∧ (p.flags.action (s.pickProfileRec p.lane p.genPick) = .pass → t.events = s.events)
        ∧ (p.flags.action (s.pickProfileRec p.lane p.genPick) ≠ .pass →
            t.event Ev.pageHeld = (s.event Ev.pageHeld).occur p.lane.val)
        ∧ (p.flags.action (s.pickProfileRec p.lane p.genPick) = .stop → Task.enterRunout p.lane ∈ ts)
        ∧ (p.flags.action (s.pickProfileRec p.lane p.genPick) ≠ .stop → ∀ m, Task.enterRunout m ∉ ts)
        ∧ (p.flags.action (s.pickProfileRec p.lane p.genPick) = .pass → Task.release p.lane ∈ ts)
        ∧ (p.flags.action (s.pickProfileRec p.lane p.genPick) ≠ .pass → Task.holds ∈ ts))
    ∧ (p.state ≠ .inPath ∨ p.lengthMm = none ∨ p.sonic = .pending ∨ p.image ≠ .closed →
        handle (.assemble token) s = (s, [])))

/-! ### Lane transport (chapter 2) -/

/-- ENCODER_FORWARD_STEP. In OFF and IDLE the step is not counted. Elsewhere the counter rises by one, not
past 2^47 - 1. Below or at H nothing else happens; above it H rises with the counter, and the edge, the
scheduled events, the gap's pick, the samples, the air grid and the jam checks are tested, in an order that
is the model's (log 6). The amplitude as an operand is the model's too (log 19). -/
def Obligations.ForwardStepCounts : Prop :=
  ∀ (s : State) (l : LaneId) (a : BitVec 10),
    ((s.lane l).state = .off ∨ (s.lane l).state = .idle →
      Completes (.encoderForwardStep l a) s fun t =>
        t.lane l = { s.lane l with amplitude := a } ∧ OtherLanes s t l ∧ t.entries = s.entries
          ∧ t.pool = s.pool ∧ t.channels = s.channels ∧ SameTables s t ∧ SameEvents s t ∧ SameLinks s t)
    ∧ ((s.lane l).state ≠ .off → (s.lane l).state ≠ .idle → (s.lane l).counter < 140737488355327 →
        (s.lane l).counter + 1 ≤ (s.lane l).high →
        Completes (.encoderForwardStep l a) s fun t =>
          t.lane l = { s.lane l with amplitude := a, counter := (s.lane l).counter + 1 } ∧ OtherLanes s t l
            ∧ t.entries = s.entries ∧ t.pool = s.pool ∧ t.channels = s.channels ∧ SameTables s t
            ∧ SameEvents s t ∧ SameLinks s t)
    ∧ ((s.lane l).state ≠ .off → (s.lane l).state ≠ .idle → (s.lane l).counter < 140737488355327 →
        (s.lane l).counter = (s.lane l).high →
        ∃ s1, Begins (.encoderForwardStep l a) s s1
            [.edge l, .scheduled l, .gapPick l, .samples l, .air l, .jamChecks l]
          ∧ s1.lane l = { s.lane l with
              amplitude := a, counter := (s.lane l).counter + 1, high := (s.lane l).high + 1 }
          ∧ OtherLanes s s1 l ∧ s1 = { s with lanes := s1.lanes })
    ∧ ((s.lane l).state ≠ .off → (s.lane l).state ≠ .idle → (s.lane l).counter = 140737488355327 →
        (s.lane l).counter ≤ (s.lane l).high →
        Completes (.encoderForwardStep l a) s fun t =>
          t.lane l = { s.lane l with amplitude := a } ∧ OtherLanes s t l ∧ t.entries = s.entries)

/-- ENCODER_REVERSE_STEP. In OFF and IDLE the step is not counted. Elsewhere the counter falls by one, and at
-2^47 it stays there; H stays; in a moving state a counter below H - off(reverse_limit_mm) jams the lane with
cause REVERSE. -/
def Obligations.ReverseStepCounts : Prop :=
  ∀ (s : State) (l : LaneId),
    ((s.lane l).state = .off ∨ (s.lane l).state = .idle →
      Completes (.encoderReverseStep l) s fun t => t.lanes = s.lanes ∧ t.entries = s.entries)
    ∧ ∀ c : Int, c = (if -140737488355328 < (s.lane l).counter then (s.lane l).counter - 1 else -140737488355328) →
      -140737488355328 ≤ (s.lane l).counter →
      ((s.lane l).state ≠ .off → (s.lane l).state ≠ .idle →
        ((s.lane l).state = .jammed ∨
          ((s.lane l).high : Int) - off (s.laneRec l).reverseLimit (s.laneRec l).pitch ≤ c) →
        Completes (.encoderReverseStep l) s fun t =>
          t.lane l = { s.lane l with counter := c } ∧ OtherLanes s t l
            ∧ t.entries = s.entries ∧ t.pool = s.pool ∧ t.channels = s.channels ∧ SameTables s t
            ∧ SameEvents s t ∧ SameLinks s t)
      ∧ ((s.lane l).state.moving = true →
        c < ((s.lane l).high : Int) - off (s.laneRec l).reverseLimit (s.laneRec l).pitch →
        (∃ s1, Begins (.encoderReverseStep l) s s1 [.jam l .reverse] ∧ s1.lane l = { s.lane l with counter := c }
          ∧ OtherLanes s s1 l ∧ s1 = { s with lanes := s1.lanes })
        ∧ Completes (.encoderReverseStep l) s fun t =>
          (t.lane l).state = .jammed ∧ (t.lane l).lastJam = some .reverse ∧ (t.lane l).speed = 0
            ∧ (t.event Ev.laneJammed).latch = true ∧ (t.event Ev.laneJammed).sources.getLsbD l.val = true)

/-- ENTRY_SENSOR_CHANGE changes the level of the pin and nothing else: edges are taken at new high-water
positions. TRAY_SENSOR_CHANGE: paper takes TRAY_EMPTY out of the set, except in JAMMED (log 13); an empty
tray is only noted. -/
def Obligations.SensorsChange : Prop :=
  (∀ (s : State) (l : LaneId) (b : Bool),
    Completes (.entrySensorChange l b) s fun t =>
      t.lane l = { s.lane l with entryBlocked := b } ∧ OtherLanes s t l ∧ t = { s with lanes := t.lanes })
  ∧ (∀ (s : State) (l : LaneId) (paper : Bool),
    (paper = true → (s.lane l).trayEmpty = true → (s.lane l).state ≠ .jammed →
      ∃ s1, Begins (.traySensorChange l paper) s s1 [.holds]
        ∧ s1.lane l = { s.lane l with trayPaper := true, trayEmpty := false } ∧ OtherLanes s s1 l
        ∧ s1 = { s with lanes := s1.lanes })
    ∧ (paper = false ∨ (s.lane l).trayEmpty = false ∨ (s.lane l).state = .jammed →
        Completes (.traySensorChange l paper) s fun t =>
          t.lane l = { s.lane l with trayPaper := paper } ∧ OtherLanes s t l ∧ t.entries = s.entries
            ∧ t.pool = s.pool ∧ t.channels = s.channels ∧ SameTables s t ∧ SameEvents s t ∧ SameLinks s t))

/-- A leading edge at a new high-water position, with a page PICKED: the page becomes IN_PATH with that lead,
which its sheet takes too, the misfeed timer and a retry wait end, the loan ends, the sheet is the sensor page,
a window opens. With no page PICKED the sheet is unexpected: with a position, a granted entry and fewer than 4
sheets in the path it is allocated IN_PATH with DOUBLE, and a lane in RAMP_DOWN returns to RUNOUT; else the lane
jams with cause OVERRUN. A trailing edge is ignored without a sensor page; else it writes the trail, the length
and its flags, the sonic field of a window without sonic measurement, and the gap state, and the verdict may be
assembled, which comes before the pick test by the model's choice (log 40). -/
def Obligations.LeadingEdgeOfPickedPage : Prop :=
  (∀ (s : State) (l : LaneId) (i : Fin 64) (p : Page),
    (s.lane l).state.moving = true → (s.lane l).entryBlocked = true → (s.lane l).lastSensor = false →
    s.pickedEntry l = some i → s.pageAt i = some p →
    ∃ t, handle (.edge l) s = (t, [.fgc])
      ∧ t.pageAt i = some { p with state := .inPath, lead := some (p.lead.getD (s.lane l).high) }
      ∧ OtherEntries s t i
      ∧ (t.lane l).lastSensor = true ∧ (t.lane l).sensor = some (s.tokenOf i)
      ∧ (t.lane l).misfeedTimer = none ∧ (t.lane l).retryWait = none ∧ (t.lane l).loan = none
      ∧ (t.lane l).state = (if (s.lane l).state = .retryWait then .holding else (s.lane l).state)
      ∧ (t.lane l).gap = (s.lane l).gap ∧ (t.lane l).slots = (s.lane l).slots
      ∧ (t.lane l).nextSeq = (s.lane l).nextSeq ∧ (t.lane l).path.length = (s.lane l).path.length
      ∧ (∃ w, (t.lane l).dfm.windows = (s.lane l).dfm.windows ++ [w] ∧ w.token = s.tokenOf i
          ∧ w.lead = (s.lane l).high ∧ w.next = 0 ∧ w.thick = false ∧ w.maxRun = 0 ∧ w.void = false)
      ∧ (∀ pre sh post, (s.lane l).path = pre ++ sh :: post → sh.token = s.tokenOf i → sh.lead = none →
          (∀ x ∈ pre, x.token ≠ s.tokenOf i ∨ x.lead ≠ none) →
          (t.lane l).path = pre ++ { sh with lead := some (s.lane l).high } :: post)
      ∧ OtherLanes s t l ∧ t.events = s.events ∧ t.pool = s.pool)
  ∧ (∀ (s : State) (l : LaneId), (s.lane l).state.moving = true → (s.lane l).entryBlocked = true →
    (s.lane l).lastSensor = false → s.pickedEntry l = none →
    (∀ (i : Fin 64) (pos : SeqPos), (s.lane l).nextPos = some pos → s.grantedEntry l = some i →
      (s.lane l).path.length < 4 →
      ∃ t, handle (.edge l) s = (t, [.fgc])
        ∧ (∃ p, t.pageAt i = some p ∧ p.lane = l ∧ p.state = .inPath ∧ p.pos = pos ∧ p.genPick = (s.lane l).gen
            ∧ p.attempts = 1 ∧ p.lead = some (s.lane l).high ∧ p.trail = none ∧ p.lengthMm = none
            ∧ p.sonic = .pending ∧ p.image = .notOpen ∧ p.cells = [] ∧ p.close = none ∧ p.verdict = none
            ∧ p.release = none ∧ p.flags = { PageFlags.empty with double := true })
        ∧ (t.entry i).incarnation = (s.entry i).incarnation ∧ OtherEntries s t i
        ∧ (∃ sh, (t.lane l).path = (s.lane l).path ++ [sh] ∧ sh.token = s.tokenOf i
            ∧ sh.genPick = (s.lane l).gen ∧ sh.lead = some (s.lane l).high ∧ sh.trail = none ∧ sh.gate = .none)
        ∧ (t.lane l).sensor = some (s.tokenOf i) ∧ (t.lane l).gap = .wait ∧ (t.lane l).lastSensor = true
        ∧ (t.lane l).clutchPulses = (s.lane l).clutchPulses ∧ (t.lane l).loan = (s.lane l).loan
        ∧ (∀ q rest, (s.lane l).slots = q :: rest →
            pos = q ∧ (t.lane l).slots = rest ∧ (t.lane l).nextSeq = (s.lane l).nextSeq)
        ∧ ((s.lane l).slots = [] → pos = ⟨(s.lane l).nextSeq, 0⟩ ∧ (t.lane l).slots = []
            ∧ (t.lane l).nextSeq = (s.lane l).nextSeq + 1)
        ∧ (∃ w, (t.lane l).dfm.windows = (s.lane l).dfm.windows ++ [w] ∧ w.token = s.tokenOf i
            ∧ w.lead = (s.lane l).high ∧ w.next = 0)
        ∧ (t.lane l).state = (if (s.lane l).state = .rampDown then .runout else (s.lane l).state)
        ∧ (t.lane l).runoutTimer
            = (if (s.lane l).state = .rampDown then some (s.laneRec l).runoutMs else (s.lane l).runoutTimer)
        ∧ ((s.lane l).state ≠ .rampDown ∨ (s.lane l).retryWait = none →
            (t.lane l).misfeedTimer = (s.lane l).misfeedTimer)
        ∧ OtherLanes s t l ∧ t.events = s.events ∧ t.pool = s.pool)
    ∧ ((s.lane l).nextPos = none ∨ s.grantedEntry l = none ∨ 4 ≤ (s.lane l).path.length →
      ∃ t, handle (.edge l) s = (t, [.jam l .overrun]) ∧ t.lane l = { s.lane l with lastSensor := true }
        ∧ OtherLanes s t l ∧ t = { s with lanes := t.lanes }))
  ∧ (∀ (s : State) (l : LaneId), (s.lane l).state.moving = true → (s.lane l).entryBlocked = false →
    (s.lane l).lastSensor = true →
    ((s.lane l).sensor = none →
      ∃ t, handle (.edge l) s = (t, []) ∧ t.lane l = { s.lane l with lastSensor := false }
        ∧ OtherLanes s t l ∧ t = { s with lanes := t.lanes })
    ∧ (∀ tok, (s.lane l).sensor = some tok →
      ∃ t, handle (.edge l) s = (t, [.assemble tok, .pickTest l])
        ∧ (t.lane l).lastSensor = false ∧ (t.lane l).sensor = none ∧ (t.lane l).gap = .since (s.lane l).high
        ∧ (t.lane l).state = (s.lane l).state ∧ (t.lane l).slots = (s.lane l).slots
        ∧ (t.lane l).nextSeq = (s.lane l).nextSeq ∧ (t.lane l).misfeedTimer = (s.lane l).misfeedTimer
        ∧ (∀ pre sh post, (s.lane l).path = pre ++ sh :: post → sh.lead ≠ none → sh.trail = none →
            (∀ x ∈ pre, x.lead = none ∨ x.trail ≠ none) →
            (t.lane l).path = pre ++ { sh with trail := some (s.lane l).high } :: post)
        ∧ (t.lane l).dfm = { (s.lane l).dfm with
            windows := (s.lane l).dfm.windows.map fun w =>
              if w.token = tok ∧ w.trail = none then
                { w with
                  trail := some (s.lane l).high
                  samples := some (sampleCount ((s.lane l).high - w.lead) w.pitch)
                  zoneEnd := some ((s.lane l).high + w.offS + off 4 w.pitch) }
              else w }
        ∧ (s.live tok = none → t.entries = s.entries)
        ∧ (∀ i p w, s.live tok = some (i, p) → p.trail = none → p.lengthMm = none →
            (s.lane l).dfm.windows.find? (fun w => w.token == tok && w.trail.isNone) = some w →
            ∀ len, len = lengthMm ((s.lane l).high - w.lead) w.pitch →
            (w.sonicEnabled = true ∨ p.sonic ≠ .pending →
              t.pageAt i = some { p with
                trail := some (s.lane l).high, lengthMm := some len
                flags := { p.flags with
                  long := p.flags.long || decide (w.lenMax < len)
                  short := p.flags.short || decide (len < w.lenMin) } })
            ∧ (w.sonicEnabled = false → p.sonic = .pending →
              t.pageAt i = some { p with
                trail := some (s.lane l).high, lengthMm := some len, sonic := .unverified
                flags := { p.flags with
                  long := p.flags.long || decide (w.lenMax < len)
                  short := p.flags.short || decide (len < w.lenMin), unverified := true } })
            ∧ OtherEntries s t i)
        ∧ OtherLanes s t l ∧ t.events = s.events ∧ t.pool = s.pool))

/-- When a pick is due: FEEDING, fewer than 4 sheets in the path list, no page of the lane PICKED, and the gap
condition (CLEAR, or FROM(p) with H at p + off(gap_mm) or beyond). A pick test that is not due does nothing; at
a new high-water position it is made while the gap state is FROM(p). A pick that is due: with paper in the tray,
a position and a granted entry it allocates a page, pulses the clutch, which the model keeps as a count of
pulses (log 18), and starts the misfeed timer; with the tray empty, or no entry granted, it allocates nothing
and pulses nothing. The six holding reasons, each in the set exactly while its condition holds; QUEUE_FULL takes
group and class from the generation in use, but during an adoption from the one that the lane leaves, up to step
6 of R178, which is read from R63 and R178 by inference (log 39). A lane in FEEDING with a set that is not empty
goes to HOLDING, which is how FEEDING has an empty set, and a lane in HOLDING with an empty set goes to FEEDING
and tests its pick; which goes first of several is not fixed (log 7). -/
def Obligations.DuePickTaken : Prop :=
  (∀ (s : State) (l : LaneId),
    (s.pickDue l = true ↔ (s.lane l).state = .feeding ∧ (s.lane l).path.length < 4
      ∧ (∀ i p, s.pageAt i = some p → p.lane = l → p.state ≠ .picked)
      ∧ ((s.lane l).gap = .clear
        ∨ ∃ p, (s.lane l).gap = .since p ∧ p + off (s.laneRec l).gapMm (s.laneRec l).pitch ≤ (s.lane l).high))
    ∧ (s.pickDue l = false → handle (.pickTest l) s = (s, []))
    ∧ (∀ p, (s.lane l).gap = .since p → handle (.gapPick l) s = (s, [.pickTest l]))
    ∧ ((s.lane l).gap = .clear ∨ (s.lane l).gap = .wait → handle (.gapPick l) s = (s, [])))
  ∧ (∀ (s : State) (l : LaneId) (i : Fin 64) (pos : SeqPos),
    s.pickDue l = true → (s.lane l).trayPaper = true → (s.lane l).nextPos = some pos →
    s.grantedEntry l = some i →
    ∃ t, handle (.pickTest l) s = (t, [.holds])
      ∧ (∃ p, t.pageAt i = some p ∧ p.lane = l ∧ p.state = .picked ∧ p.pos = pos ∧ p.genPick = (s.lane l).gen
          ∧ p.attempts = 1 ∧ p.cells = [] ∧ p.image = .notOpen ∧ p.sonic = .pending
          ∧ p.flags = ⟨false, false, false, false, false, false, false⟩ ∧ p.lead = none ∧ p.release = none)
      ∧ (t.entry i).incarnation = (s.entry i).incarnation ∧ OtherEntries s t i
      ∧ (∀ q rest, (s.lane l).slots = q :: rest →
          pos = q ∧ (t.lane l).slots = rest ∧ (t.lane l).loan = some q
            ∧ (t.lane l).nextSeq = (s.lane l).nextSeq)
      ∧ ((s.lane l).slots = [] →
          pos = ⟨(s.lane l).nextSeq, 0⟩ ∧ (t.lane l).slots = [] ∧ (t.lane l).loan = none
            ∧ (t.lane l).nextSeq = (s.lane l).nextSeq + 1)
      ∧ (t.lane l).clutchPulses = (s.lane l).clutchPulses + 1
      ∧ (t.lane l).misfeedTimer = some (s.laneRec l).pickToEntry
      ∧ (t.lane l).gap = .wait ∧ (t.lane l).state = .feeding
      ∧ (∃ sh, (t.lane l).path = (s.lane l).path ++ [sh] ∧ sh.token = s.tokenOf i ∧ sh.lead = none
          ∧ sh.trail = none ∧ sh.gate = .none)
      ∧ OtherLanes s t l ∧ t.events = s.events ∧ t.pool = s.pool)
  ∧ (∀ (s : State) (l : LaneId), s.pickDue l = true →
    ((s.lane l).trayPaper = false → (s.laneRec l).autostop = false →
      ∃ t, handle (.pickTest l) s = (t, [])
        ∧ t.lane l = { s.lane l with state := .holding, trayEmpty := true }
        ∧ OtherLanes s t l ∧ t = { s with lanes := t.lanes })
    ∧ ((s.lane l).trayPaper = false → (s.laneRec l).autostop = true →
        handle (.pickTest l) s = (s.toRunout l, [.fgc]))
    ∧ ((s.lane l).trayPaper = true → s.grantedEntry l = none →
        ∃ t, handle (.pickTest l) s = (t, []) ∧ t.lane l = { s.lane l with state := .holding }
          ∧ OtherLanes s t l ∧ t = { s with lanes := t.lanes }))
  ∧ (∀ (s : State) (l : LaneId),
    ((s.holding l).holdLimit = true ↔ (s.laneRec l).holdLimit ≤ s.heldCount l)
    ∧ ((s.holding l).queueFull = true ↔ ∃ m : LaneId, s.groupOf m = s.groupOf l ∧ (s.lane m).state ≠ .off
        ∧ (s.lane m).state ≠ .idle ∧ ∃ c, (c = ((s.feedTables m).cls[(s.lane m).batch.cls]).primary
          ∨ ((s.feedTables m).cls[(s.lane m).batch.cls]).mirror = some c) ∧ (s.chan c).fillState = .full)
    ∧ ((s.holding l).tableFull = true ↔ (∀ i, s.pageAt i ≠ none) ∨ 24 ≤ s.laneNonFree l)
    ∧ ((s.holding l).poolLow = true ↔ FreeList.size s.pool < (s.laneRec l).pickReserve)
    ∧ ((s.holding l).trayEmpty = true ↔ (s.lane l).trayEmpty = true)
    ∧ ((s.holding l).seqLimit = true ↔ 4294967296 ≤ (s.lane l).nextSeq ∧ (s.lane l).slots = [])
    ∧ ((s.holding l).any = true ↔ (s.holding l).holdLimit = true ∨ (s.holding l).queueFull = true
        ∨ (s.holding l).tableFull = true ∨ (s.holding l).poolLow = true ∨ (s.holding l).trayEmpty = true
        ∨ (s.holding l).seqLimit = true))
  ∧ (∀ (s : State) (after : LaneId → Lane),
    (∀ l, after l = { s.lane l with
        state := if (s.lane l).state = .feeding ∧ (s.holding l).any = true then .holding
          else (s.lane l).state }) →
    ((∀ l, (s.lane l).state = .holding → (s.holding l).any = true) →
      ∃ t, handle .holds s = (t, []) ∧ (∀ l, t.lane l = after l) ∧ t = { s with lanes := t.lanes })
    ∧ ((∃ l, (s.lane l).state = .holding ∧ (s.holding l).any = false) →
      ∃ l t, (s.lane l).state = .holding ∧ (s.holding l).any = false
        ∧ handle .holds s = (t, [.pickTest l, .holds])
        ∧ t.lane l = { s.lane l with state := .feeding } ∧ (∀ k, k ≠ l → t.lane k = after k)
        ∧ t = { s with lanes := t.lanes, freeDraws := t.freeDraws }))

/-- Entering RUNOUT from a state that a stop reaches: the timer starts, a retry wait is cancelled with the
misfeed timer afresh, and an empty path list takes the lane on to RAMP_DOWN; in other states nothing
changes. RUNOUT_TIMER_EXPIRY in RUNOUT with the path list not empty jams the lane with cause
RUNOUT_TIMEOUT. -/
def Obligations.RunoutEnteredAndTimed : Prop :=
  (∀ (s : State) (l : LaneId),
    ((s.lane l).state = .rampUp ∨ (s.lane l).state = .feeding ∨ (s.lane l).state = .holding
        ∨ (s.lane l).state = .retryWait →
      ∃ t, handle (.enterRunout l) s = (t, [.fgc])
        ∧ t.lane l = { s.lane l with
            state := if (s.lane l).path = [] then .rampDown else .runout
            runoutTimer := if (s.lane l).path = [] then none else some (s.laneRec l).runoutMs
            retryWait := none
            misfeedTimer := if (s.lane l).retryWait.isSome then (s.pickedSheet l).map Sheet.pickToEntry
              else (s.lane l).misfeedTimer }
        ∧ OtherLanes s t l ∧ t = { s with lanes := t.lanes })
    ∧ ((s.lane l).state = .runout ∨ (s.lane l).state = .rampDown ∨ (s.lane l).state = .off
        ∨ (s.lane l).state = .idle ∨ (s.lane l).state = .jammed → handle (.enterRunout l) s = (s, [])))
  ∧ (∀ (s : State) (l : LaneId) (n : Nat),
    (s.lane l).runoutTimer = some n → (s.lane l).state = .runout → (s.lane l).path ≠ [] →
    Completes (.runoutTimerExpiry l) s fun t =>
      (t.lane l).state = .jammed ∧ (t.lane l).lastJam = some .runoutTimeout ∧ (t.lane l).speed = 0
        ∧ (t.lane l).ramp = none ∧ (t.lane l).path = (s.lane l).path
        ∧ (t.event Ev.laneJammed).latch = true ∧ (t.event Ev.laneJammed).sources.getLsbD l.val = true)

/-- MISFEED_TIMER_EXPIRY with the page still PICKED: a retry while attempts is at most pick_retries in
FEEDING or HOLDING, else exhaustion; without a running timer it cannot occur and changes nothing (log 2).
RETRY_WAIT_END with paper in the tray re-pulses the clutch for the waiting page; with the tray empty the
page is given up. The order of what follows a freeing is read from the spec by inference (log 16), that the
FGC comes before it is the model's choice (log 40), and so is the count of pulses (log 18). -/
def Obligations.PickTimersExpire : Prop :=
  (∀ (s : State) (l : LaneId),
    (∀ (n : Nat) (i : Fin 64) (p : Page) (sh : Sheet), (s.lane l).misfeedTimer = some n → s.pickedEntry l = some i →
      s.pageAt i = some p → s.pickedSheet l = some sh →
      (((s.lane l).state = .feeding ∨ (s.lane l).state = .holding) → p.attempts ≤ sh.pickRetries →
        ∃ s1, Begins (.misfeedTimerExpiry l) s s1 [.fgc]
          ∧ s1.lane l = { s.lane l with state := .retryWait, misfeedTimer := none, retryWait := some 200 }
          ∧ s1.pageAt i = some { p with attempts := p.attempts + 1 }
          ∧ OtherEntries s s1 i ∧ OtherLanes s s1 l ∧ s1.events = s.events)
      ∧ ((((s.lane l).state = .feeding ∨ (s.lane l).state = .holding) ∧ sh.pickRetries < p.attempts)
            ∨ (s.lane l).state = .runout →
          (∃ s1, Begins (.misfeedTimerExpiry l) s s1 (.fgc :: .retire :: [.holds, .release l, .adoptMoment l])
            ∧ s1.pageAt i = none ∧ OtherEntries s s1 i
            ∧ (s1.lane l).path = (s.lane l).path.eraseP (fun x => x.token == s.tokenOf i && x.lead.isNone)
            ∧ (s1.lane l).slots = (match (s.lane l).loan with
                | some q => insertSlot q (s.lane l).slots
                | none => (s.lane l).slots)
            ∧ (s1.lane l).loan = none ∧ (s1.lane l).gap = .clear ∧ (s1.lane l).misfeedTimer = none
            ∧ (s1.lane l).nextSeq = (s.lane l).nextSeq
            ∧ (s1.lane l).state = (if (s1.lane l).path = [] then .rampDown else .runout)
            ∧ FreeList.cells s1.pool = FreeList.cells s.pool ++ p.cells ∧ OtherLanes s s1 l)
          ∧ Completes (.misfeedTimerExpiry l) s fun t =>
              (t.event Ev.feedFailure).latch = true
                ∧ (t.event Ev.feedFailure).sources.getLsbD l.val = true))
    ∧ ((s.lane l).misfeedTimer = none → Completes (.misfeedTimerExpiry l) s fun t =>
        t.lanes = s.lanes ∧ t.entries = s.entries ∧ SameEvents s t))
  ∧ (∀ (s : State) (l : LaneId) (n : Nat) (i : Fin 64) (sh : Sheet),
    (s.lane l).state = .retryWait → (s.lane l).retryWait = some n → s.pickedEntry l = some i →
    s.pickedSheet l = some sh →
    ((s.lane l).trayPaper = true →
      ∃ s1, Begins (.retryWaitEnd l) s s1 [.fgc]
        ∧ s1.lane l = { s.lane l with
            state := .holding, retryWait := none, misfeedTimer := some sh.pickToEntry
            clutchPulses := (s.lane l).clutchPulses + 1 }
        ∧ OtherLanes s s1 l ∧ s1 = { s with lanes := s1.lanes })
    ∧ ((s.lane l).trayPaper = false →
        ∃ s1, Begins (.retryWaitEnd l) s s1 (.fgc :: .retire :: [.holds, .release l, .adoptMoment l])
          ∧ s1.pageAt i = none ∧ OtherEntries s s1 i ∧ s1.events = s.events
          ∧ (s1.lane l).clutchPulses = (s.lane l).clutchPulses ∧ (s1.lane l).gap = .clear
          ∧ (s1.lane l).loan = none ∧ (s1.lane l).retryWait = none ∧ OtherLanes s s1 l
          ∧ ((s.laneRec l).autostop = false →
              (s1.lane l).state = .holding ∧ (s1.lane l).trayEmpty = true)
          ∧ ((s.laneRec l).autostop = true →
              (s1.lane l).state = if (s1.lane l).path = [] then .rampDown else .runout)))

/-- Entering JAMMED in one act: every live page of the path list gets LOST, which acts on it by its state, and
its OPEN image is closed TRUNCATED with a CANCEL cell on an UP head link, in path-list order by the model's
choice (log 24); that the FGC, the generation count and the release head follow in this order is the model's too
(log 40). In OFF, IDLE and JAMMED a cause has no effect. LOST makes a page HELD with reason JAM unless it is
QUEUED or has release information. In a moving state the lane jams with cause DWELL when H has passed
lead + off(len_max + 50) of its sensor page, and with POSITION_LIMIT when the counter has reached 2^47 - 1; that
DWELL goes first is the model's choice (log 6). -/
def Obligations.JamHoldsThePath : Prop :=
  (∀ (s : State) (l : LaneId) (cause : JamCause),
    ((s.lane l).state.moving = true →
      ∃ t, handle (.jam l cause) s = (t, [.fgc, .retire, .release l])
        ∧ (t.lane l).state = .jammed ∧ (t.lane l).speed = 0 ∧ (t.lane l).target = 0 ∧ (t.lane l).ramp = none
        ∧ (t.lane l).misfeedTimer = none ∧ (t.lane l).retryWait = none ∧ (t.lane l).runoutTimer = none
        ∧ (t.lane l).loan = none ∧ (t.lane l).lastJam = some cause ∧ (t.lane l).path = (s.lane l).path
        ∧ (t.lane l).dfm.windows = [] ∧ (t.lane l).nextSeq = (s.lane l).nextSeq
        ∧ (t.lane l).slots = (s.lane l).slots ∧ (t.lane l).counter = (s.lane l).counter
        ∧ (t.lane l).high = (s.lane l).high
        ∧ t.event Ev.laneJammed = (s.event Ev.laneJammed).occur l.val
        ∧ (∀ c, c ≠ Ev.laneJammed → c ≠ Ev.sonicDrift → t.event c = s.event c)
        ∧ (∀ sh ∈ (s.lane l).path, ∀ i p, s.live sh.token = some (i, p) →
            (p.image = .opened → t.pageAt i = some { p.addLost with
              image := .closed, close := some (p.close.getD ⟨0, false, none⟩), imageTimer := none
              flags := { p.flags with lost := true, truncated := true } })
            ∧ (p.image ≠ .opened → t.pageAt i = some p.addLost))
        ∧ (∀ i, (∀ sh ∈ (s.lane l).path, ∀ p, s.live sh.token ≠ some (i, p)) → t.entry i = s.entry i)
        ∧ (∃ toks : List Nat, toks.Nodup ∧ toks.Sublist ((s.lane l).path.map fun sh => sh.token)
            ∧ (∀ tok, tok ∈ toks ↔ (∃ sh ∈ (s.lane l).path, sh.token = tok)
                ∧ ∃ i p, s.live tok = some (i, p) ∧ p.image = .opened)
            ∧ (t.head l).txQueue = (s.head l).txQueue
              ++ if s.linkUp (.head l) then toks.map fun tok => ⟨.cancel, tok⟩ else [])
        ∧ (t.head l).link = (s.head l).link ∧ (∀ m, m ≠ l → t.head m = s.head m)
        ∧ OtherLanes s t l ∧ t.pool = s.pool ∧ t.channels = s.channels)
    ∧ ((s.lane l).state.moving = false → handle (.jam l cause) s = (s, [])))
  ∧ (∀ p : Page,
    p.addLost.flags = { p.flags with lost := true }
    ∧ (p.state = .picked ∨ p.state = .inPath ∨ p.state = .held ∨ (p.state = .ready ∧ p.release = none) →
        p.addLost = { p with
          flags := { p.flags with lost := true }, state := .held, verdict := some .lost, action := some .hold
          holdReason := some .jam })
    ∧ ((p.state = .ready ∧ p.release.isSome) ∨ p.state = .queued →
        p.addLost = { p with flags := { p.flags with lost := true } }))
  ∧ (∀ (s : State) (l : LaneId) (dwell : Prop),
    (dwell ↔ (s.lane l).sensor ≠ none ∧ ∃ sh p,
      (s.lane l).path.find? (fun x => x.lead.isSome && x.trail.isNone) = some sh ∧ sh.lead = some p
        ∧ p + off (sh.lenMax + 50) sh.pitch < (s.lane l).high) →
    ((s.lane l).state.moving = true → dwell → handle (.jamChecks l) s = (s, [.jam l .dwell]))
    ∧ ((s.lane l).state.moving = true → ¬dwell → 140737488355327 ≤ (s.lane l).counter →
        handle (.jamChecks l) s = (s, [.jam l .positionLimit]))
    ∧ ((s.lane l).state.moving = false ∨ (¬dwell ∧ (s.lane l).counter < 140737488355327) →
        handle (.jamChecks l) s = (s, [])))

/-- What falls due for the sheets of a path at a new high-water position: gate openings before gate closings
before exits, each for the oldest sheet that is due, an order that is the model's choice (log 6). An opening is
due when H reaches lead + off(d_image_mm): the sheet's gate becomes OPENED, an image NOT_OPEN becomes OPEN on an
UP head link, which GATE_OPEN is handed to, and on any other link it is closed TRUNCATED. A closing is due when H
reaches trail + off(d_image_mm) with the gate OPENED: the gate becomes CLOSED, an OPEN image gets its timer, and
GATE_CLOSE goes to an UP head link. A stale token advances the gate alone. An exit is due when H reaches
trail + off(d_exit_mm), and takes the sheet out of the path list; a lane in RUNOUT whose list is then empty goes
to RAMP_DOWN. That the test of RUNOUT comes before the pick test is the model's choice (log 40). -/
def Obligations.GateOpensAtImagingLine : Prop :=
  (∀ (h : Nat) (x : Sheet),
    (x.opens h = true ↔ x.gate = .none ∧ ∃ p, x.lead = some p ∧ p + off x.dImage x.pitch ≤ h)
    ∧ (x.closes h = true ↔ x.gate = .opened ∧ ∃ p, x.trail = some p ∧ p + off x.dImage x.pitch ≤ h)
    ∧ (x.exits h = true ↔ ∃ p, x.trail = some p ∧ p + off x.dExit x.pitch ≤ h))
  ∧ (∀ (s : State) (l : LaneId) (h : Nat), (s.lane l).state.moving = true → h = (s.lane l).high →
    (∀ pre sh post, (s.lane l).path = pre ++ sh :: post → (∀ x ∈ pre, x.opens h = false) → sh.opens h = true →
      ∃ t, handle (.scheduled l) s = (t, [.assemble sh.token, .scheduled l])
        ∧ t.lane l = { s.lane l with path := pre ++ { sh with gate := .opened } :: post } ∧ OtherLanes s t l
        ∧ (∀ i p, s.live sh.token = some (i, p) →
            (p.image = .notOpen → s.linkUp (.head l) = true →
              t.pageAt i = some { p with image := .opened, cells := [] })
            ∧ (p.image = .notOpen → s.linkUp (.head l) = false →
              t.pageAt i = some { p with
                image := .closed, close := some (p.close.getD ⟨0, false, none⟩), imageTimer := none
                flags := { p.flags with truncated := true } })
            ∧ (p.image ≠ .notOpen → t.pageAt i = some p)
            ∧ OtherEntries s t i
            ∧ (t.head l).txQueue = (s.head l).txQueue
              ++ if s.linkUp (.head l) then [⟨.gateOpen, sh.token⟩] else [])
        ∧ (s.live sh.token = none → t.entries = s.entries ∧ t.heads = s.heads)
        ∧ (t.head l).link = (s.head l).link ∧ (∀ m, m ≠ l → t.head m = s.head m) ∧ t.events = s.events
        ∧ t.pool = s.pool)
    ∧ (∀ pre sh post, (s.lane l).path = pre ++ sh :: post → (∀ x ∈ (s.lane l).path, x.opens h = false) →
      (∀ x ∈ pre, x.closes h = false) → sh.closes h = true →
      ∃ t, handle (.scheduled l) s = (t, [.scheduled l])
        ∧ t.lane l = { s.lane l with path := pre ++ { sh with gate := .closed } :: post } ∧ OtherLanes s t l
        ∧ (∀ i p, s.live sh.token = some (i, p) →
            (p.image = .opened → t.pageAt i = some { p with imageTimer := some sh.imageTimeout })
            ∧ (p.image ≠ .opened → t.pageAt i = some p)
            ∧ OtherEntries s t i
            ∧ (t.head l).txQueue = (s.head l).txQueue
              ++ if s.linkUp (.head l) then [⟨.gateClose, sh.token⟩] else [])
        ∧ (s.live sh.token = none → t.entries = s.entries ∧ t.heads = s.heads)
        ∧ (t.head l).link = (s.head l).link ∧ (∀ m, m ≠ l → t.head m = s.head m) ∧ t.events = s.events
        ∧ t.pool = s.pool)
    ∧ (∀ pre sh post, (s.lane l).path = pre ++ sh :: post →
      (∀ x ∈ (s.lane l).path, x.opens h = false ∧ x.closes h = false) → (∀ x ∈ pre, x.exits h = false) →
      sh.exits h = true →
      ∃ t, handle (.scheduled l) s = (t, [.runoutTest l, .pickTest l, .scheduled l])
        ∧ t.lane l = { s.lane l with path := pre ++ post } ∧ OtherLanes s t l ∧ t = { s with lanes := t.lanes })
    ∧ ((∀ x ∈ (s.lane l).path, x.opens h = false ∧ x.closes h = false ∧ x.exits h = false) →
      handle (.scheduled l) s = (s, [])))
  ∧ ∀ (s : State) (l : LaneId),
    ((s.lane l).state.moving = false → handle (.scheduled l) s = (s, []))
    ∧ ((s.lane l).state = .runout → (s.lane l).path = [] →
      ∃ t, handle (.runoutTest l) s = (t, [.fgc])
        ∧ t.lane l = { s.lane l with state := .rampDown, runoutTimer := none } ∧ OtherLanes s t l
        ∧ t = { s with lanes := t.lanes })
    ∧ ((s.lane l).state ≠ .runout ∨ (s.lane l).path ≠ [] → handle (.runoutTest l) s = (s, []))

/-! ### Lane requests (sections 2.4, 2.5 and 2.10) -/

/-- LANE_START: refused STATE on a disabled lane and in OFF and JAMMED; OK without effect in the four states
that already run; else it starts the lane from IDLE, RUNOUT or RAMP_DOWN. -/
def Obligations.LaneStartActsByState : Prop :=
  ∀ (s : State) (k : Trunk) (tag : Byte) (l : LaneId), s.nextRequest = some (k, laneRequest 3 tag l) →
    (s.laneEnabled l = false ∨ (s.lane l).state = .off ∨ (s.lane l).state = .jammed →
      Completes .laneStart s fun t => Replied s t k (laneRequest 3 tag l) .state [] ∧ SamePaper s t
        ∧ SameTables s t ∧ SameEvents s t ∧ SameLinks s t)
    ∧ (s.laneEnabled l = true → ((s.lane l).state = .rampUp ∨ (s.lane l).state = .feeding
          ∨ (s.lane l).state = .holding ∨ (s.lane l).state = .retryWait) →
        Completes .laneStart s fun t => Replied s t k (laneRequest 3 tag l) .ok [] ∧ SamePaper s t
          ∧ SameTables s t ∧ SameEvents s t ∧ SameLinks s t)
    ∧ (s.laneEnabled l = true → (s.lane l).state = .idle →
        (∃ s1, Begins .laneStart s s1 [.fgc]
          ∧ (s1.lane l).state = .rampUp ∧ (s1.lane l).counter = 0 ∧ (s1.lane l).high = 0
          ∧ (s1.lane l).lastSensor = false ∧ (s1.lane l).gap = .clear
          ∧ (s1.lane l).dfm.calibration = (if (s.laneRec l).sonicEnabled then .running 0 0 else .none)
          ∧ (s1.lane l).dfm.b16 = (s.lane l).dfm.b16 ∧ (s1.lane l).nextSeq = (s.lane l).nextSeq
          ∧ (s1.lane l).slots = (s.lane l).slots ∧ (s1.lane l).speed = (s.lane l).speed ∧ OtherLanes s s1 l)
        ∧ Completes .laneStart s fun t => Replied s t k (laneRequest 3 tag l) .ok []
            ∧ (t.lane l).counter = 0 ∧ (t.lane l).high = 0)
    ∧ (s.laneEnabled l = true → (s.lane l).state = .runout →
        (∃ s1, Begins .laneStart s s1 [.fgc]
          ∧ s1.lane l = { s.lane l with state := .holding, runoutTimer := none } ∧ OtherLanes s s1 l)
        ∧ Completes .laneStart s fun t => Replied s t k (laneRequest 3 tag l) .ok [])
    ∧ (s.laneEnabled l = true → (s.lane l).state = .rampDown →
        (∃ s1, Begins .laneStart s s1 [.fgc]
          ∧ (s1.lane l).state = .rampUp ∧ (s1.lane l).counter = (s.lane l).counter
          ∧ (s1.lane l).high = (s.lane l).high ∧ (s1.lane l).gap = .clear
          ∧ (s1.lane l).speed = (s.lane l).speed
          ∧ (s1.lane l).dfm.calibration = (if (s.laneRec l).sonicEnabled then .running 0 0 else .none)
          ∧ OtherLanes s s1 l)
        ∧ Completes .laneStart s fun t => Replied s t k (laneRequest 3 tag l) .ok [])

/-- LANE_STOP: OK in every state; it takes RAMP_UP, FEEDING, HOLDING and RETRY_WAIT to RUNOUT, and changes
nothing in the other states. LANE_HALT: a moving lane is JAMMED with cause HALT, at speed 0, and LANE_JAMMED
is latched for it; in OFF, IDLE and JAMMED the reply is OK and nothing changes. -/
def Obligations.LaneStopAndHaltActByState : Prop :=
  (∀ (s : State) (k : Trunk) (tag : Byte) (l : LaneId), s.nextRequest = some (k, laneRequest 4 tag l) →
    ((s.lane l).state = .rampUp ∨ (s.lane l).state = .feeding ∨ (s.lane l).state = .holding
        ∨ (s.lane l).state = .retryWait →
      ∃ s1, Begins .laneStop s s1 [.fgc]
        ∧ s1.lane l = { s.lane l with
            state := if (s.lane l).path = [] then .rampDown else .runout
            runoutTimer := if (s.lane l).path = [] then none else some (s.laneRec l).runoutMs
            retryWait := none
            misfeedTimer := if (s.lane l).retryWait.isSome then (s.pickedSheet l).map Sheet.pickToEntry
              else (s.lane l).misfeedTimer }
        ∧ OtherLanes s s1 l ∧ s1.entries = s.entries ∧ s1.pool = s.pool ∧ s1.channels = s.channels
        ∧ s1.heads = s.heads ∧ SameTables s s1 ∧ s1.events = s.events)
    ∧ Completes .laneStop s fun t => Replied s t k (laneRequest 4 tag l) .ok []
        ∧ ((s.lane l).state = .off ∨ (s.lane l).state = .idle ∨ (s.lane l).state = .runout
            ∨ (s.lane l).state = .rampDown ∨ (s.lane l).state = .jammed →
          SamePaper s t ∧ SameTables s t ∧ SameEvents s t ∧ SameLinks s t))
  ∧ (∀ (s : State) (k : Trunk) (tag : Byte) (l : LaneId), s.nextRequest = some (k, laneRequest 5 tag l) →
    Completes .laneHalt s fun t => Replied s t k (laneRequest 5 tag l) .ok []
      ∧ ((s.lane l).state.moving = true →
          exec .laneHalt s = .next (settle ((handle (.jam l .halt) (s.takeOff k)).1.giveReply k ⟨5, tag, .ok, [], none⟩,
            (handle (.jam l .halt) (s.takeOff k)).2))
          ∧ (t.lane l).state = .jammed ∧ (t.lane l).lastJam = some .halt ∧ (t.lane l).speed = 0
            ∧ (t.lane l).target = 0 ∧ (t.lane l).ramp = none ∧ (t.lane l).path = (s.lane l).path
            ∧ (t.event Ev.laneJammed).latch = true ∧ (t.event Ev.laneJammed).sources.getLsbD l.val = true)
      ∧ ((s.lane l).state.moving = false →
          SamePaper s t ∧ SameTables s t ∧ SameEvents s t ∧ SameLinks s t))

/-- LANE_CLEAR takes a JAMMED lane to IDLE or OFF with an empty path list; in any other state it is refused
STATE. That the FGC answers the change before the adoption moment is tested is the model's choice (log 40). -/
def Obligations.LaneClearEndsJam : Prop :=
  ∀ (s : State) (k : Trunk) (tag : Byte) (l : LaneId), s.nextRequest = some (k, laneRequest 6 tag l) →
    ((s.lane l).state = .jammed →
      (∃ s1, Begins .laneClear s s1 [.fgc, .adoptMoment l]
        ∧ (s1.lane l).state = (if s.laneEnabled l then .idle else .off)
        ∧ (s1.lane l).path = [] ∧ (s1.lane l).sensor = none ∧ (s1.lane l).gap = .clear
        ∧ (s1.lane l).counter = 0 ∧ (s1.lane l).high = 0 ∧ (s1.lane l).trayEmpty = false
        ∧ (s1.lane l).lastJam = (s.lane l).lastJam ∧ (s1.lane l).nextSeq = (s.lane l).nextSeq
        ∧ (s1.lane l).slots = (s.lane l).slots ∧ s1.entries = s.entries ∧ OtherLanes s s1 l
        ∧ (s.laneEnabled l = true → s1.event Ev.laneIdle = (s.event Ev.laneIdle).occur l.val)
        ∧ (s.laneEnabled l = false → s1.event Ev.laneIdle = s.event Ev.laneIdle))
      ∧ Completes .laneClear s fun t => Replied s t k (laneRequest 6 tag l) .ok []
          ∧ (t.lane l).counter = 0 ∧ (t.lane l).high = 0)
    ∧ ((s.lane l).state ≠ .jammed →
        Completes .laneClear s fun t => Replied s t k (laneRequest 6 tag l) .state [] ∧ SamePaper s t
          ∧ SameTables s t ∧ SameEvents s t ∧ SameLinks s t)

/-- A request of a known kind whose payload is shorter or longer than its kind requires is refused RANGE,
and so is a lane request that names a lane above 5; a kind code of 13-255 is refused UNKNOWN; a refused
request changes no state. That a malformed PAGE_RESOLVE belongs to each of its three rows, and a malformed
PART_RESET to both of its rows, is the model's choice (log 3). -/
def Obligations.MalformedRequestsRefused : Prop :=
  (∀ (s : State) (k : Trunk) (r : Request) (i : Instr), s.nextRequest = some (k, r) →
    ((i = .tableLoad ∧ r.kind = 0 ∧ r.payload.length < 2)
      ∨ (i = .tableCommit ∧ r.kind = 1 ∧ r.payload.length ≠ 1)
      ∨ (i = .tableRead ∧ r.kind = 2 ∧ r.payload.length ≠ 3)
      ∨ (i = .laneStart ∧ r.kind = 3 ∧ r.payload.length ≠ 1) ∨ (i = .laneStop ∧ r.kind = 4 ∧ r.payload.length ≠ 1)
      ∨ (i = .laneHalt ∧ r.kind = 5 ∧ r.payload.length ≠ 1) ∨ (i = .laneClear ∧ r.kind = 6 ∧ r.payload.length ≠ 1)
      ∨ (i = .pageResolveAccept ∧ r.kind = 7 ∧ r.payload.length ≠ 3)
      ∨ (i = .pageResolveDrop ∧ r.kind = 7 ∧ r.payload.length ≠ 3)
      ∨ (i = .pageResolveRescan ∧ r.kind = 7 ∧ r.payload.length ≠ 3)
      ∨ (i = .slotCancel ∧ r.kind = 8 ∧ r.payload.length ≠ 6)
      ∨ (i = .statusRead ∧ r.kind = 9 ∧ r.payload.length ≠ 2)
      ∨ (i = .partResetFull ∧ r.kind = 10 ∧ r.payload.length ≠ 1)
      ∨ (i = .partResetLine ∧ r.kind = 10 ∧ r.payload.length ≠ 1)
      ∨ (i = .eventSet ∧ r.kind = 11 ∧ r.payload.length ≠ 3)
      ∨ (i = .eventClear ∧ r.kind = 12 ∧ r.payload.length ≠ 3)
      ∨ (∃ b : Byte, 5 < b.toNat ∧ r.payload = [b]
          ∧ ((i = .laneStart ∧ r.kind = 3) ∨ (i = .laneStop ∧ r.kind = 4) ∨ (i = .laneHalt ∧ r.kind = 5)
            ∨ (i = .laneClear ∧ r.kind = 6)))) →
    Completes i s fun t => Replied s t k r .range [] ∧ SamePaper s t ∧ SameTables s t ∧ SameEvents s t
      ∧ SameLinks s t)
  ∧ ∀ (s : State) (k : Trunk) (r : Request), s.nextRequest = some (k, r) → 13 ≤ r.kind.toNat →
      Completes .unknownRequest s fun t => Replied s t k r .unknown [] ∧ SamePaper s t ∧ SameTables s t
        ∧ SameEvents s t ∧ SameLinks s t

/-! ### Speed (chapter 3) -/

/-- SPEED_CONTROL_PERIOD: S becomes S0 + trunc((E1 - S0) x k / slope_ms); at k = slope_ms S is E1 and the ramp
ends; without a ramp the period changes nothing. A target that has changed starts a ramp from the present speed,
sets the speed at once under slope 0, and leaves no ramp when it equals the present speed; an unchanged target
changes nothing. The target speed: 0 in OFF, IDLE, RAMP_DOWN and JAMMED; else throttle_speed while some channel
of the group's in-use set is NEAR or FULL, and target_speed otherwise. A channel is in the set of a group when
some lane of the group outside OFF and IDLE names it in its current class. The GROUP record is that of the
lane's generation in use. For the in-use sets, group and class are read from the generation in use too, but
during an adoption from the one that the lane leaves, up to step 6 of R178 (log 39). The FGC's work gives every
lane its target, but a lane that is adopting keeps its own until step 6 (log 39), and a lane in RAMP_UP whose
speed has reached its target with the calibration finished goes to HOLDING, all before the holding reasons
decide which may feed (log 7). RAMP_DOWN ends at speed 0 without a ramp: IDLE with LANE_IDLE or OFF, the
counter, H, the air grid, the windows and a calibration run gone; the FGC before the adoption moment is the
model's choice (log 40), and so is the ascending order of several lanes (log 34). -/
def Obligations.SpeedsFollowRamps : Prop :=
  (∀ (s : State) (l : LaneId),
    (∀ r, (s.lane l).ramp = some r → r.elapsed + 1 < r.slope →
      Completes (.speedControlPeriod l) s fun t =>
        t.lane l = { s.lane l with
            speed := ((r.origin : Int)
              + Int.tdiv (((r.target : Int) - r.origin) * ((r.elapsed : Int) + 1)) r.slope).toNat
            ramp := some { r with elapsed := r.elapsed + 1 } }
          ∧ OtherLanes s t l ∧ t.entries = s.entries ∧ SameTables s t ∧ SameLinks s t)
    ∧ (∀ r, (s.lane l).ramp = some r → r.elapsed + 1 = r.slope →
        ∃ s1, Begins (.speedControlPeriod l) s s1 [.speedCheck l]
          ∧ s1.lane l = { s.lane l with speed := r.target, ramp := none } ∧ OtherLanes s s1 l
          ∧ s1 = { s with lanes := s1.lanes })
    ∧ ((s.lane l).ramp = none → Completes (.speedControlPeriod l) s fun t => t = s))
  ∧ (∀ (x : Lane) (e slope : Nat),
    ((∀ r, x.ramp = some r → r.target = e) → (x.ramp = none → x.speed = e) →
      x.retarget e slope = { x with target := e })
    ∧ ((∀ r, x.ramp = some r → r.target ≠ e) → (x.ramp = none → x.speed ≠ e) →
        (slope = 0 → x.retarget e slope = { x with target := e, speed := e, ramp := none })
        ∧ (slope ≠ 0 → x.speed = e → x.retarget e slope = { x with target := e, ramp := none })
        ∧ (slope ≠ 0 → x.speed ≠ e →
            x.retarget e slope = { x with
              target := e, ramp := some { origin := x.speed, target := e, elapsed := 0, slope := slope } })))
  ∧ (∀ (s : State) (l : LaneId),
    ((s.lane l).state = .off ∨ (s.lane l).state = .idle ∨ (s.lane l).state = .rampDown
        ∨ (s.lane l).state = .jammed → s.targetOf l = 0)
    ∧ ((s.lane l).state = .rampUp ∨ (s.lane l).state = .feeding ∨ (s.lane l).state = .holding
          ∨ (s.lane l).state = .retryWait ∨ (s.lane l).state = .runout →
        ((∃ (m : LaneId) (r : ClassRec), r = (s.feedTables m).cls[(s.lane m).batch.cls]
            ∧ s.groupOf m = s.groupOf l ∧ (s.lane m).state ≠ .off ∧ (s.lane m).state ≠ .idle
            ∧ ((s.chan r.primary).fillState ≠ .opened
              ∨ ∃ c, r.mirror = some c ∧ (s.chan c).fillState ≠ .opened)) →
          s.targetOf l = (s.groupRec l).throttleSpeed)
        ∧ ((∀ (m : LaneId) (r : ClassRec), r = (s.feedTables m).cls[(s.lane m).batch.cls] →
            s.groupOf m = s.groupOf l → (s.lane m).state ≠ .off → (s.lane m).state ≠ .idle →
            (s.chan r.primary).fillState = .opened
              ∧ ∀ c, r.mirror = some c → (s.chan c).fillState = .opened) →
          s.targetOf l = (s.groupRec l).targetSpeed))
    ∧ s.groupRec l = (s.laneTables l).group[(s.laneRec l).group] ∧ s.groupOf l = ((s.feedTables l).lane[l]).group
    ∧ ((s.lane l).adoptingFrom = none → s.feedTables l = s.tablesOf (s.lane l).gen)
    ∧ ∀ g, (s.lane l).adoptingFrom = some g → s.feedTables l = s.tablesOf g)
  ∧ (∀ s : State, ∃ t,
    handle .fgc s = (t, ([0, 1, 2, 3, 4, 5] : List LaneId).map Task.speedCheck ++ [.holds])
      ∧ (∀ l x, x = (if (s.lane l).adoptingFrom = none then
            (s.lane l).retarget (s.targetOf l) (s.groupRec l).slopeMs
          else s.lane l) →
          (x.state = .rampUp → x.ramp = none → x.speed = x.target →
            (∀ n sum, x.dfm.calibration = .running n sum → x.dfm.degraded = true) →
            t.lane l = { x with state := .holding })
          ∧ (x.state ≠ .rampUp ∨ x.ramp ≠ none ∨ x.speed ≠ x.target
              ∨ (x.dfm.degraded = false ∧ ∃ n sum, x.dfm.calibration = .running n sum) →
            t.lane l = x))
      ∧ t = { s with lanes := t.lanes })
  ∧ (∀ (s : State) (l : LaneId) (x : Lane), x = s.lane l →
    (x.state = .rampUp → x.ramp = none → x.speed = x.target →
      (∀ n sum, x.dfm.calibration = .running n sum → x.dfm.degraded = true) →
      ∃ t, handle (.speedCheck l) s = (t, [.holds]) ∧ t.lane l = { x with state := .holding } ∧ OtherLanes s t l
        ∧ t = { s with lanes := t.lanes })
    ∧ (x.state = .rampDown → x.speed = 0 → x.ramp = none →
      ∃ t, handle (.speedCheck l) s = (t, [.fgc, .adoptMoment l])
        ∧ t.lane l = { x with
            state := if s.laneEnabled l then .idle else .off
            counter := 0, high := 0, lastSensor := false, trayEmpty := false
            dfm := { x.dfm with
              windows := [], gridOrigin := 0, gridNext := 1
              calibration := match x.dfm.calibration with
                | .running _ _ => .none
                | c => c } }
        ∧ (s.laneEnabled l = true → t.event Ev.laneIdle = (s.event Ev.laneIdle).occur l.val)
        ∧ (s.laneEnabled l = false → t.events = s.events)
        ∧ (∀ c, c ≠ Ev.laneIdle → t.event c = s.event c)
        ∧ OtherLanes s t l ∧ t = { s with lanes := t.lanes, events := t.events })
    ∧ ((x.state ≠ .rampUp ∧ x.state ≠ .rampDown)
        ∨ (x.state = .rampUp ∧ (x.ramp ≠ none ∨ x.speed ≠ x.target
          ∨ (x.dfm.degraded = false ∧ ∃ n sum, x.dfm.calibration = .running n sum)))
        ∨ (x.state = .rampDown ∧ (x.speed ≠ 0 ∨ x.ramp ≠ none)) →
      handle (.speedCheck l) s = (s, [])))

/-- The motor code is floor((S x 8,190 + 1,500) / 3,000): 0 at 0, 4,095 at 1,500, and monotonic. N is the
number of k with k x pitch < 8 x L, and the length is L x 8 / pitch rounded half up, at most 4,095. -/
def Obligations.CodesAndLengths : Prop :=
  ((∀ v : Nat, motorCode v = (v * 8190 + 1500) / 3000)
    ∧ motorCode 0 = 0 ∧ motorCode 1500 = 4095
    ∧ (∀ v : Nat, motorCode v + 2 ≤ motorCode (v + 1) ∧ motorCode (v + 1) ≤ motorCode v + 3)
    ∧ (∀ v w : Nat, v ≤ w → motorCode v ≤ motorCode w)
    ∧ ∀ v : Nat, v ≤ 1500 → motorCode v ≤ 4095)
  ∧ (∀ counts pitch : Nat, 0 < pitch →
    (∀ k : Nat, k < sampleCount counts pitch ↔ k * pitch < 8 * counts)
    ∧ lengthMm counts pitch = min 4095 ((16 * counts + pitch) / (2 * pitch))
    ∧ ∀ m : Nat, m ≤ 4095 → (lengthMm counts pitch = m ∧ m < 4095 →
        (2 * m * pitch ≤ 16 * counts + pitch ∧ 16 * counts + pitch < 2 * (m + 1) * pitch)))

/-! ### Double-feed detection (chapter 4) -/

/-- A valid baseline sample moves B16 by an eighth of the way, between the old B16 and 16 x a, and not at
all when they differ by less than 8. The use of an air sample by the calibration and the sonic state. The
drift raw is true while the lane is calibrated, GOOD, and |B16 - Bref16| > floor(Bref16 / 8). The air grid: at
a new high-water position that reaches origin + floor(j x pitch / 8) the next index j falls due, and its sample
is taken in a moving state, with sonic_enabled yes, outside every window's exclusion zone; else it is passed,
in JAMMED too, which is read from the spec by inference (log 20). -/
def Obligations.AirSamplesUsed : Prop :=
  (∀ b a : Nat,
    (baselineStep b a : Int) = (b : Int) + Int.tdiv (16 * (a : Int) - b) 8
    ∧ min b (16 * a) ≤ baselineStep b a ∧ baselineStep b a ≤ max b (16 * a)
    ∧ ((16 * (a : Int) - b).natAbs < 8 → baselineStep b a = b))
  ∧ (∀ (s : State) (l : LaneId) (a : Nat),
    (∀ count sum, (s.lane l).dfm.calibration = .running count sum → 64 ≤ a → a ≤ 1022 →
      (count < 15 → s.airSample l a = s.modDfm l fun d => { d with calibration := .running (count + 1) (sum + a) })
      ∧ (count = 15 →
          ((s.airSample l a).lane l).dfm.b16 = sum + a ∧ ((s.airSample l a).lane l).dfm.bref16 = sum + a
          ∧ ((s.airSample l a).lane l).dfm.calibration = .done ∧ ((s.airSample l a).lane l).dfm.badAir = 0
          ∧ ((s.airSample l a).lane l).dfm.degraded = false
          ∧ ((s.airSample l a).event Ev.sonicDegraded).raw.getLsbD l.val = false))
    ∧ (∀ count sum, (s.lane l).dfm.calibration = .running count sum → a < 64 ∨ 1022 < a →
        ((s.airSample l a).lane l).dfm.calibration = .none ∧ ((s.airSample l a).lane l).dfm.degraded = true
        ∧ ((s.airSample l a).lane l).dfm.b16 = (s.lane l).dfm.b16)
    ∧ ((s.lane l).dfm.calibration = .done → (s.lane l).dfm.degraded = false →
        (64 ≤ a → a ≤ 1022 →
          ((s.airSample l a).lane l).dfm.b16 = baselineStep (s.lane l).dfm.b16 a
          ∧ ((s.airSample l a).lane l).dfm.badAir = 0)
        ∧ (a < 64 ∨ 1022 < a →
            ((s.airSample l a).lane l).dfm.b16 = (s.lane l).dfm.b16
            ∧ ((s.airSample l a).lane l).dfm.badAir = (s.lane l).dfm.badAir + 1
            ∧ ((s.airSample l a).lane l).dfm.degraded = decide (8 ≤ (s.lane l).dfm.badAir + 1)))
    ∧ ((s.lane l).dfm.calibration = .none
          ∨ ((s.lane l).dfm.calibration = .done ∧ (s.lane l).dfm.degraded = true) →
        s.airSample l a = s))
  ∧ (∀ d : Dfm, d.drift = true ↔
    d.calibration = .done ∧ d.degraded = false ∧ (d.bref16 / 8 : Int) < |(d.b16 : Int) - d.bref16|)
  ∧ (∀ (s : State) (l : LaneId) (pos : Nat) (next : State),
    pos = (s.lane l).dfm.gridOrigin + (s.lane l).dfm.gridNext * (s.laneRec l).pitch / 8 →
    next = (s.modDfm l fun d => { d with gridNext := d.gridNext + 1 }) →
    ((s.lane l).state = .off ∨ (s.lane l).state = .idle ∨ (s.lane l).high < pos → handle (.air l) s = (s, []))
    ∧ ((s.lane l).state.moving = true → pos ≤ (s.lane l).high → (s.laneRec l).sonicEnabled = true →
        (∀ w ∈ (s.lane l).dfm.windows, pos < w.zoneStart ∨ ∃ z, w.zoneEnd = some z ∧ z ≤ pos) →
        handle (.air l) s = (next.airSample l (s.lane l).amplitude.toNat, [.speedCheck l]))
    ∧ ((s.lane l).state ≠ .off → (s.lane l).state ≠ .idle → pos ≤ (s.lane l).high →
        ((s.lane l).state = .jammed ∨ (s.laneRec l).sonicEnabled = false
          ∨ ∃ w ∈ (s.lane l).dfm.windows, w.zoneStart ≤ pos ∧ ∀ z, w.zoneEnd = some z → pos < z) →
        handle (.air l) s = (next, [])))

/-- What one sample does to a window of a calibrated GOOD lane that is not void: a guard sample nothing, a
masked sample ends the run, a classified sample moves the thick state with hysteresis and counts. A window that
is void, or that a sample finds with the lane uncalibrated or DEGRADED, is void from there on; that thick state,
run, max_run and thick_count are then 0 also for a window that has counted is read from R72 by inference (log
14). The last sample of a window completes the page's sonic part: UNVERIFIED for a void window, else DONE with
DOUBLE when the longest run is min_run_mm or more. Sample k of a window falls due when H reaches lead +
off(d_sonic_mm) + floor(k x pitch / 8), for k below the number of samples; at a new high-water position every
window takes the sample that is due, the pages of the windows whose last sample it was may be assembled, in
window-list order by the model's choice (log 31), and a window whose zone end H has reached leaves the list. -/
def Obligations.SamplesClassifyAndComplete : Prop :=
  (∀ (w : Window) (d : Dfm) (a : Nat),
    w.void = false → d.calibration = .done → d.degraded = false →
    (w.next < 4 ∨ (∃ n, w.samples = some n ∧ n ≤ w.next + 4) → w.takeSample d a = w)
    ∧ (4 ≤ w.next → (∀ n, w.samples = some n → w.next + 4 < n) →
        ((∃ z ∈ w.zones, z.start ≤ w.next ∧ w.next < z.stop) →
          w.takeSample d a = { w with thick := false, run := 0 })
        ∧ ((∀ z ∈ w.zones, w.next < z.start ∨ z.stop ≤ w.next) →
            (∀ r, r = min 255 (a * 4096 / d.b16) →
              ((w.thick = false ∧ r < w.tThick) ∨ (w.thick = true ∧ r < min 255 (w.tThick + w.hyst)) →
                w.takeSample d a = { w with
                  thick := true, run := w.run + 1, maxRun := max w.maxRun (min 255 (w.run + 1))
                  thickCount := min 1000 (w.thickCount + 1) })
              ∧ ((w.thick = false ∧ w.tThick ≤ r) ∨ (w.thick = true ∧ min 255 (w.tThick + w.hyst) ≤ r) →
                w.takeSample d a = { w with thick := false, run := 0 })))))
  ∧ (∀ (s : State) (w : Window) (i : Fin 64) (p : Page), s.live w.token = some (i, p) → p.sonic = .pending →
    (w.void = true → (s.completeSonic w).pageAt i
        = some { p with sonic := .unverified, flags := { p.flags with unverified := true } })
    ∧ (w.void = false → (s.completeSonic w).pageAt i
        = some { p with
            sonic := .done w.maxRun w.thickCount
            flags := { p.flags with double := p.flags.double || decide (w.minRun ≤ w.maxRun) } })
    ∧ OtherEntries s (s.completeSonic w) i ∧ (s.completeSonic w) = { s with entries := (s.completeSonic w).entries })
  ∧ (∀ (w : Window) (d : Dfm) (h a : Nat),
    (w.due h = true ↔ w.sonicEnabled = true ∧ (∀ n, w.samples = some n → w.next < n)
      ∧ w.lead + w.offS + w.next * w.pitch / 8 ≤ h)
    ∧ (w.due h = true → w.sample d h a = { w.takeSample d a with next := w.next + 1 })
    ∧ (w.due h = false → w.sample d h a = w)
    ∧ (w.void = true ∨ d.calibration ≠ .done ∨ d.degraded = true →
        w.takeSample d a = { w with void := true, thick := false, run := 0, maxRun := 0, thickCount := 0 }))
  ∧ (∀ (s : State) (l : LaneId) (d : Dfm) (h a : Nat), d = (s.lane l).dfm → h = (s.lane l).high →
    a = (s.lane l).amplitude.toNat →
    ((s.lane l).state.moving = true →
      ∃ t last, handle (.samples l) s = (t, last.map fun w => Task.assemble w.token)
        ∧ last = (d.windows.filter fun w => w.due h && decide (w.samples = some (w.next + 1))).map (Window.sample d h a)
        ∧ t.lane l = { s.lane l with dfm := { d with
            windows := (d.windows.map (Window.sample d h a)).filter fun w => w.zoneEnd.all fun z => decide (h < z) } }
        ∧ t.entries = (last.foldl State.completeSonic s).entries
        ∧ OtherLanes s t l ∧ t = { s with lanes := t.lanes, entries := t.entries })
    ∧ ((s.lane l).state.moving = false → handle (.samples l) s = (s, [])))

/-! ### Image intake (chapter 5) -/

/-- DATA on an UP head link for an OPEN page of the lane without TRUNCATED: the cell at the head of the free
list takes the payload and joins the page's list; at 4,096 cells, with no payload or with an empty pool the
page is truncated instead; a page already truncated takes nothing. -/
def Obligations.DataTakesPoolCell : Prop :=
  ∀ (s : State) (l : LaneId) (token : Byte) (payload : List Byte) (i : Fin 64) (p : Page),
    s.linkUp (.head l) = true → s.live token.toNat = some (i, p) → p.lane = l → p.image = .opened →
    (∀ c rest, p.flags.truncated = false → p.cells.length < 4096 → payload ≠ [] →
      FreeList.take? s.pool = some (c, rest) →
      ∃ s1, Begins (.data l token payload) s s1 [.holds]
        ∧ s1.pageAt i = some { p with cells := p.cells ++ [c] } ∧ OtherEntries s s1 i ∧ s1.pool = rest
        ∧ s1.mem = Memory.write c payload s.mem ∧ s1.lanes = s.lanes ∧ s1.events = s.events)
    ∧ (p.flags.truncated = false → (4096 ≤ p.cells.length ∨ payload = [] ∨ FreeList.take? s.pool = none) →
        Completes (.data l token payload) s fun t =>
          t.pageAt i = some { p with flags := { p.flags with truncated := true } } ∧ OtherEntries s t i
            ∧ t.pool = s.pool ∧ t.mem = s.mem ∧ t.lanes = s.lanes
            ∧ (t.event Ev.imageTruncated).latch = true
            ∧ (t.event Ev.imageTruncated).sources.getLsbD l.val = true)
    ∧ (p.flags.truncated = true →
        Completes (.data l token payload) s fun t =>
          t.entries = s.entries ∧ t.pool = s.pool ∧ t.mem = s.mem ∧ t.lanes = s.lanes ∧ SameEvents s t)

/-- A DATA, CLOSE or ABORT cell on an UP head link whose token is stale, whose page is of another lane or
whose image is not OPEN is discarded and counted. On a head link that is not UP it is not delivered. -/
def Obligations.HeadCellsWithoutEffect : Prop :=
  (∀ (s : State) (l : LaneId) (token : Byte) (i : Instr),
    ((∃ payload, i = .data l token payload) ∨ (∃ m b t, i = .close l token m b t) ∨ i = .abort l token) →
    s.linkUp (.head l) = true →
    (∀ j p, s.live token.toNat = some (j, p) → p.lane ≠ l ∨ p.image ≠ .opened) →
    Completes i s fun t =>
      (t.head l).staleCount = min 65535 ((s.head l).staleCount + 1)
        ∧ (t.event Ev.staleCell).latch = true ∧ (t.event Ev.staleCell).sources.getLsbD l.val = true
        ∧ t.entries = s.entries ∧ t.pool = s.pool ∧ t.mem = s.mem ∧ t.lanes = s.lanes ∧ t.channels = s.channels
        ∧ SameTables s t ∧ ∀ c, c ≠ Ev.staleCell → SameEvent (s.event c) (t.event c))
  ∧ (∀ (s : State) (l : LaneId) (token : Byte) (i : Instr),
    ((∃ payload, i = .data l token payload) ∨ (∃ m b t, i = .close l token m b t) ∨ i = .abort l token) →
    s.linkUp (.head l) = false →
    Completes i s fun t => t = { s with heads := t.heads } ∧ (t.head l).staleCount = (s.head l).staleCount
      ∧ (t.head l).link.state = (s.head l).link.state)

/-- CLOSE, ABORT and IMAGE_TIMER_EXPIRY close an OPEN image in one act, and the verdict may be assembled. -/
def Obligations.ImagesClose : Prop :=
  ∀ (s : State) (l : LaneId) (token : Byte) (i : Fin 64) (p : Page),
    s.live token.toNat = some (i, p) → p.lane = l → p.image = .opened → p.close = none →
    (∀ mark blank ticket, s.linkUp (.head l) = true →
      ∃ s1, Begins (.close l token mark blank ticket) s s1 [.assemble token.toNat]
        ∧ s1.pageAt i = some { p with
            image := .closed, imageTimer := none
            close := some { mark := mark, blank := blank, ticket := ticket.map (List.take 24) }
            flags := { p.flags with
              truncated := p.flags.truncated || ticket.any fun x => decide (24 < x.length) } }
        ∧ OtherEntries s s1 i ∧ s1.lanes = s.lanes ∧ s1.pool = s.pool
        ∧ ((∀ x, ticket = some x → x.length ≤ 24) → s1.events = s.events)
        ∧ (∀ x, ticket = some x → 24 < x.length →
            s1.event Ev.imageTruncated = (s.event Ev.imageTruncated).occur l.val))
    ∧ (s.linkUp (.head l) = true →
        ∃ s1, Begins (.abort l token) s s1 [.assemble token.toNat]
          ∧ s1.pageAt i = some { p with
              image := .closed, imageTimer := none, close := some { mark := 0, blank := false, ticket := none }
              flags := { p.flags with truncated := true } }
          ∧ OtherEntries s s1 i ∧ s1.lanes = s.lanes ∧ s1.pool = s.pool
          ∧ s1.event Ev.imageTruncated = (s.event Ev.imageTruncated).occur l.val)
    ∧ (p.imageTimer.isSome = true →
        ∃ s1, Begins (.imageTimerExpiry token) s s1 [.assemble token.toNat]
          ∧ s1.pageAt i = some { p with
              image := .closed, imageTimer := none, close := some { mark := 0, blank := false, ticket := none }
              flags := { p.flags with truncated := true } }
          ∧ OtherEntries s s1 i ∧ s1.lanes = s.lanes ∧ s1.pool = s.pool
          ∧ s1.event Ev.imageTruncated = (s.event Ev.imageTruncated).occur l.val)

/-- When a head link leaves UP by LOSS_OF_SIGNAL, every OPEN image of the lane is closed TRUNCATED, its
cells waiting for the link are discarded, and the lane may go to RUNOUT; IMAGE_TRUNCATED is not latched. That
the verdicts come before RUNOUT is the model's choice (log 15). -/
def Obligations.HeadLinkLossClosesImages : Prop :=
  ∀ (s : State) (l : LaneId), s.linkUp (.head l) = true →
    ∃ s1 ts, Begins (.lossOfSignal (.head l)) s s1 (ts ++ [.enterRunout l])
      ∧ (∀ i p, s.pageAt i = some p → p.lane = l → p.image = .opened →
          (∃ q, s1.pageAt i = some q ∧ q.image = .closed ∧ q.flags.truncated = true ∧ q.imageTimer = none
            ∧ q.cells = p.cells)
          ∧ Task.assemble (s.tokenOf i) ∈ ts)
      ∧ (∀ i p, s.pageAt i = some p → p.lane ≠ l ∨ p.image ≠ .opened → s1.pageAt i = some p)
      ∧ (s1.head l).txQueue = [] ∧ (s1.head l).link.state = .down ∧ (s1.head l).staleCount = (s.head l).staleCount
      ∧ (s1.event Ev.headDown).raw.getLsbD l.val = s.laneEnabled l
      ∧ s1.event Ev.imageTruncated = s.event Ev.imageTruncated ∧ s1.lanes = s.lanes

/-! ### Holds, rescans and release (chapter 6) -/

/-- PAGE_RESOLVE refused: RANGE for an action above 2 and for a RESCAN with n outside 1-4, then NOT_HELD for
a token that names no HELD page, then SLOT_RANGE for a RESCAN whose slots do not fit; a refused request
changes no state. A request that names no action belongs to each of the three rows, which is the model's
choice (log 3). -/
def Obligations.ResolveRefusedInOrder : Prop :=
  ∀ (s : State) (k : Trunk) (tag token n : Byte),
    (s.nextRequest = some (k, ⟨7, tag, [token, 2, n]⟩) → n.toNat < 1 ∨ 4 < n.toNat →
      Completes .pageResolveRescan s fun t => Replied s t k ⟨7, tag, [token, 2, n]⟩ .range [] ∧ SamePaper s t
        ∧ SameTables s t ∧ SameEvents s t ∧ SameLinks s t)
    ∧ (∀ (a : Byte) (i : Instr), 2 < a.toNat →
        i = .pageResolveAccept ∨ i = .pageResolveDrop ∨ i = .pageResolveRescan →
        s.nextRequest = some (k, ⟨7, tag, [token, a, n]⟩) →
        Completes i s fun t => Replied s t k ⟨7, tag, [token, a, n]⟩ .range [] ∧ SamePaper s t
          ∧ SameTables s t ∧ SameEvents s t ∧ SameLinks s t)
    ∧ (∀ (a : Byte) (i : Instr), (i = .pageResolveAccept ∧ a = 0) ∨ (i = .pageResolveDrop ∧ a = 1)
          ∨ (i = .pageResolveRescan ∧ a = 2 ∧ 1 ≤ n.toNat ∧ n.toNat ≤ 4) →
        s.nextRequest = some (k, ⟨7, tag, [token, a, n]⟩) →
        (∀ j p, s.live token.toNat = some (j, p) → p.state ≠ .held) →
        Completes i s fun t => Replied s t k ⟨7, tag, [token, a, n]⟩ .notHeld [] ∧ SamePaper s t
          ∧ SameTables s t ∧ SameEvents s t ∧ SameLinks s t)
    ∧ (s.nextRequest = some (k, ⟨7, tag, [token, 2, n]⟩) → 1 ≤ n.toNat → n.toNat ≤ 4 →
        ∀ j p, s.live token.toNat = some (j, p) → p.state = .held →
        (4 < p.pos.sub + n.toNat
          ∨ (∃ e q, s.pageAt e = some q ∧ q.lane = p.lane ∧ q.pos.seq = p.pos.seq ∧ p.pos.sub < q.pos.sub)
          ∨ (∃ q ∈ (s.lane p.lane).slots, q.seq = p.pos.seq ∧ p.pos.sub < q.sub)
          ∨ (∃ q, (s.lane p.lane).loan = some q ∧ q.seq = p.pos.seq ∧ p.pos.sub < q.sub)
          ∨ 8 < (s.lane p.lane).slots.length + (if (s.lane p.lane).loan.isSome then 1 else 0) + n.toNat) →
        Completes .pageResolveRescan s fun t => Replied s t k ⟨7, tag, [token, 2, n]⟩ .slotRange []
          ∧ SamePaper s t ∧ SameTables s t ∧ SameEvents s t ∧ SameLinks s t)

/-- PAGE_RESOLVE on a HELD page. ACCEPT makes it READY with ACCEPTED. DROP frees it and vacates its
position. RESCAN, not refused, frees it and the slots (seq, s) up to (seq, s + n - 1) enter the slot list.
SLOT_CANCEL takes an open slot out of the list; it is refused NO_SLOT for any other position and RANGE for a
lane above 5 or a sub above 3. The order of what follows a freeing is read from the spec by inference (log 16),
that of what follows an ACCEPT or a SLOT_CANCEL is the model's choice (log 40), and so is that a RESCAN asks for
no vacated position (log 33). -/
def Obligations.HoldsAndSlotsResolved : Prop :=
  (∀ (s : State) (k : Trunk) (tag token n : Byte) (i : Fin 64) (p : Page),
    s.nextRequest = some (k, ⟨7, tag, [token, 0, n]⟩) → s.live token.toNat = some (i, p) → p.state = .held →
    (∃ s1, Begins .pageResolveAccept s s1 [.holds, .release p.lane]
      ∧ (p.image ≠ .notOpen → s1.pageAt i = some { p with
          flags := { p.flags with accepted := true }, holdReason := none, state := .ready })
      ∧ (p.image = .notOpen → p.close = none → s1.pageAt i = some { p with
          flags := { p.flags with accepted := true }, holdReason := none, state := .ready
          image := .closed, close := some { mark := 0, blank := false, ticket := none }, imageTimer := none })
      ∧ OtherEntries s s1 i ∧ s1.lanes = s.lanes ∧ s1.pool = s.pool ∧ s1.channels = s.channels
      ∧ s1.events = s.events)
    ∧ Completes .pageResolveAccept s fun t => Replied s t k ⟨7, tag, [token, 0, n]⟩ .ok [])
  ∧ (∀ (s : State) (k : Trunk) (tag token n : Byte) (i : Fin 64) (p : Page),
    s.nextRequest = some (k, ⟨7, tag, [token, 1, n]⟩) → s.live token.toNat = some (i, p) → p.state = .held →
    (∃ s1, Begins .pageResolveDrop s s1 [.holds, .release p.lane, .adoptMoment p.lane]
      ∧ s1.entry i = ⟨((s.entry i).incarnation + 1) % 4, none⟩ ∧ OtherEntries s s1 i
      ∧ FreeList.cells s1.pool = FreeList.cells s.pool ++ p.cells
      ∧ s1.lanes = s.lanes ∧ s1.channels = s.channels ∧ s1.events = s.events)
    ∧ Completes .pageResolveDrop s fun t => Replied s t k ⟨7, tag, [token, 1, n]⟩ .ok [])
  ∧ (∀ (s : State) (k : Trunk) (tag token n : Byte) (i : Fin 64) (p : Page),
    s.nextRequest = some (k, ⟨7, tag, [token, 2, n]⟩) → s.live token.toNat = some (i, p) → p.state = .held →
    1 ≤ n.toNat → n.toNat ≤ 4 → s.slotRangeRefused p.lane p.pos n.toNat = false →
    (∃ s1, Begins .pageResolveRescan s s1 [.holds, .release p.lane, .adoptMoment p.lane]
      ∧ s1.entry i = ⟨((s.entry i).incarnation + 1) % 4, none⟩ ∧ OtherEntries s s1 i
      ∧ FreeList.cells s1.pool = FreeList.cells s.pool ++ p.cells
      ∧ (∀ q, q ∈ (s1.lane p.lane).slots ↔ q ∈ (s.lane p.lane).slots
          ∨ (q.seq = p.pos.seq ∧ p.pos.sub ≤ q.sub ∧ q.sub < p.pos.sub + n.toNat))
      ∧ ((s.lane p.lane).SlotsSound → (s1.lane p.lane).SlotsSound)
      ∧ (s1.lane p.lane).nextSeq = (s.lane p.lane).nextSeq ∧ OtherLanes s s1 p.lane ∧ s1.events = s.events)
    ∧ Completes .pageResolveRescan s fun t => Replied s t k ⟨7, tag, [token, 2, n]⟩ .ok [])
  ∧ (∀ (s : State) (k : Trunk) (r : Request), s.nextRequest = some (k, r) → r.kind = 8 → r.payload.length = 6 →
    (∀ l : LaneId, field r.payload 0 1 = l.val → field r.payload 5 1 ≤ 3 →
      (⟨field r.payload 1 4, field r.payload 5 1⟩ ∈ (s.lane l).slots →
        (∃ s1, Begins .slotCancel s s1 [.holds, .release l, .adoptMoment l]
          ∧ s1.lane l = { s.lane l with
              slots := (s.lane l).slots.erase ⟨field r.payload 1 4, field r.payload 5 1⟩ }
          ∧ OtherLanes s s1 l ∧ s1.entries = s.entries ∧ s1.events = s.events)
        ∧ Completes .slotCancel s fun t => Replied s t k r .ok [])
      ∧ (⟨field r.payload 1 4, field r.payload 5 1⟩ ∉ (s.lane l).slots →
        Completes .slotCancel s fun t => Replied s t k r .noSlot [] ∧ SamePaper s t ∧ SameTables s t
          ∧ SameEvents s t ∧ SameLinks s t))
    ∧ (5 < field r.payload 0 1 ∨ 3 < field r.payload 5 1 →
        Completes .slotCancel s fun t => Replied s t k r .range [] ∧ SamePaper s t ∧ SameTables s t
          ∧ SameEvents s t ∧ SameLinks s t))

/-- The release head is the least live position: that of a non-FREE page that is not QUEUED, or of a
slot. -/
def Obligations.ReleaseHeadIsLeastLive : Prop :=
  ∀ (s : State) (l : LaneId), (s.lane l).SlotsSound →
    (∀ i p, s.releaseHead l = .page i p →
      s.pageAt i = some p ∧ p.lane = l ∧ p.state ≠ .queued
      ∧ (∀ j q, s.pageAt j = some q → q.lane = l → q.state ≠ .queued → q.pos.before p.pos = false)
      ∧ ∀ q ∈ (s.lane l).slots, q.before p.pos = false)
    ∧ (∀ q, s.releaseHead l = .slot q →
      q ∈ (s.lane l).slots
      ∧ (∀ j p, s.pageAt j = some p → p.lane = l → p.state ≠ .queued → p.pos.before q = false)
      ∧ ∀ r ∈ (s.lane l).slots, r.before q = false)
    ∧ (s.releaseHead l = .none ↔
        (s.lane l).slots = [] ∧ ∀ j p, s.pageAt j = some p → p.lane = l → p.state = .queued)

/-! ### Batches, documents and classes (chapter 7) -/

/-- The release head is handed to an IDLE sequencer when it is a READY page without release information; its
opened field becomes yes, a ticket like the last latches TICKET_REPEAT, and one that differs brings an adoption
and then a new batch. A new batch: the number rises, the document and page-in-document are 0, the class is the
default class of the generation then in use, the ticket is the page's, both flags are yes, BATCH_NEW is latched.
The FGC acts on the change of class, and the page then goes on at step 3. -/
def Obligations.SequencerTakesHead : Prop :=
  (∀ (s : State) (l : LaneId) (i : Fin 64) (p : Page), s.releaseHead l = .page i p →
    (p.state = .ready → p.release = none → (s.lane l).batch.seqState = .idle →
      ∃ t ts, handle (.release l) s = (t, ts)
        ∧ (t.lane l).batch = { (s.lane l).batch with opened := true } ∧ OtherLanes s t l
        ∧ t.entries = s.entries ∧ t.pool = s.pool
        ∧ ∀ a, a = markAction ((s.laneTables l).markmap[(s.profileRec l).markmap]) p.closeInfo.mark →
          ((a ≠ .ticketKeep ∧ a ≠ .ticketDrop →
              t.events = s.events ∧ ts = [.lsqMarks l (s.tokenOf i) a (s.profileRec l).blankDrop])
            ∧ (a = .ticketKeep ∨ a = .ticketDrop → p.closeInfo.ticket = (s.lane l).batch.lastTicket →
              t.event Ev.ticketRepeat = (s.event Ev.ticketRepeat).occur l.val
                ∧ ts = [.lsqMarks l (s.tokenOf i) a (s.profileRec l).blankDrop])
            ∧ (a = .ticketKeep ∨ a = .ticketDrop → p.closeInfo.ticket ≠ (s.lane l).batch.lastTicket →
              t.events = s.events
                ∧ ts = [.adopt l, .newBatch l (s.tokenOf i),
                    .lsqMarks l (s.tokenOf i) a (s.profileRec l).blankDrop])))
    ∧ (p.state ≠ .ready ∨ p.release.isSome ∨ (s.lane l).batch.seqState ≠ .idle →
        handle (.release l) s = (s, [])))
  ∧ (∀ (s : State) (l : LaneId) (token : Nat) (i : Fin 64) (p : Page), s.live token = some (i, p) →
    ∃ t, handle (.newBatch l token) s = (t, [.fgc])
      ∧ (t.lane l).batch = { (s.lane l).batch with
          number := min 4294967295 ((s.lane l).batch.number + 1), document := 0, page := 0
          cls := (s.profileRec l).defaultClass, lastTicket := p.closeInfo.ticket
          startDoc := true, firstOfBatch := true }
      ∧ t.event Ev.batchNew = (s.event Ev.batchNew).occur l.val
      ∧ OtherLanes s t l ∧ t.entries = s.entries)

/-- Steps 3 to 6: what the mark does to the class and to start-document under each split, and which pages are
dropped. Steps 7 and 8: the count split and the forced split, the numbers, and the release information. That a
dropped page is freed before the FGC acts on a change of class, and that for a kept page the FGC acts on it
before steps 7 to 9, is the model's choice (log 35); the order of what follows the freeing is read from R8 and
R177 by inference (log 16). -/
def Obligations.PagesMarkedAndNumbered : Prop :=
  (∀ (s : State) (l : LaneId) (token : Nat) (i : Fin 64) (p : Page) (a : MarkAction) (blankDrop : Bool),
    s.live token = some (i, p) →
    ∃ t ts, handle (.lsqMarks l token a blankDrop) s = (t, ts)
      ∧ (t.lane l).batch = { (s.lane l).batch with
          cls := (match a with
            | .classKeep c => c
            | .classDrop c => c
            | _ => (s.lane l).batch.cls)
          startDoc := (match a, (s.profileRec l).split with
            | .ignore, _ => (s.lane l).batch.startDoc
            | .ticketKeep, _ => (s.lane l).batch.startDoc
            | .ticketDrop, _ => (s.lane l).batch.startDoc
            | _, .ticket => (s.lane l).batch.startDoc
            | _, _ => true) }
      ∧ OtherLanes s t l
      ∧ (a = .sepDrop ∨ a = .ticketDrop ∨ (∃ c, a = .classDrop c)
            ∨ (p.closeInfo.mark = 0 ∧ p.closeInfo.blank = true ∧ blankDrop = true) →
          t.pageAt i = none ∧ OtherEntries s t i ∧ ts = [.fgc, .holds, .release l, .adoptMoment l])
      ∧ (a ≠ .sepDrop → a ≠ .ticketDrop → (∀ c, a ≠ .classDrop c) →
          (p.closeInfo.mark ≠ 0 ∨ p.closeInfo.blank = false ∨ blankDrop = false) →
          t.entries = s.entries ∧ ts = [.fgc, .lsqNumber l token]))
  ∧ (∀ (s : State) (l : LaneId) (token : Nat) (i : Fin 64) (p : Page) (b : Batch) (split forced : Bool) (doc pageNo : Nat)
    (info : ReleaseInfo),
    s.live token = some (i, p) → b = (s.lane l).batch →
    split = (match (s.profileRec l).split with
      | .count n => decide (n ≤ b.page)
      | .mark => false
      | .ticket => false) →
    forced = (!b.startDoc && !split && decide ((s.classRec l b.cls).maxDocPages ≤ b.page)) →
    doc = (if b.startDoc || split || forced then min 4294967295 (b.document + 1) else b.document) →
    pageNo = (if b.startDoc || split || forced then 1 else min 4095 (b.page + 1)) →
    info = { batch := b.number, document := doc, page := pageNo, cls := b.cls
             firstOfDocument := b.startDoc || split || forced, firstOfBatch := b.firstOfBatch } →
    ∃ t, handle (.lsqNumber l token) s = (t, [.attempt l token])
      ∧ (t.lane l).batch = { b with document := doc, page := pageNo, startDoc := false, firstOfBatch := false }
      ∧ t.pageAt i = some { p with release := some info }
      ∧ (forced = true → t.event Ev.docSplitForced = (s.event Ev.docSplitForced).occur l.val)
      ∧ (forced = false → t.events = s.events)
      ∧ OtherLanes s t l ∧ OtherEntries s t i ∧ t.channels = s.channels)

/-- An enqueue attempt for a READY page with release information: refused while the class is disabled or a
channel named fails, and else a copy on every channel named, the page QUEUED, the sequencer IDLE. The retries: a
WAITING lane that would be admitted, and whose class names the channel where one is given, makes its attempt and
the retries are asked for again; without such a lane nothing changes, since a refused retry changes nothing.
Which of several lanes goes first is not fixed (log 7), and that the admitted lane goes on with its next pages
before the others retry is the model's choice (log 36). WAIT_TIMER_EXPIRY: the wait has lasted 2,000 ms, the
stall raw becomes true, and RELEASE_STALL is latched; an expiry without a running timer, or with the raw already
true, cannot occur and changes nothing (log 2). That the elapsed time is then at least 2,000 ms is the model's
choice (log 25), and so is the order of what an admission entails (log 40). -/
def Obligations.EnqueueAttemptsAndStalls : Prop :=
  (∀ (s : State) (l : LaneId) (token : Nat) (i : Fin 64) (p : Page) (info : ReleaseInfo) (r : ClassRec),
    s.live token = some (i, p) → p.state = .ready → p.release = some info → r = s.classRec p.lane info.cls →
    r.mirror ≠ some r.primary →
    ((r.enabled = true ∧ ∀ c, c = r.primary ∨ r.mirror = some c →
        (s.channelRec c).enabled = true
          ∧ ((s.chan c).fill + (p.cells.length + 1) ≤ (s.channelRec c).limit ∨ (s.chan c).queue = [])) →
      ∃ t, handle (.attempt l token) s
          = (t, (r.primary :: r.mirror.toList).map Task.fillEval ++ [.release l])
        ∧ (∀ c, c = r.primary ∨ r.mirror = some c →
            t.chan c = { s.chan c with
              queue := (s.chan c).queue ++ [{ token := token, size := p.cells.length + 1, sent := 0 }] }
            ∧ (t.chan c).fill = (s.chan c).fill + (p.cells.length + 1))
        ∧ (∀ c, c ≠ r.primary → r.mirror ≠ some c → t.chan c = s.chan c)
        ∧ t.pageAt i = some { p with state := .queued, copies := if r.mirror.isSome then 2 else 1 }
        ∧ OtherEntries s t i
        ∧ (t.lane l).batch = { (s.lane l).batch with seqState := .idle, waitTimer := none, stallRaw := false }
        ∧ (t.event Ev.releaseStall).raw.getLsbD l.val = false ∧ OtherLanes s t l ∧ t.pool = s.pool)
    ∧ (r.enabled = false ∨ (∃ c, (c = r.primary ∨ r.mirror = some c)
          ∧ ((s.channelRec c).enabled = false
            ∨ ((s.channelRec c).limit < (s.chan c).fill + (p.cells.length + 1) ∧ (s.chan c).queue ≠ []))) →
        ∃ t, handle (.attempt l token) s = (t, [])
          ∧ ((s.lane l).batch.seqState = .idle →
              (t.lane l).batch = { (s.lane l).batch with seqState := .waiting token, waitTimer := some 0 })
          ∧ ((s.lane l).batch.seqState ≠ .idle → t = s)
          ∧ OtherLanes s t l ∧ t = { s with lanes := t.lanes }))
  ∧ (∀ (s : State) (ch : Option ChanId) (Goes : LaneId → Nat → Prop),
    (∀ l token, Goes l token ↔ (s.lane l).batch.seqState = .waiting token
      ∧ ∃ i p info r, s.live token = some (i, p) ∧ p.state = .ready ∧ p.release = some info
        ∧ r = s.classRec p.lane info.cls ∧ r.enabled = true
        ∧ (∀ c, c = r.primary ∨ r.mirror = some c → (s.channelRec c).enabled = true
          ∧ ((s.chan c).fill + (p.cells.length + 1) ≤ (s.channelRec c).limit ∨ (s.chan c).queue = []))
        ∧ ∀ c, ch = some c → c = r.primary ∨ r.mirror = some c) →
    ((∀ l token, ¬Goes l token) → handle (.retries ch) s = (s, []))
    ∧ ((∃ l token, Goes l token) → ∃ l token t, Goes l token
        ∧ handle (.retries ch) s = (t, [.attempt l token, .retries ch])
        ∧ t = { s with freeDraws := t.freeDraws }))
  ∧ (∀ (s : State) (l : LaneId),
    (∀ e, (s.lane l).batch.waitTimer = some e → (s.lane l).batch.stallRaw = false →
      (s.event Ev.releaseStall).raw.getLsbD l.val = false →
      Completes (.waitTimerExpiry l) s fun t =>
        (t.lane l).batch = { (s.lane l).batch with waitTimer := some (max e 2000), stallRaw := true }
          ∧ (t.event Ev.releaseStall).raw.getLsbD l.val = true ∧ (t.event Ev.releaseStall).latch = true
          ∧ (t.event Ev.releaseStall).sources.getLsbD l.val = true
          ∧ OtherLanes s t l ∧ t.entries = s.entries ∧ t.channels = s.channels)
    ∧ ((s.lane l).batch.waitTimer = none ∨ (s.lane l).batch.stallRaw = true →
        Completes (.waitTimerExpiry l) s fun t => t.lanes = s.lanes ∧ t.entries = s.entries ∧ SameEvents s t))

/-! ### Archive channels and trunks (chapter 8) -/

/-- CHANNEL_CELL_SENT: the sent count of the copy at the head rises and the fill falls by one; the copy that
has sent its last cell leaves the queue, and a page without copies outstanding is freed. A cell of a page
that a line reset freed advances nothing; a trunk that sends no channel cell is unchanged (log 2). The order
of what follows the freeing is read from the spec by inference (log 16), and that the fill state and the retries
come after it is the model's choice (log 40). -/
def Obligations.ChannelCellSentAdvances : Prop :=
  ∀ (s : State) (k : Trunk),
    (∀ (c : ChanId) (cell : OutCell) (x : Copy) (xs : List Copy),
      (s.trunk k).tx = some ⟨.channel c true, cell⟩ → (s.chan c).queue = x :: xs →
      (x.sent + 1 < x.size →
        ∃ s1, Begins (.channelCellSent k) s s1 [.fillEval c, .retries (some c)]
          ∧ s1.chan c = { s.chan c with queue := { x with sent := x.sent + 1 } :: xs }
          ∧ (s1.chan c).fill + 1 = (s.chan c).fill ∧ OtherChannels s s1 c
          ∧ s1.entries = s.entries ∧ s1.pool = s.pool ∧ s1.lanes = s.lanes ∧ s1.events = s.events)
      ∧ (x.sent + 1 = x.size → ∀ i p, s.live x.token = some (i, p) →
          (p.copies = 2 →
            ∃ s1, Begins (.channelCellSent k) s s1 [.fillEval c, .retries (some c)]
              ∧ s1.chan c = { s.chan c with queue := xs } ∧ OtherChannels s s1 c
              ∧ s1.pageAt i = some { p with copies := 1 } ∧ OtherEntries s s1 i ∧ s1.pool = s.pool)
          ∧ (p.copies = 1 →
            ∃ s1, Begins (.channelCellSent k) s s1
                [.holds, .release p.lane, .adoptMoment p.lane, .fillEval c, .retries (some c)]
              ∧ s1.chan c = { s.chan c with queue := xs } ∧ OtherChannels s s1 c
              ∧ s1.entry i = ⟨((s.entry i).incarnation + 1) % 4, none⟩ ∧ OtherEntries s s1 i
              ∧ FreeList.cells s1.pool = FreeList.cells s.pool ++ p.cells)))
    ∧ (∀ (c : ChanId) (cell : OutCell), (s.trunk k).tx = some ⟨.channel c false, cell⟩ →
        Completes (.channelCellSent k) s fun t => SamePaper s t ∧ SameTables s t ∧ SameEvents s t)
    ∧ ((∀ c b cell, (s.trunk k).tx ≠ some ⟨.channel c b, cell⟩) →
        Completes (.channelCellSent k) s fun t => t = s)

/-- The fill state after a re-evaluation is one from which no transition applies, for every record that the
commit's rule for CHANNEL allows. PAUSE on and off for channel numbers 1-8 of the trunk, and no effect for 0
and above 8, nor on a link that is not UP. PAUSE_TIMER_EXPIRY clears the pause and latches PAUSE_EXPIRED for the
channel; on a channel that is not paused it cannot occur and changes nothing (log 2). -/
def Obligations.ChannelsFillAndPause : Prop :=
  (∀ (r : ChannelRec) (fill : Nat) (f g : FillState), 1 ≤ r.ease → r.ease < r.near → r.near ≤ r.full →
    g = FillState.settle r fill f →
    (g = .opened → fill < r.near) ∧ (g = .near → r.ease ≤ fill ∧ fill < r.full) ∧ (g = .full → r.near ≤ fill)
    ∧ (r.full ≤ fill → g = .full) ∧ (fill < r.ease → g = .opened)
    ∧ (r.ease ≤ fill → fill < r.near → f = .opened → g = .opened)
    ∧ (r.ease ≤ fill → fill < r.near → f ≠ .opened → g = .near)
    ∧ (r.near ≤ fill → fill < r.full → f = .full → g = .full)
    ∧ (r.near ≤ fill → fill < r.full → f ≠ .full → g = .near))
  ∧ (∀ (s : State) (k : Trunk) (b : Byte), s.linkUp (.trunk k) = true →
    (∀ c : ChanId, 1 ≤ b.toNat → b.toNat ≤ 8 →
      c.val = (match k with | .a => 0 | .b => 8) + b.toNat - 1 →
      Completes (.pauseOn k b) s (fun t => t.chan c = { s.chan c with pauseTimer := some 2000 }
        ∧ OtherChannels s t c ∧ t.lanes = s.lanes ∧ t.entries = s.entries ∧ t.pool = s.pool
        ∧ SameTables s t ∧ SameEvents s t)
      ∧ Completes (.pauseOff k b) s (fun t => t.chan c = { s.chan c with pauseTimer := none }
        ∧ OtherChannels s t c ∧ t.lanes = s.lanes ∧ t.entries = s.entries ∧ t.pool = s.pool
        ∧ SameTables s t ∧ SameEvents s t))
    ∧ (b.toNat = 0 ∨ 8 < b.toNat → ∀ i, i = .pauseOn k b ∨ i = .pauseOff k b →
        Completes i s fun t => SamePaper s t ∧ SameTables s t ∧ SameEvents s t))
  ∧ (∀ (s : State) (k : Trunk) (b : Byte) (i : Instr), s.linkUp (.trunk k) = false →
    i = .pauseOn k b ∨ i = .pauseOff k b →
    Completes i s fun t => t = { s with trunkA := t.trunkA, trunkB := t.trunkB }
      ∧ (t.trunk k).link.state = (s.trunk k).link.state ∧ t.trunk (otherTrunk k) = s.trunk (otherTrunk k))
  ∧ (∀ (s : State) (c : ChanId),
    ((s.chan c).pauseTimer.isSome = true →
      Completes (.pauseTimerExpiry c) s fun t =>
        t.chan c = { s.chan c with pauseTimer := none } ∧ OtherChannels s t c
          ∧ (t.event Ev.pauseExpired).latch = true ∧ (t.event Ev.pauseExpired).sources.getLsbD c.val = true
          ∧ t.lanes = s.lanes ∧ t.entries = s.entries
          ∧ ∀ d, d ≠ Ev.pauseExpired → SameEvent (s.event d) (t.event d))
    ∧ ((s.chan c).pauseTimer = none →
        Completes (.pauseTimerExpiry c) s fun t => SamePaper s t ∧ SameEvents s t))

/-- The transmit slot of an UP trunk with a free path: a waiting reply, else a pending report on the
management trunk, else one cell of the first eligible channel counting from the pointer upward, after which
the pointer stands at the next number. The cell at position `sent` of a copy: the page start with the page
header first, then the bytes of the cell list's entries, the last with the end indication. -/
def Obligations.TransmitSlotsAndCells : Prop :=
  ((∀ (s : State) (c : ChanId), s.eligible c = true ↔
      (s.channelRec c).enabled = true ∧ (s.chan c).pauseTimer = none ∧ (s.chan c).queue ≠ [])
  ∧ ∀ (s : State) (k : Trunk), s.linkUp (.trunk k) = true → (s.trunk k).tx = none →
    (∀ r, (s.trunk k).reply = some r →
      ((s.slot k).trunk k).tx = some ⟨.reply, r.cell⟩ ∧ ((s.slot k).trunk k).rr = (s.trunk k).rr
        ∧ (s.slot k).events = s.events)
    ∧ (∀ c, (s.trunk k).reply = none → s.mgmtTrunk = k → s.reportChoice = some c →
        ((s.slot k).trunk k).tx = some ⟨.report c, s.reportCell c⟩ ∧ ((s.slot k).trunk k).rr = (s.trunk k).rr
          ∧ ((s.slot k).event c).reportPending = false)
    ∧ (∀ j : Fin 8, (s.trunk k).reply = none → (s.mgmtTrunk ≠ k ∨ s.reportChoice = none) →
        s.eligible (trunkChan k ((s.trunk k).rr + j)) = true →
        (∀ m : Fin 8, m < j → s.eligible (trunkChan k ((s.trunk k).rr + m)) = false) →
        ∀ x xs i p, (s.chan (trunkChan k ((s.trunk k).rr + j))).queue = x :: xs → s.live x.token = some (i, p) →
          ((s.slot k).trunk k).tx = some ⟨.channel (trunkChan k ((s.trunk k).rr + j)) true,
              s.copyCell (trunkChan k ((s.trunk k).rr + j)) x p⟩
            ∧ ((s.slot k).trunk k).rr = (s.trunk k).rr + j + 1))
  ∧ (∀ (s : State) (c : ChanId) (x : Copy) (p : Page),
    (x.sent = 0 → (s.copyCell c x p).kind = 0x10 ∧ (s.copyCell c x p).payload = s.pageHeader x.token p)
    ∧ (∀ n cell, x.sent = n + 1 → p.cells[n]? = some cell →
        (s.copyCell c x p).kind = 0x01 ∧ (s.copyCell c x p).payload = Memory.read s.mem cell)
    ∧ (s.copyCell c x p).channel = c.val % 8 + 1 ∧ (s.copyCell c x p).token = x.token
    ∧ (x.sent < x.size → ((s.copyCell c x p).endMark = true ↔ x.sent = x.size - 1))
    ∧ (s.pageHeader x.token p).length = 36)

/-! ### Table banks (chapter 9) -/

/-- TABLE_LOAD of a record that its table accepts writes it into the SHADOW bank and answers OK, or CLAMPED
when a field was brought into range; it is refused RANGE before BUSY before PENDING. A table code above 5, and a
record of another length than its table's, are refused RANGE. A load is refused for an entry that the table does
not have and for a coded field that names no code. Each numeric field is written as the value carried, brought
into its range; slope_ms becomes the greatest of its six values not above the one carried; a load is CLAMPED
exactly when some field carried lies outside its range, or a slope is no such value. That bytes which do not
apply (a mirror, zone, split n or class that is absent) clamp nothing is read from the spec by inference (log
17). -/
def Obligations.TableLoadWritesShadow : Prop :=
  (∀ (s : State) (k : Trunk) (r : Request) (id : TableId), s.nextRequest = some (k, r) → r.kind = 0 →
    field r.payload 0 1 = id.code → r.payload.length = 2 + id.recordLength →
    (∀ tables clamped,
      (s.banks[s.otherBank]).load id (field r.payload 1 1) (r.payload.drop 2) = some (tables, clamped) →
      (s.otherRole = .shadow →
        Completes .tableLoad s fun t =>
          Replied s t k r (if clamped then .clamped else .ok) [] ∧ t.banks[s.otherBank] = tables
            ∧ t.banks[s.activeBank] = s.banks[s.activeBank]
            ∧ t.otherRole = .shadow ∧ t.activeBank = s.activeBank ∧ t.activeGen = s.activeGen
            ∧ t.genCounter = s.genCounter ∧ t.channelGen = s.channelGen
            ∧ SamePaper s t ∧ SameEvents s t ∧ SameLinks s t)
      ∧ (∀ n, s.otherRole = .retired n →
        Completes .tableLoad s fun t => Replied s t k r .busy [] ∧ SamePaper s t ∧ SameTables s t
          ∧ SameEvents s t ∧ SameLinks s t)
      ∧ (∀ g, s.otherRole = .pending g →
        Completes .tableLoad s fun t => Replied s t k r .pending [] ∧ SamePaper s t ∧ SameTables s t
          ∧ SameEvents s t ∧ SameLinks s t))
    ∧ ((s.banks[s.otherBank]).load id (field r.payload 1 1) (r.payload.drop 2) = none →
        Completes .tableLoad s fun t => Replied s t k r .range [] ∧ SamePaper s t ∧ SameTables s t
          ∧ SameEvents s t ∧ SameLinks s t))
  ∧ (∀ (s : State) (k : Trunk) (r : Request), s.nextRequest = some (k, r) → r.kind = 0 →
    (5 < field r.payload 0 1 ∨ ∃ id : TableId, field r.payload 0 1 = id.code
      ∧ r.payload.length ≠ 2 + id.recordLength) →
    Completes .tableLoad s fun t => Replied s t k r .range [] ∧ SamePaper s t ∧ SameTables s t ∧ SameEvents s t
      ∧ SameLinks s t)
  ∧ (∀ (t : Tables) (id : TableId) (i : Nat) (bs : List Byte),
    t.load id i bs = none ↔ id.entries ≤ i ∨ (id = .profile ∧ badProfileCodes bs) ∨ (id = .markmap ∧ badMarkCodes bs))
  ∧ (∀ (t u : Tables) (i : Nat) (bs : List Byte) (clamped : Bool),
    (t.load .lane i bs = some (u, clamped) →
      ∃ r, u.lane.toList = t.lane.toList.set i r ∧ u = { t with lane := u.lane } ∧ Clamps bs r.ranged
        ∧ (clamped = true ↔ OutOfRange bs r.ranged)
        ∧ r.enabled = flagAt bs 0 0 ∧ r.sonicEnabled = flagAt bs 0 1 ∧ r.autostop = flagAt bs 0 2)
    ∧ (t.load .group i bs = some (u, clamped) →
      ∃ r, u.group.toList = t.group.toList.set i r ∧ u = { t with group := u.group } ∧ Clamps bs r.ranged
        ∧ r.slopeMs ∈ [0, 50, 100, 200, 400, 800] ∧ r.slopeMs ≤ field bs 4 2
        ∧ (∀ v ∈ [0, 50, 100, 200, 400, 800], v ≤ field bs 4 2 → v ≤ r.slopeMs)
        ∧ (clamped = true ↔ OutOfRange bs r.ranged ∨ r.slopeMs ≠ field bs 4 2))
    ∧ (t.load .profile i bs = some (u, clamped) →
      ∃ r, u.profile.toList = t.profile.toList.set i r ∧ u = { t with profile := u.profile } ∧ Clamps bs r.ranged
        ∧ (clamped = true ↔ OutOfRange bs r.ranged)
        ∧ r.zones.length = field bs 7 1
        ∧ [r.polDouble, r.polLong, r.polShort, r.polUnverified, r.polTruncated].map (codeIn [.pass, .hold, .stop])
            = [field bs 16 1, field bs 17 1, field bs 18 1, field bs 19 1, field bs 20 1]
        ∧ (r.split = .mark ↔ field bs 23 1 = 0) ∧ ((∃ n, r.split = .count n) ↔ field bs 23 1 = 1)
        ∧ (r.split = .ticket ↔ field bs 23 1 = 2) ∧ r.blankDrop.toNat = field bs 26 1)
    ∧ (t.load .markmap i bs = some (u, clamped) →
      ∃ m : Vector MarkAction 15, u.markmap.toList = t.markmap.toList.set i m ∧ u = { t with markmap := u.markmap }
        ∧ (∀ k : Fin 15, Clamps bs (m[k].ranged k.val))
        ∧ (clamped = true ↔ ∃ k : Fin 15, OutOfRange bs (m[k].ranged k.val))
        ∧ ∀ k : Fin 15, (m[k] = .ignore ↔ field bs (2 * k.val) 1 = 0) ∧ (m[k] = .sepKeep ↔ field bs (2 * k.val) 1 = 1)
          ∧ (m[k] = .sepDrop ↔ field bs (2 * k.val) 1 = 2) ∧ (m[k] = .ticketKeep ↔ field bs (2 * k.val) 1 = 3)
          ∧ (m[k] = .ticketDrop ↔ field bs (2 * k.val) 1 = 4)
          ∧ ((∃ c, m[k] = .classKeep c) ↔ field bs (2 * k.val) 1 = 5)
          ∧ ((∃ c, m[k] = .classDrop c) ↔ field bs (2 * k.val) 1 = 6))
    ∧ (t.load .cls i bs = some (u, clamped) →
      ∃ r, u.cls.toList = t.cls.toList.set i r ∧ u = { t with cls := u.cls } ∧ Clamps bs r.ranged
        ∧ (clamped = true ↔ OutOfRange bs r.ranged) ∧ r.enabled = flagAt bs 0 0 ∧ r.mirror.isSome = flagAt bs 0 1)
    ∧ (t.load .channel i bs = some (u, clamped) →
      ∃ r, u.channel.toList = t.channel.toList.set i r ∧ u = { t with channel := u.channel } ∧ Clamps bs r.ranged
        ∧ (clamped = true ↔ OutOfRange bs r.ranged) ∧ r.enabled = flagAt bs 0 0))

/-- The records that TABLE_READ gives for tables in range are the records that TABLE_LOAD takes: loading
them changes nothing and clamps nothing, for every table and every index. That the bytes which do not apply are
sent as 0 and clamp nothing is read from the spec by inference (log 17). -/
def Obligations.RecordsReadAndLoadAgree : Prop :=
  ∀ (t : Tables) (id : TableId) (i : Nat), t.InRange → i < id.entries →
    ∃ bs, t.recordBytes id i = some bs ∧ bs.length = id.recordLength ∧ t.load id i bs = some (t, false)

/-- TABLE_COMMIT: refused RANGE, BUSY, PENDING and INVALID in that order; else the SHADOW bank becomes PENDING
under the next number, and the lanes of the mode adopt: all under NOW, those OFF or IDLE with nothing live under
BOUNDARY. They adopt one after another, each that has not adopted: by the model's choice those at rest with an
IDLE sequencer first, in the order of the list, and of the others which goes first is not fixed (log 9). The
fault that INVALID names is the first record that breaks the rule of its table, table by table in the order
LANE, GROUP, PROFILE, MARKMAP, CLASS, CHANNEL and entry by entry; there is none exactly when no record breaks a
rule. -/
def Obligations.CommitMakesPending : Prop :=
  (∀ (t : Tables),
    (t.fault = none ↔ ∀ id i, ¬t.Breaks id i)
    ∧ ∀ id i, t.fault = some (id, i) ↔ t.Breaks id i ∧ ∀ other j, t.Breaks other j →
        id.code < other.code ∨ (id = other ∧ i ≤ j))
  ∧ (∀ (s : State) (ls : List LaneId) (May Alone : LaneId → Prop),
    (∀ l, May l ↔ (∃ g, s.otherRole = .pending g) ∧ (s.lane l).adopted = false) →
    (∀ l, Alone l ↔ May l ∧ ((s.lane l).state = .off ∨ (s.lane l).state = .idle)
      ∧ (s.lane l).batch.seqState = .idle) →
    ((∀ l ∈ ls, ¬May l) → handle (.adoptAll ls) s = (s, []))
    ∧ ((∃ l ∈ ls, May l) → ∃ l left t, l ∈ ls ∧ May l
        ∧ handle (.adoptAll ls) s = (t, [.adopt l, .adoptAll left])
        ∧ (∀ m, m ≠ l → (m ∈ left ↔ m ∈ ls ∧ May m)) ∧ (ls.Nodup → l ∉ left)
        ∧ ((∃ m ∈ ls, Alone m) → Alone l ∧ t = s ∧ ∃ before after, ls = before ++ l :: after
          ∧ ∀ m ∈ before, ¬Alone m)
        ∧ t = { s with freeDraws := t.freeDraws }))
  ∧ ∀ (s : State) (k : Trunk) (tag b : Byte), s.nextRequest = some (k, ⟨1, tag, [b]⟩) →
    (1 < b.toNat → Completes .tableCommit s fun t => Replied s t k ⟨1, tag, [b]⟩ .range [] ∧ SamePaper s t
      ∧ SameTables s t ∧ SameEvents s t ∧ SameLinks s t)
    ∧ (b.toNat ≤ 1 →
      (∀ n, s.otherRole = .retired n → Completes .tableCommit s fun t => Replied s t k ⟨1, tag, [b]⟩ .busy []
        ∧ SamePaper s t ∧ SameTables s t ∧ SameEvents s t ∧ SameLinks s t)
      ∧ (∀ g, s.otherRole = .pending g → Completes .tableCommit s fun t =>
          Replied s t k ⟨1, tag, [b]⟩ .pending [] ∧ SamePaper s t ∧ SameTables s t ∧ SameEvents s t
            ∧ SameLinks s t)
      ∧ (s.otherRole = .shadow →
        (∀ id i, (s.banks[s.otherBank]).fault = some (id, i) → Completes .tableCommit s fun t =>
            Replied s t k ⟨1, tag, [b]⟩ (.invalid id.code i) [] ∧ SamePaper s t ∧ SameTables s t
              ∧ SameEvents s t ∧ SameLinks s t)
        ∧ ((s.banks[s.otherBank]).fault = none →
            (∃ s1 ls, Begins .tableCommit s s1 [.adoptAll ls] ∧ ls.Nodup
              ∧ s1.otherRole = .pending (s.genCounter + 1) ∧ s1.genCounter = s.genCounter + 1
              ∧ (∀ l, (s1.lane l).adopted = false ∧ (s1.lane l).gen = (s.lane l).gen
                  ∧ (s1.lane l).state = (s.lane l).state)
              ∧ (∀ l, l ∈ ls ↔ b.toNat = 1 ∨ (s.lane l).state = .off
                  ∨ ((s.lane l).state = .idle ∧ (s.lane l).slots = []
                    ∧ ∀ i p, s.pageAt i = some p → p.lane ≠ l))
              ∧ s1.entries = s.entries ∧ s1.banks = s.banks ∧ s1.activeBank = s.activeBank)
            ∧ Completes .tableCommit s fun t => Replied s t k ⟨1, tag, [b]⟩ .ok []
                ∧ t.genCounter = s.genCounter + 1 ∧ t.banks = s.banks)))

/-- TABLE_READ answers the record with the bank's generation, or its absence for SHADOW; a read of PENDING
without one is refused STATE, a read of SHADOW BUSY or STATE; another bank operand, an unknown table and an
index outside the table are refused RANGE before either; it changes no state. -/
def Obligations.TableReadAnswersRecord : Prop :=
  (∀ (s : State) (k : Trunk) (tag bank table index : Byte),
    s.nextRequest = some (k, ⟨2, tag, [bank, table, index]⟩) →
    (2 < bank.toNat ∨ 5 < table.toNat ∨ ∃ id : TableId, table.toNat = id.code ∧ id.entries ≤ index.toNat) →
    Completes .tableRead s fun t => Replied s t k ⟨2, tag, [bank, table, index]⟩ .range [] ∧ SamePaper s t
      ∧ SameTables s t ∧ SameEvents s t ∧ SameLinks s t)
  ∧ ∀ (s : State) (k : Trunk) (tag bank table index : Byte) (id : TableId),
    s.nextRequest = some (k, ⟨2, tag, [bank, table, index]⟩) → table.toNat = id.code → index.toNat < id.entries →
    ∀ (rec0 rec1 : List Byte), (s.banks[s.activeBank]).recordBytes id index.toNat = some rec0 →
      (s.banks[s.otherBank]).recordBytes id index.toNat = some rec1 →
      Completes .tableRead s fun t => SamePaper s t ∧ SameTables s t ∧ SameEvents s t ∧ SameLinks s t
        ∧ (bank = 0 → Replied s t k ⟨2, tag, [bank, table, index]⟩ .ok
            (1 :: (le 2 s.activeGen.toNat ++ rec0)))
        ∧ (∀ g, bank = 1 → s.otherRole = .pending g → Replied s t k ⟨2, tag, [bank, table, index]⟩ .ok
            (1 :: (le 2 g.toNat ++ rec1)))
        ∧ (bank = 1 → s.pendingGen = none → Replied s t k ⟨2, tag, [bank, table, index]⟩ .state [])
        ∧ (bank = 2 → s.otherRole = .shadow → Replied s t k ⟨2, tag, [bank, table, index]⟩ .ok
            ([0, 0, 0] ++ rec1))
        ∧ (∀ n, bank = 2 → s.otherRole = .retired n → Replied s t k ⟨2, tag, [bank, table, index]⟩ .busy [])
        ∧ (∀ g, bank = 2 → s.otherRole = .pending g → Replied s t k ⟨2, tag, [bank, table, index]⟩ .state [])
        ∧ (2 < bank.toNat → Replied s t k ⟨2, tag, [bank, table, index]⟩ .range [])

/-- Adoption by a lane: the switch, and in order the channels, the transport, the monitor, the sequencer's
class, the speeds, the retry of a waiting page when there is one, and the end of the adoption by the last of the
six only. The adoption moment: a lane adopts exactly when a generation is pending that it has not adopted and it
is OFF, or IDLE with no page and no open slot. Each of these: the channels' fill states and the retries when the
channel generation has changed (their order is the model's choice, log 37), and a fill state that changes, with
its raws; the lane's state by the enabled field, the holding reasons and HEAD_DOWN; the air grid, the
calibration and the drift raw (a run in progress goes on under sonic_enabled yes by the model's choice, log 32);
the class of a context that is not opened; the FGC, which from there on sets the lane's target and reads its new
group and class (log 39); TABLES_ADOPTED and the test of retirement. -/
def Obligations.AdoptionSwitchesLane : Prop :=
  ∀ (s : State) (l : LaneId),
    (∀ g, s.otherRole = .pending g → (s.lane l).adopted = false →
      ∃ t ts, handle (.adopt l) s = (t, ts)
        ∧ t.lane l = { s.lane l with gen := g, adopted := true, adoptingFrom := some (s.lane l).gen }
        ∧ OtherLanes s t l ∧ t.channelGen = g ∧ t = { s with lanes := t.lanes, channelGen := g }
        ∧ ∃ retry last : List Task,
          ts = [.adoptChannels s.channelGen, .adoptLtc l, .adoptDfm l, .adoptLsq l, .adoptFgc l] ++ retry ++ last
          ∧ (∀ token, (s.lane l).batch.seqState = .waiting token → retry = [.attempt l token])
          ∧ ((s.lane l).batch.seqState = .idle → retry = [])
          ∧ ((∀ m, m ≠ l → (s.lane m).adopted = true) → last = [.adoptEnd])
          ∧ ((∃ m, m ≠ l ∧ (s.lane m).adopted = false) → last = []))
    ∧ ((s.lane l).adopted = true ∨ s.pendingGen = none → handle (.adopt l) s = (s, []))
    ∧ ((∃ g, s.otherRole = .pending g) → (s.lane l).adopted = false →
        (s.lane l).state = .off ∨ ((s.lane l).state = .idle ∧ (s.lane l).slots = []
          ∧ ∀ i p, s.pageAt i = some p → p.lane ≠ l) →
        handle (.adoptMoment l) s = (s, [.adopt l]))
    ∧ ((∀ g, s.otherRole ≠ .pending g) ∨ (s.lane l).adopted = true
          ∨ ((s.lane l).state ≠ .off ∧ ((s.lane l).state ≠ .idle ∨ (s.lane l).slots ≠ []
            ∨ ∃ i p, s.pageAt i = some p ∧ p.lane = l)) →
        handle (.adoptMoment l) s = (s, []))
    ∧ (∀ old, old = s.channelGen → handle (.adoptChannels old) s = (s, []))
    ∧ (∀ old, old ≠ s.channelGen → handle (.adoptChannels old) s
        = (s, (List.finRange 16).map Task.fillEval ++ [.retries none]))
    ∧ (∀ (c : ChanId) (f : FillState), f = FillState.settle (s.channelRec c) (s.chan c).fill (s.chan c).fillState →
        ((s.channelRec c).enabled = true → f ≠ (s.chan c).fillState →
          ∃ t, handle (.fillEval c) s = (t, [.fgc]) ∧ t.chan c = { s.chan c with fillState := f }
            ∧ OtherChannels s t c ∧ (t.event Ev.channelNear).raw.getLsbD c.val = decide (f ≠ .opened)
            ∧ (t.event Ev.channelFull).raw.getLsbD c.val = decide (f = .full)
            ∧ t = { s with channels := t.channels, events := t.events })
        ∧ ((s.channelRec c).enabled = false ∨ f = (s.chan c).fillState → handle (.fillEval c) s = (s, [])))
    ∧ (∃ t, handle (.adoptLtc l) s = (t, [.holds])
        ∧ ((s.lane l).state = .off → s.laneEnabled l = true → t.lane l = { (s.lane l).zeroCounter with state := .idle })
        ∧ ((s.lane l).state = .idle → s.laneEnabled l = false →
            t.lane l = { (s.lane l).zeroCounter with state := .off, trayEmpty := false })
        ∧ ((s.lane l).state = .rampUp ∨ (s.lane l).state = .feeding ∨ (s.lane l).state = .holding
            ∨ (s.lane l).state = .retryWait → s.laneEnabled l = false →
            t.lane l = (handle (.enterRunout l) s).1.lane l)
        ∧ ((s.lane l).state = .runout ∨ (s.lane l).state = .rampDown ∨ (s.lane l).state = .jammed
            ∨ ((s.lane l).state = .off ∧ s.laneEnabled l = false)
            ∨ ((s.lane l).state ≠ .off ∧ s.laneEnabled l = true) → t.lane l = s.lane l)
        ∧ (t.event Ev.headDown).raw.getLsbD l.val = (s.laneEnabled l && !s.linkUp (.head l))
        ∧ OtherLanes s t l ∧ t = { s with lanes := t.lanes, events := t.events })
    ∧ (∃ t, handle (.adoptDfm l) s = (t, [.speedCheck l])
        ∧ (∀ d, d = { (s.lane l).dfm with
              gridOrigin := (s.lane l).high, gridNext := 1
              calibration := if (s.laneRec l).sonicEnabled then (s.lane l).dfm.calibration else .none } →
            t.lane l = { s.lane l with dfm := { d with driftRaw := d.drift } }
            ∧ (t.event Ev.sonicDrift).raw.getLsbD l.val = d.drift)
        ∧ ((s.laneRec l).sonicEnabled = false → (t.lane l).dfm.driftRaw = false)
        ∧ OtherLanes s t l ∧ t = { s with lanes := t.lanes, events := t.events })
    ∧ (∃ t, handle (.adoptLsq l) s = (t, [])
        ∧ t.lane l = { s.lane l with batch := { (s.lane l).batch with
            cls := if (s.lane l).batch.opened then (s.lane l).batch.cls else (s.profileRec l).defaultClass } }
        ∧ OtherLanes s t l ∧ t = { s with lanes := t.lanes })
    ∧ handle (.adoptFgc l) s = handle .fgc (s.modLane l fun x => { x with adoptingFrom := none })
    ∧ handle .adoptEnd s = (s.occur Ev.tablesAdopted 0, [.retire])

/-- The old generation is retired when every lane has adopted and no PICKED or IN_PATH page carries it.
BANK_COPY_COMPLETE: the RETIRED bank is equal to ACTIVE and becomes SHADOW, and TABLES_READY is latched;
without a copy in flight nothing changes (log 2). -/
def Obligations.RetirementAndBankCopy : Prop :=
  (∀ s : State,
    (∀ g, s.otherRole = .pending g → (∀ l, (s.lane l).adopted = true) →
      (∀ i p, s.pageAt i = some p → p.genPick = s.activeGen → p.state ≠ .picked ∧ p.state ≠ .inPath) →
      ∃ t, handle .retire s = (t, [])
        ∧ t.activeBank = s.otherBank ∧ t.activeGen = g ∧ t.otherRole = .retired 4
        ∧ (∀ l, t.lane l = { s.lane l with adopted := false }) ∧ t.banks = s.banks
        ∧ t.channelGen = s.channelGen ∧ t.entries = s.entries)
    ∧ (s.pendingGen = none ∨ (∃ l, (s.lane l).adopted = false)
          ∨ (∃ i p, s.pageAt i = some p ∧ p.genPick = s.activeGen ∧ (p.state = .picked ∨ p.state = .inPath)) →
        handle .retire s = (s, [])))
  ∧ (∀ s : State,
    (∀ n, s.otherRole = .retired n →
      Completes .bankCopyComplete s fun t =>
        t.otherRole = .shadow ∧ t.banks[s.otherBank] = s.banks[s.activeBank]
          ∧ t.banks[s.activeBank] = s.banks[s.activeBank] ∧ t.activeBank = s.activeBank
          ∧ t.activeGen = s.activeGen ∧ t.genCounter = s.genCounter ∧ t.channelGen = s.channelGen
          ∧ (t.event Ev.tablesReady).latch = true ∧ (t.event Ev.tablesReady).sources.getLsbD 0 = true
          ∧ SamePaper s t ∧ SameLinks s t)
    ∧ ((∀ n, s.otherRole ≠ .retired n) →
        Completes .bankCopyComplete s fun t => SamePaper s t ∧ SameTables s t ∧ SameEvents s t ∧ SameLinks s t))

/-! ### Management requests and event reports (chapter 10) -/

/-- A request cell joins its trunk's queue and makes the trunk the management trunk; with 4 in the queue it
is discarded and counted; on a link that is not UP it is not delivered. The MGE takes the oldest request of
a servable queue, and when both are servable that of the trunk it did not serve last; none while a reset
waits. -/
def Obligations.RequestsQueueAndAlternate : Prop :=
  (∀ (s : State) (k : Trunk) (kind tag : Byte) (payload : List Byte),
    (s.linkUp (.trunk k) = true → (s.trunk k).requests.length < 4 →
      Completes (.request k kind tag payload) s fun t =>
        (t.trunk k).requests = (s.trunk k).requests ++ [{ kind := kind, tag := tag, payload := payload }]
          ∧ t.mgmtTrunk = k ∧ (t.trunk k).discards = (s.trunk k).discards
          ∧ (t.trunk (otherTrunk k)).requests = (s.trunk (otherTrunk k)).requests
          ∧ (∀ j, (t.trunk j).reply = (s.trunk j).reply) ∧ SamePaper s t ∧ SameTables s t ∧ SameEvents s t)
    ∧ (s.linkUp (.trunk k) = true → 4 ≤ (s.trunk k).requests.length →
      Completes (.request k kind tag payload) s fun t =>
        (t.trunk k).requests = (s.trunk k).requests ∧ (t.trunk k).discards = min 255 ((s.trunk k).discards + 1)
          ∧ t.mgmtTrunk = s.mgmtTrunk ∧ (t.trunk (otherTrunk k)).requests = (s.trunk (otherTrunk k)).requests
          ∧ (t.trunk (otherTrunk k)).discards = (s.trunk (otherTrunk k)).discards
          ∧ (∀ j, (t.trunk j).reply = (s.trunk j).reply) ∧ SamePaper s t ∧ SameTables s t ∧ SameEvents s t)
    ∧ (s.linkUp (.trunk k) = false →
      Completes (.request k kind tag payload) s fun t =>
        (t.trunk k).requests = (s.trunk k).requests ∧ (t.trunk k).discards = (s.trunk k).discards
          ∧ (t.trunk k).link.state = (s.trunk k).link.state ∧ t.trunk (otherTrunk k) = s.trunk (otherTrunk k)
          ∧ t = { s with trunkA := t.trunkA, trunkB := t.trunkB }))
  ∧ ∀ (s : State) (k : Trunk) (r : Request),
      s.nextRequest = some (k, r) ↔
        (∀ j q, (s.trunk j).reply = some q → q.reset = none)
        ∧ (s.trunk k).reply = none ∧ (s.trunk k).requests.head? = some r
        ∧ (k = s.lastServed →
            (s.trunk (otherTrunk k)).requests = [] ∨ (s.trunk (otherTrunk k)).reply.isSome = true)

/-- STATUS_READ of an object answers OK with its record, for a page STATE when the token names no page, and
RANGE for an object above 5 or an operand that names no lane, channel, trunk or class; it changes no state.
The queue that a trunk's record counts no longer holds the request itself (log 21). Each record holds the
fields that section 11.5 lists for its object, in order, with their widths; copies by ascending channel (log 38)
and the management trunk of a trunk record as 1 or 0 (log 30) are the model's choice. -/
def Obligations.StatusReadAnswers : Prop :=
  (∀ s : State,
    s.partStatus = s.partFields.bytes
    ∧ (∀ l : LaneId, s.laneStatus l
        = (s.transportFields l ++ (s.lane l).dfm.fields ++ s.orderFields l ++ (s.lane l).batch.fields).bytes)
    ∧ (∀ (token : Nat) (p : Page), s.pageStatus token p = (s.headerFields token p ++ s.pageFields token p).bytes)
    ∧ (∀ c : ChanId, s.channelStatus c = (s.channelFields c).bytes)
    ∧ (∀ j : Trunk, s.trunkStatus j = (s.trunkFields j).bytes)
    ∧ ∀ c : Fin 20, s.eventStatus c = (s.eventFields c).bytes)
  ∧ ∀ (s : State) (k : Trunk) (tag object operand : Byte), s.nextRequest = some (k, ⟨9, tag, [object, operand]⟩) →
    Completes .statusRead s fun t => SamePaper s t ∧ SameTables s t ∧ SameEvents s t ∧ SameLinks s t
      ∧ (object = 0 → Replied s t k ⟨9, tag, [object, operand]⟩ .ok (s.takeOff k).partStatus)
      ∧ (∀ l : LaneId, object = 1 → operand.toNat = l.val →
          Replied s t k ⟨9, tag, [object, operand]⟩ .ok ((s.takeOff k).laneStatus l))
      ∧ (∀ i p, object = 2 → s.live operand.toNat = some (i, p) →
          Replied s t k ⟨9, tag, [object, operand]⟩ .ok ((s.takeOff k).pageStatus operand.toNat p))
      ∧ (object = 2 → s.live operand.toNat = none → Replied s t k ⟨9, tag, [object, operand]⟩ .state [])
      ∧ (∀ c : ChanId, object = 3 → operand.toNat = c.val →
          Replied s t k ⟨9, tag, [object, operand]⟩ .ok ((s.takeOff k).channelStatus c))
      ∧ (object = 4 → operand = 0 →
          Replied s t k ⟨9, tag, [object, operand]⟩ .ok ((s.takeOff k).trunkStatus .a))
      ∧ (object = 4 → operand = 1 →
          Replied s t k ⟨9, tag, [object, operand]⟩ .ok ((s.takeOff k).trunkStatus .b))
      ∧ (∀ c : Fin 20, object = 5 → operand.toNat = c.val →
          Replied s t k ⟨9, tag, [object, operand]⟩ .ok ((s.takeOff k).eventStatus c))
      ∧ ((object = 1 ∧ 5 < operand.toNat) ∨ (object = 3 ∧ 15 < operand.toNat) ∨ (object = 4 ∧ 1 < operand.toNat)
            ∨ (object = 5 ∧ 19 < operand.toNat) ∨ 5 < object.toNat →
          Replied s t k ⟨9, tag, [object, operand]⟩ .range [])

/-- PART_RESET is answered OK before it takes effect, and no request is taken while its reset waits; a kind
above 1 is refused RANGE, by either row, which is the model's choice (log 3). A
reply, a report and a head cell that have been handed whole to their links leave the paths free; where the
port sends no such cell nothing changes (log 2). -/
def Obligations.RepliesAndResetsGoOut : Prop :=
  (∀ (s : State) (k : Trunk) (tag b : Byte) (i : Instr) (kind : ResetKind),
    (i = .partResetFull ∧ b = 0 ∧ kind = .full) ∨ (i = .partResetLine ∧ b = 1 ∧ kind = .line) →
    s.nextRequest = some (k, ⟨10, tag, [b]⟩) →
    Completes i s fun t =>
      (t.trunk k).reply = some { kind := 10, tag := tag, status := .ok, record := [], reset := some kind }
        ∧ (t.trunk k).requests = (s.trunk k).requests.tail ∧ t.lastServed = k ∧ t.nextRequest = none
        ∧ (t.trunk (otherTrunk k)).requests = (s.trunk (otherTrunk k)).requests
        ∧ (t.trunk (otherTrunk k)).reply = (s.trunk (otherTrunk k)).reply
        ∧ SamePaper s t ∧ SameTables s t ∧ SameEvents s t ∧ SameLinks s t)
  ∧ (∀ (s : State) (k : Trunk) (tag b : Byte) (i : Instr), i = .partResetFull ∨ i = .partResetLine → 1 < b.toNat →
    s.nextRequest = some (k, ⟨10, tag, [b]⟩) →
    Completes i s fun t => Replied s t k ⟨10, tag, [b]⟩ .range [] ∧ SamePaper s t ∧ SameTables s t
      ∧ SameEvents s t ∧ SameLinks s t)
  ∧ (∀ (s : State) (k : Trunk) (r : Reply) (cell : OutCell), (s.trunk k).tx = some ⟨.reply, cell⟩ →
      (s.trunk k).reply = some r → r.reset = none →
      ∃ s1, Begins (.replySent k) s s1 [] ∧ s1.trunk k = { s.trunk k with tx := none, reply := none }
        ∧ s1.trunk (otherTrunk k) = s.trunk (otherTrunk k)
        ∧ s1 = { s with trunkA := s1.trunkA, trunkB := s1.trunkB })
  ∧ (∀ (s : State) (k : Trunk) (c : Fin 20) (cell : OutCell), (s.trunk k).tx = some ⟨.report c, cell⟩ →
      ∃ s1, Begins (.reportSent k) s s1 [] ∧ s1.trunk k = { s.trunk k with tx := none }
        ∧ s1.trunk (otherTrunk k) = s.trunk (otherTrunk k)
        ∧ s1 = { s with trunkA := s1.trunkA, trunkB := s1.trunkB })
  ∧ (∀ (s : State) (k : Trunk),
      ((∀ cell, (s.trunk k).tx ≠ some ⟨.reply, cell⟩) → Completes (.replySent k) s fun t => t = s)
      ∧ ((∀ c cell, (s.trunk k).tx ≠ some ⟨.report c, cell⟩) → Completes (.reportSent k) s fun t => t = s))
  ∧ ∀ (s : State) (l : LaneId),
      Completes (.headCellSent l) s fun t =>
        (t.head l).txQueue = (s.head l).txQueue.tail ∧ (t.head l).link = (s.head l).link
          ∧ (t.head l).staleCount = (s.head l).staleCount ∧ (∀ m, m ≠ l → t.head m = s.head m)
          ∧ t = { s with heads := t.heads }

/-- EVENT_SET writes mask and priority of one class and re-arms or withdraws its report; EVENT_CLEAR takes
sources out, and the last one clears the latch, the count and the report. RANGE for a class above 19, a
priority above 3, or a source that the class does not have. -/
def Obligations.EventSetAndClear : Prop :=
  (∀ (s : State) (k : Trunk) (tag cls mask prio : Byte),
    s.nextRequest = some (k, ⟨11, tag, [cls, mask, prio]⟩) →
    (∀ c : Fin 20, cls.toNat = c.val → prio.toNat < 4 →
      (∃ s1, Begins .eventSet s s1 []
        ∧ (s1.event c).enabled = mask.getLsbD 0 ∧ (s1.event c).priority.val = prio.toNat
        ∧ (s1.event c).reportPending =
            (mask.getLsbD 0 && ((s.event c).reportPending || (!(s.event c).enabled && (s.event c).latch)))
        ∧ (s1.event c).raw = (s.event c).raw ∧ (s1.event c).latch = (s.event c).latch
        ∧ (s1.event c).sources = (s.event c).sources ∧ (s1.event c).count = (s.event c).count
        ∧ (∀ d, d ≠ c → s1.event d = s.event d) ∧ SamePaper s s1 ∧ SameTables s s1)
      ∧ Completes .eventSet s fun t => Replied s t k ⟨11, tag, [cls, mask, prio]⟩ .ok [])
    ∧ (19 < cls.toNat ∨ 3 < prio.toNat →
      Completes .eventSet s fun t => Replied s t k ⟨11, tag, [cls, mask, prio]⟩ .range [] ∧ SamePaper s t
        ∧ SameTables s t ∧ SameEvents s t ∧ SameLinks s t))
  ∧ ∀ (s : State) (k : Trunk) (tag cls lo hi : Byte) (named : Nat),
      s.nextRequest = some (k, ⟨12, tag, [cls, lo, hi]⟩) → named = lo.toNat + 256 * hi.toNat →
      (∀ c : Fin 20, cls.toNat = c.val → named < 2 ^ Ev.sourceCount c →
        (∃ s1, Begins .eventClear s s1 []
          ∧ (∀ j, (s1.event c).sources.getLsbD j = ((s.event c).sources.getLsbD j && !named.testBit j))
          ∧ ((s1.event c).sources = 0 →
              (s1.event c).latch = false ∧ (s1.event c).count = 0 ∧ (s1.event c).reportPending = false)
          ∧ ((s1.event c).sources ≠ 0 →
              (s1.event c).latch = (s.event c).latch ∧ (s1.event c).count = (s.event c).count
                ∧ (s1.event c).reportPending = (s.event c).reportPending)
          ∧ (s1.event c).raw = (s.event c).raw ∧ (s1.event c).enabled = (s.event c).enabled
          ∧ (s1.event c).priority = (s.event c).priority
          ∧ (∀ d, d ≠ c → s1.event d = s.event d) ∧ SamePaper s s1 ∧ SameTables s s1)
        ∧ Completes .eventClear s fun t => Replied s t k ⟨12, tag, [cls, lo, hi]⟩ .ok [])
      ∧ (19 < cls.toNat ∨ (∃ c : Fin 20, cls.toNat = c.val ∧ 2 ^ Ev.sourceCount c ≤ named) →
        Completes .eventClear s fun t => Replied s t k ⟨12, tag, [cls, lo, hi]⟩ .range [] ∧ SamePaper s t
          ∧ SameTables s t ∧ SameEvents s t ∧ SameLinks s t)

/-- An occurrence latches its class with its source; a raw level that rises is an occurrence, one that falls
only leaves the raw set; the report slot's choice is the highest priority, then the lowest index. -/
def Obligations.OccurrencesLatch : Prop :=
  (∀ (s : State) (c : Fin 20) (src : Nat), src < Ev.sourceCount c →
    ((s.occur c src).event c).latch = true
    ∧ (∀ j, ((s.occur c src).event c).sources.getLsbD j = ((s.event c).sources.getLsbD j || decide (j = src)))
    ∧ ((s.occur c src).event c).count = min 255 ((s.event c).count + 1)
    ∧ ((s.occur c src).event c).reportPending = ((s.event c).reportPending
        || ((s.event c).enabled && (!(s.event c).latch || !(s.event c).sources.getLsbD src)))
    ∧ ((s.occur c src).event c).raw = (s.event c).raw
    ∧ (s.occur c src) = { s with events := (s.occur c src).events }
    ∧ (∀ d, d ≠ c → (s.occur c src).event d = s.event d)
    ∧ ((s.event c).raw.getLsbD src = false →
        ((s.setRaw c src true).event c).raw.getLsbD src = true ∧ ((s.setRaw c src true).event c).latch = true
        ∧ ((s.setRaw c src true).event c).sources = ((s.occur c src).event c).sources
        ∧ ((s.setRaw c src true).event c).count = ((s.occur c src).event c).count
        ∧ ((s.setRaw c src true).event c).reportPending = ((s.occur c src).event c).reportPending)
    ∧ ((s.setRaw c src false).event c).raw.getLsbD src = false
    ∧ ((s.setRaw c src false).event c).latch = (s.event c).latch
    ∧ ((s.setRaw c src false).event c).sources = (s.event c).sources
    ∧ ((s.setRaw c src false).event c).count = (s.event c).count
    ∧ ((s.setRaw c src false).event c).reportPending = (s.event c).reportPending
    ∧ s.setRaw c src ((s.event c).raw.getLsbD src) = s)
  ∧ (∀ (s : State) (c : Fin 20) (src : Nat) (b : Bool), Ev.sourceCount c ≤ src →
      s.occur c src = s ∧ s.setRaw c src b = s)
  ∧ ∀ (s : State) (c : Fin 20), s.reportChoice = some c ↔
      (s.event c).reportPending = true ∧ ∀ d, (s.event d).reportPending = true →
        (s.event d).priority < (s.event c).priority
          ∨ ((s.event d).priority = (s.event c).priority ∧ c ≤ d)

/-! ### Links and cells (chapter 11) -/

/-- Every transition of a port's link: a loss of signal takes it DOWN; training begins at a signal and ends
at the eighth valid IDLE cell in a row; a bad cell, or in TRAINING a cell of another kind, starts the count
afresh; the fourth bad cell in a row takes the port DOWN, in UP as a loss of signal does; each bad cell
counts as a receive error except in DOWN. That a valid cell in UP leaves the valid-IDLE run as it is is read
from the spec by inference (log 22), and that a signal detected outside DOWN, or a cell in DOWN, changes nothing
is the model's choice (log 2). -/
def Obligations.LinkStatesChange : Prop :=
  ∀ (s : State) (p : Port),
    ((s.link p).state = .down →
      Completes (.signalDetected p) s (fun t =>
        t = s.setLink p { s.link p with state := .training, idleRun := 0, badRun := 0 })
      ∧ ∀ i, i = .idleCellReceived p ∨ i = .badCellReceived p ∨ i = .cellDiscarded p →
          Completes i s fun t => t = s)
    ∧ ((s.link p).state ≠ .down → Completes (.signalDetected p) s fun t => t = s)
    ∧ ((s.link p).state ≠ .up →
        Begins (.lossOfSignal p) s (s.setLink p { s.link p with state := .down, idleRun := 0, badRun := 0 }) [])
    ∧ Completes (.lossOfSignal p) s (fun t =>
        (t.link p).state = .down ∧ (t.link p).idleRun = 0 ∧ (t.link p).badRun = 0)
    ∧ ((s.link p).state = .training →
      ((s.link p).idleRun < 7 →
        Completes (.idleCellReceived p) s fun t =>
          t = s.setLink p { s.link p with idleRun := (s.link p).idleRun + 1, badRun := 0 })
      ∧ ((s.link p).idleRun = 7 →
          ∃ s1, Begins (.idleCellReceived p) s s1 []
            ∧ s1.link p = { s.link p with state := .up, idleRun := 8, badRun := 0 }
            ∧ (∀ q, q ≠ p → s1.link q = s.link q) ∧ s1.lanes = s.lanes ∧ s1.entries = s.entries
            ∧ (∀ l, p = .head l → (s1.event Ev.headDown).raw.getLsbD l.val = false ∧ s1.mgmtTrunk = s.mgmtTrunk)
            ∧ ∀ k, p = .trunk k →
                (s1.trunk k).hasBeenUp = true ∧ (s1.event Ev.trunkDown).raw.getLsbD (trunkIndex k) = false
                ∧ s1.mgmtTrunk = (if s.linkUp (.trunk s.mgmtTrunk) then s.mgmtTrunk else k))
      ∧ Completes (.cellDiscarded p) s (fun t => t = s.setLink p { s.link p with idleRun := 0, badRun := 0 })
      ∧ (3 ≤ (s.link p).badRun →
          Begins (.badCellReceived p) s
            (s.setLink p ⟨.down, 0, 0, min 65535 ((s.link p).errors + 1)⟩) []))
    ∧ ((s.link p).state = .up →
      (∀ i, i = .idleCellReceived p ∨ i = .cellDiscarded p →
        Completes i s fun t => t = s.setLink p { s.link p with badRun := 0 })
      ∧ (3 ≤ (s.link p).badRun →
          exec (.badCellReceived p) s
            = exec (.lossOfSignal p) (s.setLink p { s.link p with errors := min 65535 ((s.link p).errors + 1) })))
    ∧ ((s.link p).state ≠ .down → (s.link p).badRun < 3 →
      Completes (.badCellReceived p) s fun t =>
        t = s.setLink p { s.link p with
          idleRun := 0, badRun := (s.link p).badRun + 1, errors := min 65535 ((s.link p).errors + 1) })

/-- When a trunk's link leaves UP by LOSS_OF_SIGNAL and no reset waits for its reply: the cell being sent,
the waiting reply and the queued requests are discarded without a discard counted, an abandoned report is
pending again, the management trunk may change, and TRUNK_DOWN rises. When the reply discarded is that to a
PART_RESET, the reset takes effect in the act of the loss: after FULL the part is as after POWER_ON but for the
reset cause, and after LINE it is as a line reset leaves it, with the trunk DOWN and its requests gone. -/
def Obligations.TrunkLossEffects : Prop :=
  (∀ (s : State) (k : Trunk) (r : Reply), s.linkUp (.trunk k) = true → (s.trunk k).reply = some r →
    (r.reset = some .full → ∃ t, exec .powerOn s = .next t
      ∧ exec (.lossOfSignal (.trunk k)) s = .next { t with resetCause := .requestFull })
    ∧ (r.reset = some .line → Completes (.lossOfSignal (.trunk k)) s fun t =>
        t.resetCause = .requestLine ∧ (∀ e, t.pageAt e = none) ∧ FreeList.cells t.pool = List.range 65536
        ∧ (∀ l, (t.lane l).Fresh ∧ (t.lane l).state = (if t.laneEnabled l then .idle else .off)
            ∧ (t.lane l).gen = s.pendingGen.getD (s.lane l).gen
            ∧ (t.lane l).batch.cls = (t.profileRec l).defaultClass)
        ∧ (∀ c, t.chan c = ⟨[], .opened, none⟩) ∧ t.banks = s.banks ∧ t.genCounter = s.genCounter
        ∧ (t.link (.trunk k)).state = .down ∧ (∀ p, p ≠ .trunk k → t.link p = s.link p)
        ∧ (t.trunk k).tx = none ∧ (t.trunk k).reply = none ∧ (t.trunk k).requests = []
        ∧ (t.trunk k).discards = (s.trunk k).discards
        ∧ (t.trunk (otherTrunk k)).requests = (s.trunk (otherTrunk k)).requests
        ∧ (t.trunk (otherTrunk k)).reply = (s.trunk (otherTrunk k)).reply
        ∧ t.mgmtTrunk = (if s.mgmtTrunk = k ∧ s.linkUp (.trunk (otherTrunk k)) = true then otherTrunk k
            else s.mgmtTrunk)
        ∧ (t.event Ev.partReset).latch = true
        ∧ (t.event Ev.trunkDown).raw.getLsbD (trunkIndex k) = (s.trunk k).hasBeenUp))
  ∧ ∀ (s : State) (k : Trunk), s.linkUp (.trunk k) = true → (∀ r, (s.trunk k).reply = some r → r.reset = none) →
    ∃ s1, Begins (.lossOfSignal (.trunk k)) s s1 []
      ∧ s1.trunk k = { s.trunk k with
          link := { (s.trunk k).link with state := .down, idleRun := 0, badRun := 0 }
          tx := none, reply := none, requests := [] }
      ∧ s1.trunk (otherTrunk k) = s.trunk (otherTrunk k)
      ∧ s1.mgmtTrunk = (if s.mgmtTrunk = k ∧ s.linkUp (.trunk (otherTrunk k)) = true then otherTrunk k
          else s.mgmtTrunk)
      ∧ (∀ c cell, (s.trunk k).tx = some ⟨.report c, cell⟩ → (s.event c).enabled = true →
          (s.event c).latch = true → (s1.event c).reportPending = true)
      ∧ (s1.event Ev.trunkDown).raw.getLsbD (trunkIndex k) = (s.trunk k).hasBeenUp
      ∧ ((s.trunk k).hasBeenUp = true → (s.event Ev.trunkDown).raw.getLsbD (trunkIndex k) = false →
          (s1.event Ev.trunkDown).latch = true
            ∧ (s1.event Ev.trunkDown).sources.getLsbD (trunkIndex k) = true)
      ∧ SamePaper s s1 ∧ SameTables s s1 ∧ s1.resetCause = s.resetCause

/-- The bytes of a cell of a known kind with a payload of at most 1,024 bytes are a valid cell, with its fields
in their places. The CRC of the bytes of "123456789" is 29B1h. In DOWN a port sends nothing, in TRAINING IDLE
cells, in UP the cell offered or IDLE. A received cell is valid exactly when it has a header, its payload length
field is right and at most 1,024, its kind is known and its CRC checks; one that is not is a bad cell. A valid
cell is an IDLE cell; on a head port a DATA, CLOSE or ABORT; on a trunk a REQUEST on channel 0 or a PAUSE on any
channel; and any other valid cell is discarded. -/
def Obligations.SentCellsAreValid : Prop :=
  (∀ c : OutCell, c.kind ∈ Kind.all → c.payload.length ≤ 1024 →
    validCell c.bytes = true ∧ c.bytes.length = 16 + c.payload.length ∧ c.bytes.drop 16 = c.payload
      ∧ field c.bytes 0 1 = c.kind.toNat ∧ (c.channel < 256 → field c.bytes 1 1 = c.channel)
      ∧ (c.token < 256 → field c.bytes 2 1 = c.token) ∧ field c.bytes 4 2 = c.payload.length)
  ∧ crc16 [0x31, 0x32, 0x33, 0x34, 0x35, 0x36, 0x37, 0x38, 0x39] = 0x29B1
  ∧ (∀ (s : State) (p : Port),
      ((s.link p).state = .down → s.output p = none)
      ∧ ((s.link p).state = .training → s.output p = some idleCell)
      ∧ ((s.link p).state = .up → s.offered p = none → s.output p = some idleCell)
      ∧ ((s.link p).state = .up → ∀ c, s.offered p = some c → s.output p = some c))
  ∧ (∀ bs : List Byte, validCell bs = true ↔
      16 ≤ bs.length ∧ field bs 4 2 ≤ 1024 ∧ bs.length = 16 + field bs 4 2
        ∧ field bs 0 1 ∈ [0x00, 0x01, 0x02, 0x03, 0x08, 0x09, 0x0A, 0x10, 0x20, 0x21, 0x22, 0x23]
        ∧ (crc16 (bs.take 14 ++ bs.drop 16)).toNat = field bs 14 2)
  ∧ (∀ (p : Port) (bs : List Byte),
      (validCell bs = false → receivedCommand p bs = .badCellReceived p)
      ∧ (validCell bs = true → field bs 0 1 = 0x00 → receivedCommand p bs = .idleCellReceived p))
  ∧ (∀ (l : LaneId) (bs : List Byte) (token : Byte), validCell bs = true → token.toNat = field bs 2 1 →
      (field bs 0 1 = 0x01 → receivedCommand (.head l) bs = .data l token (bs.drop 16))
      ∧ (∀ mark : BitVec 4, mark.toNat = field bs 6 1 % 16 → field bs 0 1 = 0x02 →
          receivedCommand (.head l) bs = .close l token mark ((field bs 7 1).testBit 0)
            (if (field bs 7 1).testBit 1 then some (bs.drop 16) else none))
      ∧ (field bs 0 1 = 0x03 → receivedCommand (.head l) bs = .abort l token)
      ∧ (field bs 0 1 ∉ [0x00, 0x01, 0x02, 0x03] → receivedCommand (.head l) bs = .cellDiscarded (.head l)))
  ∧ ∀ (k : Trunk) (bs : List Byte) (channel kind tag : Byte), validCell bs = true → channel.toNat = field bs 1 1 →
      kind.toNat = field bs 6 1 → tag.toNat = field bs 7 1 →
      (field bs 0 1 = 0x20 → channel = 0 → receivedCommand (.trunk k) bs = .request k kind tag (bs.drop 16))
      ∧ (field bs 0 1 = 0x23 → kind.getLsbD 0 = true → receivedCommand (.trunk k) bs = .pauseOn k channel)
      ∧ (field bs 0 1 = 0x23 → kind.getLsbD 0 = false → receivedCommand (.trunk k) bs = .pauseOff k channel)
      ∧ ((field bs 0 1 = 0x20 ∧ channel ≠ 0) ∨ field bs 0 1 ∉ [0x00, 0x20, 0x23] →
          receivedCommand (.trunk k) bs = .cellDiscarded (.trunk k))
end

