-- ==== Sys2Proof/Laws/State.lean ====
section
/-! SUPPORT. What each named update of the state leaves as it was: one lemma for each field and each accessor,
and the value read back where it writes. -/

namespace Sys2Proof.Machine

/-! ### State.setLane -/

@[simp] theorem State.setLane_pending (s : State) (l : LaneId) (x : Lane) : (s.setLane l x).pending = s.pending := rfl
@[simp] theorem State.setLane_resetCause (s : State) (l : LaneId) (x : Lane) : (s.setLane l x).resetCause = s.resetCause := rfl
@[simp] theorem State.setLane_freeDraws (s : State) (l : LaneId) (x : Lane) : (s.setLane l x).freeDraws = s.freeDraws := rfl
@[simp] theorem State.setLane_entries (s : State) (l : LaneId) (x : Lane) : (s.setLane l x).entries = s.entries := rfl
@[simp] theorem State.setLane_heads (s : State) (l : LaneId) (x : Lane) : (s.setLane l x).heads = s.heads := rfl
@[simp] theorem State.setLane_pool (s : State) (l : LaneId) (x : Lane) : (s.setLane l x).pool = s.pool := rfl
@[simp] theorem State.setLane_mem (s : State) (l : LaneId) (x : Lane) : (s.setLane l x).mem = s.mem := rfl
@[simp] theorem State.setLane_channels (s : State) (l : LaneId) (x : Lane) : (s.setLane l x).channels = s.channels := rfl
@[simp] theorem State.setLane_channelGen (s : State) (l : LaneId) (x : Lane) : (s.setLane l x).channelGen = s.channelGen := rfl
@[simp] theorem State.setLane_trunkA (s : State) (l : LaneId) (x : Lane) : (s.setLane l x).trunkA = s.trunkA := rfl
@[simp] theorem State.setLane_trunkB (s : State) (l : LaneId) (x : Lane) : (s.setLane l x).trunkB = s.trunkB := rfl
@[simp] theorem State.setLane_banks (s : State) (l : LaneId) (x : Lane) : (s.setLane l x).banks = s.banks := rfl
@[simp] theorem State.setLane_activeBank (s : State) (l : LaneId) (x : Lane) : (s.setLane l x).activeBank = s.activeBank := rfl
@[simp] theorem State.setLane_activeGen (s : State) (l : LaneId) (x : Lane) : (s.setLane l x).activeGen = s.activeGen := rfl
@[simp] theorem State.setLane_otherRole (s : State) (l : LaneId) (x : Lane) : (s.setLane l x).otherRole = s.otherRole := rfl
@[simp] theorem State.setLane_genCounter (s : State) (l : LaneId) (x : Lane) : (s.setLane l x).genCounter = s.genCounter := rfl
@[simp] theorem State.setLane_lastServed (s : State) (l : LaneId) (x : Lane) : (s.setLane l x).lastServed = s.lastServed := rfl
@[simp] theorem State.setLane_mgmtTrunk (s : State) (l : LaneId) (x : Lane) : (s.setLane l x).mgmtTrunk = s.mgmtTrunk := rfl
@[simp] theorem State.setLane_events (s : State) (l : LaneId) (x : Lane) : (s.setLane l x).events = s.events := rfl
@[simp] theorem State.setLane_head (s : State) (l : LaneId) (x : Lane) (y0 : LaneId) :
    (s.setLane l x).head y0 = s.head y0 := rfl
@[simp] theorem State.setLane_chan (s : State) (l : LaneId) (x : Lane) (y0 : ChanId) :
    (s.setLane l x).chan y0 = s.chan y0 := rfl
@[simp] theorem State.setLane_trunk (s : State) (l : LaneId) (x : Lane) (y0 : Trunk) :
    (s.setLane l x).trunk y0 = s.trunk y0 := rfl
@[simp] theorem State.setLane_entry (s : State) (l : LaneId) (x : Lane) (y0 : Fin 64) :
    (s.setLane l x).entry y0 = s.entry y0 := rfl
@[simp] theorem State.setLane_pageAt (s : State) (l : LaneId) (x : Lane) (y0 : Fin 64) :
    (s.setLane l x).pageAt y0 = s.pageAt y0 := rfl
@[simp] theorem State.setLane_tokenOf (s : State) (l : LaneId) (x : Lane) (y0 : Fin 64) :
    (s.setLane l x).tokenOf y0 = s.tokenOf y0 := rfl
@[simp] theorem State.setLane_live (s : State) (l : LaneId) (x : Lane) (y0 : Nat) :
    (s.setLane l x).live y0 = s.live y0 := rfl
@[simp] theorem State.setLane_event (s : State) (l : LaneId) (x : Lane) (y0 : Fin 20) :
    (s.setLane l x).event y0 = s.event y0 := rfl
@[simp] theorem State.setLane_link (s : State) (l : LaneId) (x : Lane) (y0 : Port) :
    (s.setLane l x).link y0 = s.link y0 := rfl
@[simp] theorem State.setLane_tablesOf (s : State) (l : LaneId) (x : Lane) (y0 : Gen) :
    (s.setLane l x).tablesOf y0 = s.tablesOf y0 := rfl

/-! ### State.modLane -/

@[simp] theorem State.modLane_pending (s : State) (l : LaneId) (f : Lane → Lane) : (s.modLane l f).pending = s.pending := rfl
@[simp] theorem State.modLane_resetCause (s : State) (l : LaneId) (f : Lane → Lane) : (s.modLane l f).resetCause = s.resetCause := rfl
@[simp] theorem State.modLane_freeDraws (s : State) (l : LaneId) (f : Lane → Lane) : (s.modLane l f).freeDraws = s.freeDraws := rfl
@[simp] theorem State.modLane_entries (s : State) (l : LaneId) (f : Lane → Lane) : (s.modLane l f).entries = s.entries := rfl
@[simp] theorem State.modLane_heads (s : State) (l : LaneId) (f : Lane → Lane) : (s.modLane l f).heads = s.heads := rfl
@[simp] theorem State.modLane_pool (s : State) (l : LaneId) (f : Lane → Lane) : (s.modLane l f).pool = s.pool := rfl
@[simp] theorem State.modLane_mem (s : State) (l : LaneId) (f : Lane → Lane) : (s.modLane l f).mem = s.mem := rfl
@[simp] theorem State.modLane_channels (s : State) (l : LaneId) (f : Lane → Lane) : (s.modLane l f).channels = s.channels := rfl
@[simp] theorem State.modLane_channelGen (s : State) (l : LaneId) (f : Lane → Lane) : (s.modLane l f).channelGen = s.channelGen := rfl
@[simp] theorem State.modLane_trunkA (s : State) (l : LaneId) (f : Lane → Lane) : (s.modLane l f).trunkA = s.trunkA := rfl
@[simp] theorem State.modLane_trunkB (s : State) (l : LaneId) (f : Lane → Lane) : (s.modLane l f).trunkB = s.trunkB := rfl
@[simp] theorem State.modLane_banks (s : State) (l : LaneId) (f : Lane → Lane) : (s.modLane l f).banks = s.banks := rfl
@[simp] theorem State.modLane_activeBank (s : State) (l : LaneId) (f : Lane → Lane) : (s.modLane l f).activeBank = s.activeBank := rfl
@[simp] theorem State.modLane_activeGen (s : State) (l : LaneId) (f : Lane → Lane) : (s.modLane l f).activeGen = s.activeGen := rfl
@[simp] theorem State.modLane_otherRole (s : State) (l : LaneId) (f : Lane → Lane) : (s.modLane l f).otherRole = s.otherRole := rfl
@[simp] theorem State.modLane_genCounter (s : State) (l : LaneId) (f : Lane → Lane) : (s.modLane l f).genCounter = s.genCounter := rfl
@[simp] theorem State.modLane_lastServed (s : State) (l : LaneId) (f : Lane → Lane) : (s.modLane l f).lastServed = s.lastServed := rfl
@[simp] theorem State.modLane_mgmtTrunk (s : State) (l : LaneId) (f : Lane → Lane) : (s.modLane l f).mgmtTrunk = s.mgmtTrunk := rfl
@[simp] theorem State.modLane_events (s : State) (l : LaneId) (f : Lane → Lane) : (s.modLane l f).events = s.events := rfl
@[simp] theorem State.modLane_head (s : State) (l : LaneId) (f : Lane → Lane) (y0 : LaneId) :
    (s.modLane l f).head y0 = s.head y0 := rfl
@[simp] theorem State.modLane_chan (s : State) (l : LaneId) (f : Lane → Lane) (y0 : ChanId) :
    (s.modLane l f).chan y0 = s.chan y0 := rfl
@[simp] theorem State.modLane_trunk (s : State) (l : LaneId) (f : Lane → Lane) (y0 : Trunk) :
    (s.modLane l f).trunk y0 = s.trunk y0 := rfl
@[simp] theorem State.modLane_entry (s : State) (l : LaneId) (f : Lane → Lane) (y0 : Fin 64) :
    (s.modLane l f).entry y0 = s.entry y0 := rfl
@[simp] theorem State.modLane_pageAt (s : State) (l : LaneId) (f : Lane → Lane) (y0 : Fin 64) :
    (s.modLane l f).pageAt y0 = s.pageAt y0 := rfl
@[simp] theorem State.modLane_tokenOf (s : State) (l : LaneId) (f : Lane → Lane) (y0 : Fin 64) :
    (s.modLane l f).tokenOf y0 = s.tokenOf y0 := rfl
@[simp] theorem State.modLane_live (s : State) (l : LaneId) (f : Lane → Lane) (y0 : Nat) :
    (s.modLane l f).live y0 = s.live y0 := rfl
@[simp] theorem State.modLane_event (s : State) (l : LaneId) (f : Lane → Lane) (y0 : Fin 20) :
    (s.modLane l f).event y0 = s.event y0 := rfl
@[simp] theorem State.modLane_link (s : State) (l : LaneId) (f : Lane → Lane) (y0 : Port) :
    (s.modLane l f).link y0 = s.link y0 := rfl
@[simp] theorem State.modLane_tablesOf (s : State) (l : LaneId) (f : Lane → Lane) (y0 : Gen) :
    (s.modLane l f).tablesOf y0 = s.tablesOf y0 := rfl

/-! ### State.modDfm -/

@[simp] theorem State.modDfm_pending (s : State) (l : LaneId) (f : Dfm → Dfm) : (s.modDfm l f).pending = s.pending := rfl
@[simp] theorem State.modDfm_resetCause (s : State) (l : LaneId) (f : Dfm → Dfm) : (s.modDfm l f).resetCause = s.resetCause := rfl
@[simp] theorem State.modDfm_freeDraws (s : State) (l : LaneId) (f : Dfm → Dfm) : (s.modDfm l f).freeDraws = s.freeDraws := rfl
@[simp] theorem State.modDfm_entries (s : State) (l : LaneId) (f : Dfm → Dfm) : (s.modDfm l f).entries = s.entries := rfl
@[simp] theorem State.modDfm_heads (s : State) (l : LaneId) (f : Dfm → Dfm) : (s.modDfm l f).heads = s.heads := rfl
@[simp] theorem State.modDfm_pool (s : State) (l : LaneId) (f : Dfm → Dfm) : (s.modDfm l f).pool = s.pool := rfl
@[simp] theorem State.modDfm_mem (s : State) (l : LaneId) (f : Dfm → Dfm) : (s.modDfm l f).mem = s.mem := rfl
@[simp] theorem State.modDfm_channels (s : State) (l : LaneId) (f : Dfm → Dfm) : (s.modDfm l f).channels = s.channels := rfl
@[simp] theorem State.modDfm_channelGen (s : State) (l : LaneId) (f : Dfm → Dfm) : (s.modDfm l f).channelGen = s.channelGen := rfl
@[simp] theorem State.modDfm_trunkA (s : State) (l : LaneId) (f : Dfm → Dfm) : (s.modDfm l f).trunkA = s.trunkA := rfl
@[simp] theorem State.modDfm_trunkB (s : State) (l : LaneId) (f : Dfm → Dfm) : (s.modDfm l f).trunkB = s.trunkB := rfl
@[simp] theorem State.modDfm_banks (s : State) (l : LaneId) (f : Dfm → Dfm) : (s.modDfm l f).banks = s.banks := rfl
@[simp] theorem State.modDfm_activeBank (s : State) (l : LaneId) (f : Dfm → Dfm) : (s.modDfm l f).activeBank = s.activeBank := rfl
@[simp] theorem State.modDfm_activeGen (s : State) (l : LaneId) (f : Dfm → Dfm) : (s.modDfm l f).activeGen = s.activeGen := rfl
@[simp] theorem State.modDfm_otherRole (s : State) (l : LaneId) (f : Dfm → Dfm) : (s.modDfm l f).otherRole = s.otherRole := rfl
@[simp] theorem State.modDfm_genCounter (s : State) (l : LaneId) (f : Dfm → Dfm) : (s.modDfm l f).genCounter = s.genCounter := rfl
@[simp] theorem State.modDfm_lastServed (s : State) (l : LaneId) (f : Dfm → Dfm) : (s.modDfm l f).lastServed = s.lastServed := rfl
@[simp] theorem State.modDfm_mgmtTrunk (s : State) (l : LaneId) (f : Dfm → Dfm) : (s.modDfm l f).mgmtTrunk = s.mgmtTrunk := rfl
@[simp] theorem State.modDfm_events (s : State) (l : LaneId) (f : Dfm → Dfm) : (s.modDfm l f).events = s.events := rfl
@[simp] theorem State.modDfm_head (s : State) (l : LaneId) (f : Dfm → Dfm) (y0 : LaneId) :
    (s.modDfm l f).head y0 = s.head y0 := rfl
@[simp] theorem State.modDfm_chan (s : State) (l : LaneId) (f : Dfm → Dfm) (y0 : ChanId) :
    (s.modDfm l f).chan y0 = s.chan y0 := rfl
@[simp] theorem State.modDfm_trunk (s : State) (l : LaneId) (f : Dfm → Dfm) (y0 : Trunk) :
    (s.modDfm l f).trunk y0 = s.trunk y0 := rfl
@[simp] theorem State.modDfm_entry (s : State) (l : LaneId) (f : Dfm → Dfm) (y0 : Fin 64) :
    (s.modDfm l f).entry y0 = s.entry y0 := rfl
@[simp] theorem State.modDfm_pageAt (s : State) (l : LaneId) (f : Dfm → Dfm) (y0 : Fin 64) :
    (s.modDfm l f).pageAt y0 = s.pageAt y0 := rfl
@[simp] theorem State.modDfm_tokenOf (s : State) (l : LaneId) (f : Dfm → Dfm) (y0 : Fin 64) :
    (s.modDfm l f).tokenOf y0 = s.tokenOf y0 := rfl
@[simp] theorem State.modDfm_live (s : State) (l : LaneId) (f : Dfm → Dfm) (y0 : Nat) :
    (s.modDfm l f).live y0 = s.live y0 := rfl
@[simp] theorem State.modDfm_event (s : State) (l : LaneId) (f : Dfm → Dfm) (y0 : Fin 20) :
    (s.modDfm l f).event y0 = s.event y0 := rfl
@[simp] theorem State.modDfm_link (s : State) (l : LaneId) (f : Dfm → Dfm) (y0 : Port) :
    (s.modDfm l f).link y0 = s.link y0 := rfl
@[simp] theorem State.modDfm_tablesOf (s : State) (l : LaneId) (f : Dfm → Dfm) (y0 : Gen) :
    (s.modDfm l f).tablesOf y0 = s.tablesOf y0 := rfl

/-! ### State.modBatch -/

@[simp] theorem State.modBatch_pending (s : State) (l : LaneId) (f : Batch → Batch) : (s.modBatch l f).pending = s.pending := rfl
@[simp] theorem State.modBatch_resetCause (s : State) (l : LaneId) (f : Batch → Batch) : (s.modBatch l f).resetCause = s.resetCause := rfl
@[simp] theorem State.modBatch_freeDraws (s : State) (l : LaneId) (f : Batch → Batch) : (s.modBatch l f).freeDraws = s.freeDraws := rfl
@[simp] theorem State.modBatch_entries (s : State) (l : LaneId) (f : Batch → Batch) : (s.modBatch l f).entries = s.entries := rfl
@[simp] theorem State.modBatch_heads (s : State) (l : LaneId) (f : Batch → Batch) : (s.modBatch l f).heads = s.heads := rfl
@[simp] theorem State.modBatch_pool (s : State) (l : LaneId) (f : Batch → Batch) : (s.modBatch l f).pool = s.pool := rfl
@[simp] theorem State.modBatch_mem (s : State) (l : LaneId) (f : Batch → Batch) : (s.modBatch l f).mem = s.mem := rfl
@[simp] theorem State.modBatch_channels (s : State) (l : LaneId) (f : Batch → Batch) : (s.modBatch l f).channels = s.channels := rfl
@[simp] theorem State.modBatch_channelGen (s : State) (l : LaneId) (f : Batch → Batch) : (s.modBatch l f).channelGen = s.channelGen := rfl
@[simp] theorem State.modBatch_trunkA (s : State) (l : LaneId) (f : Batch → Batch) : (s.modBatch l f).trunkA = s.trunkA := rfl
@[simp] theorem State.modBatch_trunkB (s : State) (l : LaneId) (f : Batch → Batch) : (s.modBatch l f).trunkB = s.trunkB := rfl
@[simp] theorem State.modBatch_banks (s : State) (l : LaneId) (f : Batch → Batch) : (s.modBatch l f).banks = s.banks := rfl
@[simp] theorem State.modBatch_activeBank (s : State) (l : LaneId) (f : Batch → Batch) : (s.modBatch l f).activeBank = s.activeBank := rfl
@[simp] theorem State.modBatch_activeGen (s : State) (l : LaneId) (f : Batch → Batch) : (s.modBatch l f).activeGen = s.activeGen := rfl
@[simp] theorem State.modBatch_otherRole (s : State) (l : LaneId) (f : Batch → Batch) : (s.modBatch l f).otherRole = s.otherRole := rfl
@[simp] theorem State.modBatch_genCounter (s : State) (l : LaneId) (f : Batch → Batch) : (s.modBatch l f).genCounter = s.genCounter := rfl
@[simp] theorem State.modBatch_lastServed (s : State) (l : LaneId) (f : Batch → Batch) : (s.modBatch l f).lastServed = s.lastServed := rfl
@[simp] theorem State.modBatch_mgmtTrunk (s : State) (l : LaneId) (f : Batch → Batch) : (s.modBatch l f).mgmtTrunk = s.mgmtTrunk := rfl
@[simp] theorem State.modBatch_events (s : State) (l : LaneId) (f : Batch → Batch) : (s.modBatch l f).events = s.events := rfl
@[simp] theorem State.modBatch_head (s : State) (l : LaneId) (f : Batch → Batch) (y0 : LaneId) :
    (s.modBatch l f).head y0 = s.head y0 := rfl
@[simp] theorem State.modBatch_chan (s : State) (l : LaneId) (f : Batch → Batch) (y0 : ChanId) :
    (s.modBatch l f).chan y0 = s.chan y0 := rfl
@[simp] theorem State.modBatch_trunk (s : State) (l : LaneId) (f : Batch → Batch) (y0 : Trunk) :
    (s.modBatch l f).trunk y0 = s.trunk y0 := rfl
@[simp] theorem State.modBatch_entry (s : State) (l : LaneId) (f : Batch → Batch) (y0 : Fin 64) :
    (s.modBatch l f).entry y0 = s.entry y0 := rfl
@[simp] theorem State.modBatch_pageAt (s : State) (l : LaneId) (f : Batch → Batch) (y0 : Fin 64) :
    (s.modBatch l f).pageAt y0 = s.pageAt y0 := rfl
@[simp] theorem State.modBatch_tokenOf (s : State) (l : LaneId) (f : Batch → Batch) (y0 : Fin 64) :
    (s.modBatch l f).tokenOf y0 = s.tokenOf y0 := rfl
@[simp] theorem State.modBatch_live (s : State) (l : LaneId) (f : Batch → Batch) (y0 : Nat) :
    (s.modBatch l f).live y0 = s.live y0 := rfl
@[simp] theorem State.modBatch_event (s : State) (l : LaneId) (f : Batch → Batch) (y0 : Fin 20) :
    (s.modBatch l f).event y0 = s.event y0 := rfl
@[simp] theorem State.modBatch_link (s : State) (l : LaneId) (f : Batch → Batch) (y0 : Port) :
    (s.modBatch l f).link y0 = s.link y0 := rfl
@[simp] theorem State.modBatch_tablesOf (s : State) (l : LaneId) (f : Batch → Batch) (y0 : Gen) :
    (s.modBatch l f).tablesOf y0 = s.tablesOf y0 := rfl

/-! ### State.setHead -/

@[simp] theorem State.setHead_pending (s : State) (l : LaneId) (x : HeadPort) : (s.setHead l x).pending = s.pending := rfl
@[simp] theorem State.setHead_resetCause (s : State) (l : LaneId) (x : HeadPort) : (s.setHead l x).resetCause = s.resetCause := rfl
@[simp] theorem State.setHead_freeDraws (s : State) (l : LaneId) (x : HeadPort) : (s.setHead l x).freeDraws = s.freeDraws := rfl
@[simp] theorem State.setHead_entries (s : State) (l : LaneId) (x : HeadPort) : (s.setHead l x).entries = s.entries := rfl
@[simp] theorem State.setHead_lanes (s : State) (l : LaneId) (x : HeadPort) : (s.setHead l x).lanes = s.lanes := rfl
@[simp] theorem State.setHead_pool (s : State) (l : LaneId) (x : HeadPort) : (s.setHead l x).pool = s.pool := rfl
@[simp] theorem State.setHead_mem (s : State) (l : LaneId) (x : HeadPort) : (s.setHead l x).mem = s.mem := rfl
@[simp] theorem State.setHead_channels (s : State) (l : LaneId) (x : HeadPort) : (s.setHead l x).channels = s.channels := rfl
@[simp] theorem State.setHead_channelGen (s : State) (l : LaneId) (x : HeadPort) : (s.setHead l x).channelGen = s.channelGen := rfl
@[simp] theorem State.setHead_trunkA (s : State) (l : LaneId) (x : HeadPort) : (s.setHead l x).trunkA = s.trunkA := rfl
@[simp] theorem State.setHead_trunkB (s : State) (l : LaneId) (x : HeadPort) : (s.setHead l x).trunkB = s.trunkB := rfl
@[simp] theorem State.setHead_banks (s : State) (l : LaneId) (x : HeadPort) : (s.setHead l x).banks = s.banks := rfl
@[simp] theorem State.setHead_activeBank (s : State) (l : LaneId) (x : HeadPort) : (s.setHead l x).activeBank = s.activeBank := rfl
@[simp] theorem State.setHead_activeGen (s : State) (l : LaneId) (x : HeadPort) : (s.setHead l x).activeGen = s.activeGen := rfl
@[simp] theorem State.setHead_otherRole (s : State) (l : LaneId) (x : HeadPort) : (s.setHead l x).otherRole = s.otherRole := rfl
@[simp] theorem State.setHead_genCounter (s : State) (l : LaneId) (x : HeadPort) : (s.setHead l x).genCounter = s.genCounter := rfl
@[simp] theorem State.setHead_lastServed (s : State) (l : LaneId) (x : HeadPort) : (s.setHead l x).lastServed = s.lastServed := rfl
@[simp] theorem State.setHead_mgmtTrunk (s : State) (l : LaneId) (x : HeadPort) : (s.setHead l x).mgmtTrunk = s.mgmtTrunk := rfl
@[simp] theorem State.setHead_events (s : State) (l : LaneId) (x : HeadPort) : (s.setHead l x).events = s.events := rfl
@[simp] theorem State.setHead_lane (s : State) (l : LaneId) (x : HeadPort) (y0 : LaneId) :
    (s.setHead l x).lane y0 = s.lane y0 := rfl
@[simp] theorem State.setHead_chan (s : State) (l : LaneId) (x : HeadPort) (y0 : ChanId) :
    (s.setHead l x).chan y0 = s.chan y0 := rfl
@[simp] theorem State.setHead_trunk (s : State) (l : LaneId) (x : HeadPort) (y0 : Trunk) :
    (s.setHead l x).trunk y0 = s.trunk y0 := rfl
@[simp] theorem State.setHead_entry (s : State) (l : LaneId) (x : HeadPort) (y0 : Fin 64) :
    (s.setHead l x).entry y0 = s.entry y0 := rfl
@[simp] theorem State.setHead_pageAt (s : State) (l : LaneId) (x : HeadPort) (y0 : Fin 64) :
    (s.setHead l x).pageAt y0 = s.pageAt y0 := rfl
@[simp] theorem State.setHead_tokenOf (s : State) (l : LaneId) (x : HeadPort) (y0 : Fin 64) :
    (s.setHead l x).tokenOf y0 = s.tokenOf y0 := rfl
@[simp] theorem State.setHead_live (s : State) (l : LaneId) (x : HeadPort) (y0 : Nat) :
    (s.setHead l x).live y0 = s.live y0 := rfl
@[simp] theorem State.setHead_event (s : State) (l : LaneId) (x : HeadPort) (y0 : Fin 20) :
    (s.setHead l x).event y0 = s.event y0 := rfl
@[simp] theorem State.setHead_tablesOf (s : State) (l : LaneId) (x : HeadPort) (y0 : Gen) :
    (s.setHead l x).tablesOf y0 = s.tablesOf y0 := rfl

/-! ### State.setChan -/

@[simp] theorem State.setChan_pending (s : State) (c : ChanId) (x : Channel) : (s.setChan c x).pending = s.pending := rfl
@[simp] theorem State.setChan_resetCause (s : State) (c : ChanId) (x : Channel) : (s.setChan c x).resetCause = s.resetCause := rfl
@[simp] theorem State.setChan_freeDraws (s : State) (c : ChanId) (x : Channel) : (s.setChan c x).freeDraws = s.freeDraws := rfl
@[simp] theorem State.setChan_entries (s : State) (c : ChanId) (x : Channel) : (s.setChan c x).entries = s.entries := rfl
@[simp] theorem State.setChan_lanes (s : State) (c : ChanId) (x : Channel) : (s.setChan c x).lanes = s.lanes := rfl
@[simp] theorem State.setChan_heads (s : State) (c : ChanId) (x : Channel) : (s.setChan c x).heads = s.heads := rfl
@[simp] theorem State.setChan_pool (s : State) (c : ChanId) (x : Channel) : (s.setChan c x).pool = s.pool := rfl
@[simp] theorem State.setChan_mem (s : State) (c : ChanId) (x : Channel) : (s.setChan c x).mem = s.mem := rfl
@[simp] theorem State.setChan_channelGen (s : State) (c : ChanId) (x : Channel) : (s.setChan c x).channelGen = s.channelGen := rfl
@[simp] theorem State.setChan_trunkA (s : State) (c : ChanId) (x : Channel) : (s.setChan c x).trunkA = s.trunkA := rfl
@[simp] theorem State.setChan_trunkB (s : State) (c : ChanId) (x : Channel) : (s.setChan c x).trunkB = s.trunkB := rfl
@[simp] theorem State.setChan_banks (s : State) (c : ChanId) (x : Channel) : (s.setChan c x).banks = s.banks := rfl
@[simp] theorem State.setChan_activeBank (s : State) (c : ChanId) (x : Channel) : (s.setChan c x).activeBank = s.activeBank := rfl
@[simp] theorem State.setChan_activeGen (s : State) (c : ChanId) (x : Channel) : (s.setChan c x).activeGen = s.activeGen := rfl
@[simp] theorem State.setChan_otherRole (s : State) (c : ChanId) (x : Channel) : (s.setChan c x).otherRole = s.otherRole := rfl
@[simp] theorem State.setChan_genCounter (s : State) (c : ChanId) (x : Channel) : (s.setChan c x).genCounter = s.genCounter := rfl
@[simp] theorem State.setChan_lastServed (s : State) (c : ChanId) (x : Channel) : (s.setChan c x).lastServed = s.lastServed := rfl
@[simp] theorem State.setChan_mgmtTrunk (s : State) (c : ChanId) (x : Channel) : (s.setChan c x).mgmtTrunk = s.mgmtTrunk := rfl
@[simp] theorem State.setChan_events (s : State) (c : ChanId) (x : Channel) : (s.setChan c x).events = s.events := rfl
@[simp] theorem State.setChan_lane (s : State) (c : ChanId) (x : Channel) (y0 : LaneId) :
    (s.setChan c x).lane y0 = s.lane y0 := rfl
@[simp] theorem State.setChan_head (s : State) (c : ChanId) (x : Channel) (y0 : LaneId) :
    (s.setChan c x).head y0 = s.head y0 := rfl
@[simp] theorem State.setChan_trunk (s : State) (c : ChanId) (x : Channel) (y0 : Trunk) :
    (s.setChan c x).trunk y0 = s.trunk y0 := rfl
@[simp] theorem State.setChan_entry (s : State) (c : ChanId) (x : Channel) (y0 : Fin 64) :
    (s.setChan c x).entry y0 = s.entry y0 := rfl
@[simp] theorem State.setChan_pageAt (s : State) (c : ChanId) (x : Channel) (y0 : Fin 64) :
    (s.setChan c x).pageAt y0 = s.pageAt y0 := rfl
@[simp] theorem State.setChan_tokenOf (s : State) (c : ChanId) (x : Channel) (y0 : Fin 64) :
    (s.setChan c x).tokenOf y0 = s.tokenOf y0 := rfl
@[simp] theorem State.setChan_live (s : State) (c : ChanId) (x : Channel) (y0 : Nat) :
    (s.setChan c x).live y0 = s.live y0 := rfl
@[simp] theorem State.setChan_event (s : State) (c : ChanId) (x : Channel) (y0 : Fin 20) :
    (s.setChan c x).event y0 = s.event y0 := rfl
@[simp] theorem State.setChan_link (s : State) (c : ChanId) (x : Channel) (y0 : Port) :
    (s.setChan c x).link y0 = s.link y0 := rfl
@[simp] theorem State.setChan_tablesOf (s : State) (c : ChanId) (x : Channel) (y0 : Gen) :
    (s.setChan c x).tablesOf y0 = s.tablesOf y0 := rfl

/-! ### State.setTrunk -/

@[simp] theorem State.setTrunk_pending (s : State) (t : Trunk) (x : TrunkPort) : (s.setTrunk t x).pending = s.pending := by cases t <;> rfl
@[simp] theorem State.setTrunk_resetCause (s : State) (t : Trunk) (x : TrunkPort) : (s.setTrunk t x).resetCause = s.resetCause := by cases t <;> rfl
@[simp] theorem State.setTrunk_freeDraws (s : State) (t : Trunk) (x : TrunkPort) : (s.setTrunk t x).freeDraws = s.freeDraws := by cases t <;> rfl
@[simp] theorem State.setTrunk_entries (s : State) (t : Trunk) (x : TrunkPort) : (s.setTrunk t x).entries = s.entries := by cases t <;> rfl
@[simp] theorem State.setTrunk_lanes (s : State) (t : Trunk) (x : TrunkPort) : (s.setTrunk t x).lanes = s.lanes := by cases t <;> rfl
@[simp] theorem State.setTrunk_heads (s : State) (t : Trunk) (x : TrunkPort) : (s.setTrunk t x).heads = s.heads := by cases t <;> rfl
@[simp] theorem State.setTrunk_pool (s : State) (t : Trunk) (x : TrunkPort) : (s.setTrunk t x).pool = s.pool := by cases t <;> rfl
@[simp] theorem State.setTrunk_mem (s : State) (t : Trunk) (x : TrunkPort) : (s.setTrunk t x).mem = s.mem := by cases t <;> rfl
@[simp] theorem State.setTrunk_channels (s : State) (t : Trunk) (x : TrunkPort) : (s.setTrunk t x).channels = s.channels := by cases t <;> rfl
@[simp] theorem State.setTrunk_channelGen (s : State) (t : Trunk) (x : TrunkPort) : (s.setTrunk t x).channelGen = s.channelGen := by cases t <;> rfl
@[simp] theorem State.setTrunk_banks (s : State) (t : Trunk) (x : TrunkPort) : (s.setTrunk t x).banks = s.banks := by cases t <;> rfl
@[simp] theorem State.setTrunk_activeBank (s : State) (t : Trunk) (x : TrunkPort) : (s.setTrunk t x).activeBank = s.activeBank := by cases t <;> rfl
@[simp] theorem State.setTrunk_activeGen (s : State) (t : Trunk) (x : TrunkPort) : (s.setTrunk t x).activeGen = s.activeGen := by cases t <;> rfl
@[simp] theorem State.setTrunk_otherRole (s : State) (t : Trunk) (x : TrunkPort) : (s.setTrunk t x).otherRole = s.otherRole := by cases t <;> rfl
@[simp] theorem State.setTrunk_genCounter (s : State) (t : Trunk) (x : TrunkPort) : (s.setTrunk t x).genCounter = s.genCounter := by cases t <;> rfl
@[simp] theorem State.setTrunk_lastServed (s : State) (t : Trunk) (x : TrunkPort) : (s.setTrunk t x).lastServed = s.lastServed := by cases t <;> rfl
@[simp] theorem State.setTrunk_mgmtTrunk (s : State) (t : Trunk) (x : TrunkPort) : (s.setTrunk t x).mgmtTrunk = s.mgmtTrunk := by cases t <;> rfl
@[simp] theorem State.setTrunk_events (s : State) (t : Trunk) (x : TrunkPort) : (s.setTrunk t x).events = s.events := by cases t <;> rfl
@[simp] theorem State.setTrunk_lane (s : State) (t : Trunk) (x : TrunkPort) (y0 : LaneId) :
    (s.setTrunk t x).lane y0 = s.lane y0 := by cases t <;> rfl
@[simp] theorem State.setTrunk_head (s : State) (t : Trunk) (x : TrunkPort) (y0 : LaneId) :
    (s.setTrunk t x).head y0 = s.head y0 := by cases t <;> rfl
@[simp] theorem State.setTrunk_chan (s : State) (t : Trunk) (x : TrunkPort) (y0 : ChanId) :
    (s.setTrunk t x).chan y0 = s.chan y0 := by cases t <;> rfl
@[simp] theorem State.setTrunk_entry (s : State) (t : Trunk) (x : TrunkPort) (y0 : Fin 64) :
    (s.setTrunk t x).entry y0 = s.entry y0 := by cases t <;> rfl
@[simp] theorem State.setTrunk_pageAt (s : State) (t : Trunk) (x : TrunkPort) (y0 : Fin 64) :
    (s.setTrunk t x).pageAt y0 = s.pageAt y0 := by cases t <;> rfl
@[simp] theorem State.setTrunk_tokenOf (s : State) (t : Trunk) (x : TrunkPort) (y0 : Fin 64) :
    (s.setTrunk t x).tokenOf y0 = s.tokenOf y0 := by cases t <;> rfl
@[simp] theorem State.setTrunk_live (s : State) (t : Trunk) (x : TrunkPort) (y0 : Nat) :
    (s.setTrunk t x).live y0 = s.live y0 := by cases t <;> rfl
@[simp] theorem State.setTrunk_event (s : State) (t : Trunk) (x : TrunkPort) (y0 : Fin 20) :
    (s.setTrunk t x).event y0 = s.event y0 := by cases t <;> rfl
@[simp] theorem State.setTrunk_tablesOf (s : State) (t : Trunk) (x : TrunkPort) (y0 : Gen) :
    (s.setTrunk t x).tablesOf y0 = s.tablesOf y0 := by cases t <;> rfl

/-! ### State.setEntry -/

@[simp] theorem State.setEntry_pending (s : State) (i : Fin 64) (x : Entry) : (s.setEntry i x).pending = s.pending := rfl
@[simp] theorem State.setEntry_resetCause (s : State) (i : Fin 64) (x : Entry) : (s.setEntry i x).resetCause = s.resetCause := rfl
@[simp] theorem State.setEntry_freeDraws (s : State) (i : Fin 64) (x : Entry) : (s.setEntry i x).freeDraws = s.freeDraws := rfl
@[simp] theorem State.setEntry_lanes (s : State) (i : Fin 64) (x : Entry) : (s.setEntry i x).lanes = s.lanes := rfl
@[simp] theorem State.setEntry_heads (s : State) (i : Fin 64) (x : Entry) : (s.setEntry i x).heads = s.heads := rfl
@[simp] theorem State.setEntry_pool (s : State) (i : Fin 64) (x : Entry) : (s.setEntry i x).pool = s.pool := rfl
@[simp] theorem State.setEntry_mem (s : State) (i : Fin 64) (x : Entry) : (s.setEntry i x).mem = s.mem := rfl
@[simp] theorem State.setEntry_channels (s : State) (i : Fin 64) (x : Entry) : (s.setEntry i x).channels = s.channels := rfl
@[simp] theorem State.setEntry_channelGen (s : State) (i : Fin 64) (x : Entry) : (s.setEntry i x).channelGen = s.channelGen := rfl
@[simp] theorem State.setEntry_trunkA (s : State) (i : Fin 64) (x : Entry) : (s.setEntry i x).trunkA = s.trunkA := rfl
@[simp] theorem State.setEntry_trunkB (s : State) (i : Fin 64) (x : Entry) : (s.setEntry i x).trunkB = s.trunkB := rfl
@[simp] theorem State.setEntry_banks (s : State) (i : Fin 64) (x : Entry) : (s.setEntry i x).banks = s.banks := rfl
@[simp] theorem State.setEntry_activeBank (s : State) (i : Fin 64) (x : Entry) : (s.setEntry i x).activeBank = s.activeBank := rfl
@[simp] theorem State.setEntry_activeGen (s : State) (i : Fin 64) (x : Entry) : (s.setEntry i x).activeGen = s.activeGen := rfl
@[simp] theorem State.setEntry_otherRole (s : State) (i : Fin 64) (x : Entry) : (s.setEntry i x).otherRole = s.otherRole := rfl
@[simp] theorem State.setEntry_genCounter (s : State) (i : Fin 64) (x : Entry) : (s.setEntry i x).genCounter = s.genCounter := rfl
@[simp] theorem State.setEntry_lastServed (s : State) (i : Fin 64) (x : Entry) : (s.setEntry i x).lastServed = s.lastServed := rfl
@[simp] theorem State.setEntry_mgmtTrunk (s : State) (i : Fin 64) (x : Entry) : (s.setEntry i x).mgmtTrunk = s.mgmtTrunk := rfl
@[simp] theorem State.setEntry_events (s : State) (i : Fin 64) (x : Entry) : (s.setEntry i x).events = s.events := rfl
@[simp] theorem State.setEntry_lane (s : State) (i : Fin 64) (x : Entry) (y0 : LaneId) :
    (s.setEntry i x).lane y0 = s.lane y0 := rfl
@[simp] theorem State.setEntry_head (s : State) (i : Fin 64) (x : Entry) (y0 : LaneId) :
    (s.setEntry i x).head y0 = s.head y0 := rfl
@[simp] theorem State.setEntry_chan (s : State) (i : Fin 64) (x : Entry) (y0 : ChanId) :
    (s.setEntry i x).chan y0 = s.chan y0 := rfl
@[simp] theorem State.setEntry_trunk (s : State) (i : Fin 64) (x : Entry) (y0 : Trunk) :
    (s.setEntry i x).trunk y0 = s.trunk y0 := rfl
@[simp] theorem State.setEntry_event (s : State) (i : Fin 64) (x : Entry) (y0 : Fin 20) :
    (s.setEntry i x).event y0 = s.event y0 := rfl
@[simp] theorem State.setEntry_link (s : State) (i : Fin 64) (x : Entry) (y0 : Port) :
    (s.setEntry i x).link y0 = s.link y0 := rfl
@[simp] theorem State.setEntry_tablesOf (s : State) (i : Fin 64) (x : Entry) (y0 : Gen) :
    (s.setEntry i x).tablesOf y0 = s.tablesOf y0 := rfl

/-! ### State.modPage -/

@[simp] theorem State.modPage_pending (s : State) (i : Fin 64) (f : Page → Page) : (s.modPage i f).pending = s.pending := rfl
@[simp] theorem State.modPage_resetCause (s : State) (i : Fin 64) (f : Page → Page) : (s.modPage i f).resetCause = s.resetCause := rfl
@[simp] theorem State.modPage_freeDraws (s : State) (i : Fin 64) (f : Page → Page) : (s.modPage i f).freeDraws = s.freeDraws := rfl
@[simp] theorem State.modPage_lanes (s : State) (i : Fin 64) (f : Page → Page) : (s.modPage i f).lanes = s.lanes := rfl
@[simp] theorem State.modPage_heads (s : State) (i : Fin 64) (f : Page → Page) : (s.modPage i f).heads = s.heads := rfl
@[simp] theorem State.modPage_pool (s : State) (i : Fin 64) (f : Page → Page) : (s.modPage i f).pool = s.pool := rfl
@[simp] theorem State.modPage_mem (s : State) (i : Fin 64) (f : Page → Page) : (s.modPage i f).mem = s.mem := rfl
@[simp] theorem State.modPage_channels (s : State) (i : Fin 64) (f : Page → Page) : (s.modPage i f).channels = s.channels := rfl
@[simp] theorem State.modPage_channelGen (s : State) (i : Fin 64) (f : Page → Page) : (s.modPage i f).channelGen = s.channelGen := rfl
@[simp] theorem State.modPage_trunkA (s : State) (i : Fin 64) (f : Page → Page) : (s.modPage i f).trunkA = s.trunkA := rfl
@[simp] theorem State.modPage_trunkB (s : State) (i : Fin 64) (f : Page → Page) : (s.modPage i f).trunkB = s.trunkB := rfl
@[simp] theorem State.modPage_banks (s : State) (i : Fin 64) (f : Page → Page) : (s.modPage i f).banks = s.banks := rfl
@[simp] theorem State.modPage_activeBank (s : State) (i : Fin 64) (f : Page → Page) : (s.modPage i f).activeBank = s.activeBank := rfl
@[simp] theorem State.modPage_activeGen (s : State) (i : Fin 64) (f : Page → Page) : (s.modPage i f).activeGen = s.activeGen := rfl
@[simp] theorem State.modPage_otherRole (s : State) (i : Fin 64) (f : Page → Page) : (s.modPage i f).otherRole = s.otherRole := rfl
@[simp] theorem State.modPage_genCounter (s : State) (i : Fin 64) (f : Page → Page) : (s.modPage i f).genCounter = s.genCounter := rfl
@[simp] theorem State.modPage_lastServed (s : State) (i : Fin 64) (f : Page → Page) : (s.modPage i f).lastServed = s.lastServed := rfl
@[simp] theorem State.modPage_mgmtTrunk (s : State) (i : Fin 64) (f : Page → Page) : (s.modPage i f).mgmtTrunk = s.mgmtTrunk := rfl
@[simp] theorem State.modPage_events (s : State) (i : Fin 64) (f : Page → Page) : (s.modPage i f).events = s.events := rfl
@[simp] theorem State.modPage_lane (s : State) (i : Fin 64) (f : Page → Page) (y0 : LaneId) :
    (s.modPage i f).lane y0 = s.lane y0 := rfl
@[simp] theorem State.modPage_head (s : State) (i : Fin 64) (f : Page → Page) (y0 : LaneId) :
    (s.modPage i f).head y0 = s.head y0 := rfl
@[simp] theorem State.modPage_chan (s : State) (i : Fin 64) (f : Page → Page) (y0 : ChanId) :
    (s.modPage i f).chan y0 = s.chan y0 := rfl
@[simp] theorem State.modPage_trunk (s : State) (i : Fin 64) (f : Page → Page) (y0 : Trunk) :
    (s.modPage i f).trunk y0 = s.trunk y0 := rfl
@[simp] theorem State.modPage_event (s : State) (i : Fin 64) (f : Page → Page) (y0 : Fin 20) :
    (s.modPage i f).event y0 = s.event y0 := rfl
@[simp] theorem State.modPage_link (s : State) (i : Fin 64) (f : Page → Page) (y0 : Port) :
    (s.modPage i f).link y0 = s.link y0 := rfl
@[simp] theorem State.modPage_tablesOf (s : State) (i : Fin 64) (f : Page → Page) (y0 : Gen) :
    (s.modPage i f).tablesOf y0 = s.tablesOf y0 := rfl

/-! ### State.setEvent -/

@[simp] theorem State.setEvent_pending (s : State) (c : Fin 20) (x : EventState) : (s.setEvent c x).pending = s.pending := rfl
@[simp] theorem State.setEvent_resetCause (s : State) (c : Fin 20) (x : EventState) : (s.setEvent c x).resetCause = s.resetCause := rfl
@[simp] theorem State.setEvent_freeDraws (s : State) (c : Fin 20) (x : EventState) : (s.setEvent c x).freeDraws = s.freeDraws := rfl
@[simp] theorem State.setEvent_entries (s : State) (c : Fin 20) (x : EventState) : (s.setEvent c x).entries = s.entries := rfl
@[simp] theorem State.setEvent_lanes (s : State) (c : Fin 20) (x : EventState) : (s.setEvent c x).lanes = s.lanes := rfl
@[simp] theorem State.setEvent_heads (s : State) (c : Fin 20) (x : EventState) : (s.setEvent c x).heads = s.heads := rfl
@[simp] theorem State.setEvent_pool (s : State) (c : Fin 20) (x : EventState) : (s.setEvent c x).pool = s.pool := rfl
@[simp] theorem State.setEvent_mem (s : State) (c : Fin 20) (x : EventState) : (s.setEvent c x).mem = s.mem := rfl
@[simp] theorem State.setEvent_channels (s : State) (c : Fin 20) (x : EventState) : (s.setEvent c x).channels = s.channels := rfl
@[simp] theorem State.setEvent_channelGen (s : State) (c : Fin 20) (x : EventState) : (s.setEvent c x).channelGen = s.channelGen := rfl
@[simp] theorem State.setEvent_trunkA (s : State) (c : Fin 20) (x : EventState) : (s.setEvent c x).trunkA = s.trunkA := rfl
@[simp] theorem State.setEvent_trunkB (s : State) (c : Fin 20) (x : EventState) : (s.setEvent c x).trunkB = s.trunkB := rfl
@[simp] theorem State.setEvent_banks (s : State) (c : Fin 20) (x : EventState) : (s.setEvent c x).banks = s.banks := rfl
@[simp] theorem State.setEvent_activeBank (s : State) (c : Fin 20) (x : EventState) : (s.setEvent c x).activeBank = s.activeBank := rfl
@[simp] theorem State.setEvent_activeGen (s : State) (c : Fin 20) (x : EventState) : (s.setEvent c x).activeGen = s.activeGen := rfl
@[simp] theorem State.setEvent_otherRole (s : State) (c : Fin 20) (x : EventState) : (s.setEvent c x).otherRole = s.otherRole := rfl
@[simp] theorem State.setEvent_genCounter (s : State) (c : Fin 20) (x : EventState) : (s.setEvent c x).genCounter = s.genCounter := rfl
@[simp] theorem State.setEvent_lastServed (s : State) (c : Fin 20) (x : EventState) : (s.setEvent c x).lastServed = s.lastServed := rfl
@[simp] theorem State.setEvent_mgmtTrunk (s : State) (c : Fin 20) (x : EventState) : (s.setEvent c x).mgmtTrunk = s.mgmtTrunk := rfl
@[simp] theorem State.setEvent_lane (s : State) (c : Fin 20) (x : EventState) (y0 : LaneId) :
    (s.setEvent c x).lane y0 = s.lane y0 := rfl
@[simp] theorem State.setEvent_head (s : State) (c : Fin 20) (x : EventState) (y0 : LaneId) :
    (s.setEvent c x).head y0 = s.head y0 := rfl
@[simp] theorem State.setEvent_chan (s : State) (c : Fin 20) (x : EventState) (y0 : ChanId) :
    (s.setEvent c x).chan y0 = s.chan y0 := rfl
@[simp] theorem State.setEvent_trunk (s : State) (c : Fin 20) (x : EventState) (y0 : Trunk) :
    (s.setEvent c x).trunk y0 = s.trunk y0 := rfl
@[simp] theorem State.setEvent_entry (s : State) (c : Fin 20) (x : EventState) (y0 : Fin 64) :
    (s.setEvent c x).entry y0 = s.entry y0 := rfl
@[simp] theorem State.setEvent_pageAt (s : State) (c : Fin 20) (x : EventState) (y0 : Fin 64) :
    (s.setEvent c x).pageAt y0 = s.pageAt y0 := rfl
@[simp] theorem State.setEvent_tokenOf (s : State) (c : Fin 20) (x : EventState) (y0 : Fin 64) :
    (s.setEvent c x).tokenOf y0 = s.tokenOf y0 := rfl
@[simp] theorem State.setEvent_live (s : State) (c : Fin 20) (x : EventState) (y0 : Nat) :
    (s.setEvent c x).live y0 = s.live y0 := rfl
@[simp] theorem State.setEvent_link (s : State) (c : Fin 20) (x : EventState) (y0 : Port) :
    (s.setEvent c x).link y0 = s.link y0 := rfl
@[simp] theorem State.setEvent_tablesOf (s : State) (c : Fin 20) (x : EventState) (y0 : Gen) :
    (s.setEvent c x).tablesOf y0 = s.tablesOf y0 := rfl

/-! ### Reading back -/

@[simp] theorem State.setLane_lane_self (s : State) (l : LaneId) (x : Lane) : (s.setLane l x).lane l = x := by
  simp [State.setLane, State.lane]

@[simp] theorem State.setLane_lane_ne (s : State) (l k : LaneId) (x : Lane) (h : l ≠ k) :
    (s.setLane l x).lane k = s.lane k := by
  have h' : (l : Nat) ≠ k := fun e => h (Fin.ext e)
  simp [State.setLane, State.lane, h']

@[simp] theorem State.modLane_lane_self (s : State) (l : LaneId) (f : Lane → Lane) :
    (s.modLane l f).lane l = f (s.lane l) := by
  simp [State.modLane]

@[simp] theorem State.modLane_lane_ne (s : State) (l k : LaneId) (f : Lane → Lane) (h : l ≠ k) :
    (s.modLane l f).lane k = s.lane k := by
  simp [State.modLane, h]

@[simp] theorem State.modDfm_lane_self (s : State) (l : LaneId) (f : Dfm → Dfm) :
    (s.modDfm l f).lane l = { s.lane l with dfm := f (s.lane l).dfm } := by
  simp [State.modDfm]

@[simp] theorem State.modDfm_lane_ne (s : State) (l k : LaneId) (f : Dfm → Dfm) (h : l ≠ k) :
    (s.modDfm l f).lane k = s.lane k := by
  simp [State.modDfm, h]

@[simp] theorem State.modBatch_lane_self (s : State) (l : LaneId) (f : Batch → Batch) :
    (s.modBatch l f).lane l = { s.lane l with batch := f (s.lane l).batch } := by
  simp [State.modBatch]

@[simp] theorem State.modBatch_lane_ne (s : State) (l k : LaneId) (f : Batch → Batch) (h : l ≠ k) :
    (s.modBatch l f).lane k = s.lane k := by
  simp [State.modBatch, h]

@[simp] theorem State.setHead_head_self (s : State) (l : LaneId) (x : HeadPort) :
    (s.setHead l x).head l = x := by
  simp [State.setHead, State.head]

@[simp] theorem State.setHead_head_ne (s : State) (l k : LaneId) (x : HeadPort) (h : l ≠ k) :
    (s.setHead l x).head k = s.head k := by
  have h' : (l : Nat) ≠ k := fun e => h (Fin.ext e)
  simp [State.setHead, State.head, h']

@[simp] theorem State.setChan_chan_self (s : State) (c : ChanId) (x : Channel) :
    (s.setChan c x).chan c = x := by
  simp [State.setChan, State.chan]

@[simp] theorem State.setChan_chan_ne (s : State) (c k : ChanId) (x : Channel) (h : c ≠ k) :
    (s.setChan c x).chan k = s.chan k := by
  have h' : (c : Nat) ≠ k := fun e => h (Fin.ext e)
  simp [State.setChan, State.chan, h']

@[simp] theorem State.setTrunk_trunk_self (s : State) (t : Trunk) (x : TrunkPort) :
    (s.setTrunk t x).trunk t = x := by
  cases t <;> rfl

@[simp] theorem State.setTrunk_trunk_ne (s : State) (t u : Trunk) (x : TrunkPort) (h : t ≠ u) :
    (s.setTrunk t x).trunk u = s.trunk u := by
  cases t <;> cases u <;> first | rfl | exact absurd rfl h

@[simp] theorem State.setEntry_entry_self (s : State) (i : Fin 64) (x : Entry) :
    (s.setEntry i x).entry i = x := by
  simp [State.setEntry, State.entry]

@[simp] theorem State.setEntry_entry_ne (s : State) (i j : Fin 64) (x : Entry) (h : i ≠ j) :
    (s.setEntry i x).entry j = s.entry j := by
  have h' : (i : Nat) ≠ j := fun e => h (Fin.ext e)
  simp [State.setEntry, State.entry, h']

@[simp] theorem State.modPage_pageAt_self (s : State) (i : Fin 64) (f : Page → Page) :
    (s.modPage i f).pageAt i = (s.pageAt i).map f := by
  simp [State.modPage, State.pageAt]

@[simp] theorem State.modPage_pageAt_ne (s : State) (i j : Fin 64) (f : Page → Page) (h : i ≠ j) :
    (s.modPage i f).pageAt j = s.pageAt j := by
  simp [State.modPage, State.pageAt, h]

@[simp] theorem State.modPage_tokenOf (s : State) (i j : Fin 64) (f : Page → Page) :
    (s.modPage i f).tokenOf j = s.tokenOf j := by
  by_cases h : i = j
  · subst h; simp [State.modPage, State.tokenOf]
  · simp [State.modPage, State.tokenOf, h]

@[simp] theorem State.setEvent_event_self (s : State) (c : Fin 20) (x : EventState) :
    (s.setEvent c x).event c = x := by
  simp [State.setEvent, State.event]

@[simp] theorem State.setEvent_event_ne (s : State) (c d : Fin 20) (x : EventState) (h : c ≠ d) :
    (s.setEvent c x).event d = s.event d := by
  have h' : (c : Nat) ≠ d := fun e => h (Fin.ext e)
  simp [State.setEvent, State.event, h']

end Sys2Proof.Machine
end

