-- ==== Sys2Proof/Laws/Frame.lean ====
section
/-! SUPPORT. What no sub-act changes, and what the transmit slots leave: the frame of every act. -/

namespace Sys2Proof.Machine

/-- An event class after occurrences and changes of its raw set: its mask and priority are as they were, a set
latch is still set and no source has left the set (R193). -/
structure EventGrew (a b : EventState) : Prop where
  enabled : b.enabled = a.enabled
  priority : b.priority = a.priority
  latch : a.latch = true → b.latch = true
  sources : ∀ k, a.sources.getLsbD k = true → b.sources.getLsbD k = true

theorem EventGrew.refl (a : EventState) : EventGrew a a := ⟨rfl, rfl, id, fun _ => id⟩

theorem EventGrew.trans {a b c : EventState} (h : EventGrew a b) (k : EventGrew b c) : EventGrew a c :=
  ⟨k.enabled.trans h.enabled, k.priority.trans h.priority, fun x => k.latch (h.latch x),
    fun i x => k.sources i (h.sources i x)⟩

theorem EventState.occur_grew (e : EventState) (src : Nat) : EventGrew e (e.occur src) :=
  ⟨rfl, rfl, fun _ => rfl, fun k h => by simp [EventState.occur, h]⟩

/-! ### The sub-acts, one equation each -/

theorem handle_fgc (s : State) :
    handle .fgc s = onFgc s := rfl

theorem handle_speedCheck (l : LaneId) (s : State) :
    handle (.speedCheck l) s = onSpeedCheck l s := rfl

theorem handle_holds (s : State) :
    handle .holds s = onHolds s := rfl

theorem handle_pickTest (l : LaneId) (s : State) :
    handle (.pickTest l) s = onPickTest l s := rfl

theorem handle_runoutTest (l : LaneId) (s : State) :
    handle (.runoutTest l) s = onRunoutTest l s := rfl

theorem handle_enterRunout (l : LaneId) (s : State) :
    handle (.enterRunout l) s = onEnterRunout l s := rfl

theorem handle_jam (l : LaneId) (cause : JamCause) (s : State) :
    handle (.jam l cause) s = onJam l cause s := rfl

theorem handle_assemble (token : Nat) (s : State) :
    handle (.assemble token) s = onAssemble token s := rfl

theorem handle_retire (s : State) :
    handle .retire s = onRetire s := rfl

theorem handle_release (l : LaneId) (s : State) :
    handle (.release l) s = onRelease l s := rfl

theorem handle_adoptMoment (l : LaneId) (s : State) :
    handle (.adoptMoment l) s = onAdoptMoment l s := rfl

theorem handle_adopt (l : LaneId) (s : State) :
    handle (.adopt l) s = onAdopt l s := rfl

theorem handle_adoptAll (ls : List LaneId) (s : State) :
    handle (.adoptAll ls) s = onAdoptAll ls s := rfl

theorem handle_adoptChannels (old : Gen) (s : State) :
    handle (.adoptChannels old) s = onAdoptChannels old s := rfl

theorem handle_adoptLtc (l : LaneId) (s : State) :
    handle (.adoptLtc l) s = onAdoptLtc l s := rfl

theorem handle_adoptDfm (l : LaneId) (s : State) :
    handle (.adoptDfm l) s = onAdoptDfm l s := rfl

theorem handle_adoptLsq (l : LaneId) (s : State) :
    handle (.adoptLsq l) s = onAdoptLsq l s := rfl

theorem handle_adoptFgc (l : LaneId) (s : State) :
    handle (.adoptFgc l) s = onAdoptFgc l s := rfl

theorem handle_adoptEnd (s : State) :
    handle .adoptEnd s = onAdoptEnd s := rfl

theorem handle_newBatch (l : LaneId) (token : Nat) (s : State) :
    handle (.newBatch l token) s = onNewBatch l token s := rfl

theorem handle_lsqMarks (l : LaneId) (token : Nat) (action : MarkAction) (blankDrop : Bool) (s : State) :
    handle (.lsqMarks l token action blankDrop) s = onLsqMarks l token action blankDrop s := rfl

theorem handle_lsqNumber (l : LaneId) (token : Nat) (s : State) :
    handle (.lsqNumber l token) s = onLsqNumber l token s := rfl

theorem handle_attempt (l : LaneId) (token : Nat) (s : State) :
    handle (.attempt l token) s = onAttempt l token s := rfl

theorem handle_retries (c : Option ChanId) (s : State) :
    handle (.retries c) s = onRetries c s := rfl

theorem handle_fillEval (c : ChanId) (s : State) :
    handle (.fillEval c) s = onFillEval c s := rfl

theorem handle_edge (l : LaneId) (s : State) :
    handle (.edge l) s = onEdge l s := rfl

theorem handle_scheduled (l : LaneId) (s : State) :
    handle (.scheduled l) s = onScheduled l s := rfl

theorem handle_gapPick (l : LaneId) (s : State) :
    handle (.gapPick l) s = onGapPick l s := rfl

theorem handle_samples (l : LaneId) (s : State) :
    handle (.samples l) s = onSamples l s := rfl

theorem handle_air (l : LaneId) (s : State) :
    handle (.air l) s = onAir l s := rfl

theorem handle_jamChecks (l : LaneId) (s : State) :
    handle (.jamChecks l) s = onJamChecks l s := rfl

/-- The holding reasons are re-evaluated lane by lane. -/
theorem handle_holds_next (s : State) : handle .holds s = feedNext s.holdAll s.holdAll.released
    (s.holdAll.released.filter fun l => !s.holdAll.pickReady l) := rfl

/-- What the sub-acts of an act leave as it was. -/
structure Kept (s t : State) : Prop where
  pending : t.pending = s.pending
  resetCause : t.resetCause = s.resetCause
  mem : t.mem = s.mem
  trunkA : t.trunkA = s.trunkA
  trunkB : t.trunkB = s.trunkB
  banks : t.banks = s.banks
  genCounter : t.genCounter = s.genCounter
  lastServed : t.lastServed = s.lastServed
  mgmtTrunk : t.mgmtTrunk = s.mgmtTrunk
  link : ∀ l, (t.head l).link = (s.head l).link
  stale : ∀ l, (t.head l).staleCount = (s.head l).staleCount
  pins : ∀ l, (t.lane l).entryBlocked = (s.lane l).entryBlocked
    ∧ (t.lane l).trayPaper = (s.lane l).trayPaper ∧ (t.lane l).amplitude = (s.lane l).amplitude
  event : ∀ c, EventGrew (s.event c) (t.event c)

namespace Kept

theorem refl (s : State) : Kept s s :=
  ⟨rfl, rfl, rfl, rfl, rfl, rfl, rfl, rfl, rfl, fun _ => rfl, fun _ => rfl, fun _ => ⟨rfl, rfl, rfl⟩,
    fun _ => EventGrew.refl _⟩

theorem trans {s t u : State} (h : Kept s t) (k : Kept t u) : Kept s u where
  pending := k.pending.trans h.pending
  resetCause := k.resetCause.trans h.resetCause
  mem := k.mem.trans h.mem
  trunkA := k.trunkA.trans h.trunkA
  trunkB := k.trunkB.trans h.trunkB
  banks := k.banks.trans h.banks
  genCounter := k.genCounter.trans h.genCounter
  lastServed := k.lastServed.trans h.lastServed
  mgmtTrunk := k.mgmtTrunk.trans h.mgmtTrunk
  link l := (k.link l).trans (h.link l)
  stale l := (k.stale l).trans (h.stale l)
  pins l := ⟨(k.pins l).1.trans (h.pins l).1, (k.pins l).2.1.trans (h.pins l).2.1,
    (k.pins l).2.2.trans (h.pins l).2.2⟩
  event c := (h.event c).trans (k.event c)

theorem trunk {s t : State} (h : Kept s t) (k : Trunk) : t.trunk k = s.trunk k := by
  cases k
  · exact h.trunkA
  · exact h.trunkB

/-! ### Each update -/

theorem modLane {s t : State} (h : Kept s t) (l : LaneId) (f : Lane → Lane)
    (hf : ∀ x, (f x).entryBlocked = x.entryBlocked ∧ (f x).trayPaper = x.trayPaper
      ∧ (f x).amplitude = x.amplitude) : Kept s (t.modLane l f) := by
  refine h.trans ⟨rfl, rfl, rfl, rfl, rfl, rfl, rfl, rfl, rfl, fun _ => rfl, fun _ => rfl, fun k => ?_,
    fun _ => EventGrew.refl _⟩
  by_cases e : l = k
  · subst e; simpa using hf (t.lane l)
  · simp [e]

theorem modDfm {s t : State} (h : Kept s t) (l : LaneId) (f : Dfm → Dfm) : Kept s (t.modDfm l f) :=
  h.modLane l _ (by exact fun _ => ⟨rfl, rfl, rfl⟩)

theorem modBatch {s t : State} (h : Kept s t) (l : LaneId) (f : Batch → Batch) : Kept s (t.modBatch l f) :=
  h.modLane l _ (by exact fun _ => ⟨rfl, rfl, rfl⟩)

theorem modPage {s t : State} (h : Kept s t) (i : Fin 64) (f : Page → Page) : Kept s (t.modPage i f) :=
  h.trans ⟨rfl, rfl, rfl, rfl, rfl, rfl, rfl, rfl, rfl, fun _ => rfl, fun _ => rfl, fun _ => ⟨rfl, rfl, rfl⟩,
    fun _ => EventGrew.refl _⟩

theorem setEntry {s t : State} (h : Kept s t) (i : Fin 64) (x : Entry) : Kept s (t.setEntry i x) :=
  h.trans ⟨rfl, rfl, rfl, rfl, rfl, rfl, rfl, rfl, rfl, fun _ => rfl, fun _ => rfl, fun _ => ⟨rfl, rfl, rfl⟩,
    fun _ => EventGrew.refl _⟩

theorem setChan {s t : State} (h : Kept s t) (c : ChanId) (x : Channel) : Kept s (t.setChan c x) :=
  h.trans ⟨rfl, rfl, rfl, rfl, rfl, rfl, rfl, rfl, rfl, fun _ => rfl, fun _ => rfl, fun _ => ⟨rfl, rfl, rfl⟩,
    fun _ => EventGrew.refl _⟩

theorem setEvent {s t : State} (h : Kept s t) (c : Fin 20) (x : EventState) (hx : EventGrew (t.event c) x) :
    Kept s (t.setEvent c x) := by
  refine h.trans ⟨rfl, rfl, rfl, rfl, rfl, rfl, rfl, rfl, rfl, fun _ => rfl, fun _ => rfl,
    fun _ => ⟨rfl, rfl, rfl⟩, fun d => ?_⟩
  by_cases e : c = d
  · subst e; simpa using hx
  · simp [e, EventGrew.refl]

theorem occur {s t : State} (h : Kept s t) (c : Fin 20) (src : Nat) : Kept s (t.occur c src) := by
  unfold State.occur
  split
  · exact h.setEvent c _ (EventState.occur_grew _ _)
  · exact h

theorem setRaw {s t : State} (h : Kept s t) (c : Fin 20) (src : Nat) (b : Bool) :
    Kept s (t.setRaw c src b) := by
  unfold State.setRaw
  split
  · exact h
  split
  · exact h
  split
  · exact h.setEvent c _ ⟨rfl, rfl, fun _ => rfl, fun k x => by simp [EventState.occur, x]⟩
  · exact h.setEvent c _ ⟨rfl, rfl, id, fun _ => id⟩

theorem sendHead {s t : State} (h : Kept s t) (l : LaneId) (kind : HeadKind) (token : Nat) :
    Kept s (t.sendHead l kind token) := by
  unfold State.sendHead
  split
  · refine h.trans ⟨rfl, rfl, rfl, rfl, rfl, rfl, rfl, rfl, rfl, fun k => ?_, fun k => ?_,
      fun _ => ⟨rfl, rfl, rfl⟩, fun _ => EventGrew.refl _⟩
    all_goals
      by_cases e : l = k
      · subst e; simp
      · simp [e]
  · exact h

theorem modToken {s t : State} (h : Kept s t) (token : Nat) (f : Page → Page) : Kept s (t.modToken token f) := by
  unfold State.modToken
  split
  · exact h.modPage _ _
  · exact h

theorem freeEntry {s t : State} (h : Kept s t) (i : Fin 64) : Kept s (t.freeEntry i) := by
  unfold State.freeEntry
  split
  · exact (h.setEntry i ⟨((t.entry i).incarnation + 1) % 4, none⟩).trans ⟨rfl, rfl, rfl, rfl, rfl, rfl, rfl, rfl, rfl, fun _ => rfl, fun _ => rfl,
      fun _ => ⟨rfl, rfl, rfl⟩, fun _ => EventGrew.refl _⟩
  · exact h

theorem takeOne {s t : State} (h : Kept s t) (l : LaneId) (ls : List LaneId) :
    Kept s (t.takeOne l ls).2 := by
  unfold State.takeOne
  split
  · exact h
  · exact h.trans ⟨rfl, rfl, rfl, rfl, rfl, rfl, rfl, rfl, rfl, fun _ => rfl, fun _ => rfl,
      fun _ => ⟨rfl, rfl, rfl⟩, fun _ => EventGrew.refl _⟩

theorem foldl {α : Type} {s : State} (f : State → α → State) (hf : ∀ u x, Kept s u → Kept s (f u x))
    (xs : List α) : ∀ {t : State}, Kept s t → Kept s (xs.foldl f t) := by
  induction xs with
  | nil => exact fun h => h
  | cons x xs ih => exact fun h => ih (hf _ x h)

/-! ### Each operation of the blocks -/

theorem retarget {s t : State} (h : Kept s t) (l : LaneId) : Kept s (t.retarget l) :=
  h.modLane l _ fun x => by
    unfold Lane.retarget
    split
    · exact ⟨rfl, rfl, rfl⟩
    split
    · exact ⟨rfl, rfl, rfl⟩
    split
    · exact ⟨rfl, rfl, rfl⟩
    split
    · exact ⟨rfl, rfl, rfl⟩
    · exact ⟨rfl, rfl, rfl⟩

theorem leaveRampUp {s t : State} (h : Kept s t) (l : LaneId) : Kept s (t.leaveRampUp l) := by
  unfold State.leaveRampUp
  split
  · exact h.modLane l _ (by exact fun _ => ⟨rfl, rfl, rfl⟩)
  · exact h

theorem onFgc {s t : State} (h : Kept s t) : Kept s (Machine.onFgc t).1 :=
  Kept.foldl _ (fun _ l k => k.leaveRampUp l) _ (h.foldl _ (fun _ l k => k.retarget l) _)

theorem evalDrift {s t : State} (h : Kept s t) (l : LaneId) : Kept s (t.evalDrift l) :=
  (h.modDfm l _).setRaw _ _ _

theorem evalHeadDown {s t : State} (h : Kept s t) (l : LaneId) : Kept s (t.evalHeadDown l) := h.setRaw _ _ _

theorem openWindow {s t : State} (h : Kept s t) (l : LaneId) (g : Gen) (token lead : Nat) :
    Kept s (t.openWindow l g token lead) := h.modDfm l _

theorem completeSonic {s t : State} (h : Kept s t) (w : Window) : Kept s (t.completeSonic w) :=
  h.modToken _ _

theorem enterDegraded {s t : State} (h : Kept s t) (l : LaneId) : Kept s (t.enterDegraded l) :=
  ((h.modDfm l _).setRaw _ _ _).evalDrift l

theorem baselineSample {s t : State} (h : Kept s t) (l : LaneId) (a : Nat) :
    Kept s (t.baselineSample l a) := by
  unfold State.baselineSample
  split
  · exact (h.modDfm l _).evalDrift l
  · dsimp only
    split
    · exact (h.modDfm l _).enterDegraded l
    · exact h.modDfm l _

theorem calibrationSample {s t : State} (h : Kept s t) (l : LaneId) (count sum a : Nat) :
    Kept s (t.calibrationSample l count sum a) := by
  unfold State.calibrationSample
  split
  · split
    · exact ((h.modDfm l _).setRaw _ _ _).evalDrift l
    · exact h.modDfm l _
  · dsimp only
    split
    · exact h.modDfm l _
    · exact (h.modDfm l _).enterDegraded l

theorem airSample {s t : State} (h : Kept s t) (l : LaneId) (a : Nat) : Kept s (t.airSample l a) := by
  unfold State.airSample
  split
  · exact h.calibrationSample l _ _ a
  · split
    · exact h
    · exact h.baselineSample l a
  · exact h

theorem beginCalibration {s t : State} (h : Kept s t) (l : LaneId) : Kept s (t.beginCalibration l) :=
  (h.modDfm l _).evalDrift l

theorem gateOpen {s t : State} (h : Kept s t) (l : LaneId) (token : Nat) : Kept s (t.gateOpen l token) := by
  unfold State.gateOpen
  split
  · exact h
  · dsimp only
    refine Kept.sendHead ?_ _ _ _
    split
    · split
      · exact h.modPage _ _
      · exact h.modPage _ _
    · exact h

theorem gateClose {s t : State} (h : Kept s t) (l : LaneId) (token timeout : Nat) :
    Kept s (t.gateClose l token timeout) := by
  unfold State.gateClose
  split
  · exact h
  · dsimp only
    refine Kept.sendHead ?_ _ _ _
    split
    · exact h.modPage _ _
    · exact h

theorem cancelImage {s t : State} (h : Kept s t) (l : LaneId) (token : Nat) :
    Kept s (t.cancelImage l token) := by
  unfold State.cancelImage
  split
  · exact h
  · split
    · exact (h.modPage _ _).sendHead _ _ _
    · exact h

theorem toRest {s t : State} (h : Kept s t) (l : LaneId) : Kept s (t.toRest l) := by
  unfold State.toRest
  dsimp only
  split
  · exact ((h.modLane l _ (by exact fun _ => ⟨rfl, rfl, rfl⟩)).modDfm l _).occur _ _
  · exact (h.modLane l _ (by exact fun _ => ⟨rfl, rfl, rfl⟩)).modDfm l _

theorem _drained (x : Lane) : x.drained.entryBlocked = x.entryBlocked ∧ x.drained.trayPaper = x.trayPaper
    ∧ x.drained.amplitude = x.amplitude := by
  unfold Lane.drained
  split <;> exact ⟨rfl, rfl, rfl⟩

theorem toRunout {s t : State} (h : Kept s t) (l : LaneId) : Kept s (t.toRunout l) :=
  h.modLane l _ (by exact fun _ => _drained _)

theorem drained {s t : State} (h : Kept s t) (l : LaneId) : Kept s (t.modLane l Lane.drained) :=
  h.modLane l _ _drained

theorem toRampUp {s t : State} (h : Kept s t) (l : LaneId) : Kept s (t.toRampUp l) :=
  (h.modLane l _ (by exact fun _ => ⟨rfl, rfl, rfl⟩)).beginCalibration l

theorem holdFeeding {s t : State} (h : Kept s t) (l : LaneId) : Kept s (t.holdFeeding l) := by
  unfold State.holdFeeding
  split
  · exact h.modLane l _ (by exact fun _ => ⟨rfl, rfl, rfl⟩)
  · exact h

theorem _takePos (x : Lane) : x.takePos.entryBlocked = x.entryBlocked ∧ x.takePos.trayPaper = x.trayPaper
    ∧ x.takePos.amplitude = x.amplitude := by
  unfold Lane.takePos
  split <;> exact ⟨rfl, rfl, rfl⟩

theorem allocate {s t : State} (h : Kept s t) (l : LaneId) (i : Fin 64) (pos : SeqPos) (e : Option Nat) :
    Kept s (t.allocate l i pos e) := by
  unfold State.allocate
  dsimp only
  exact (h.setEntry i _).modLane l _ (by exact fun x => _takePos x)

theorem pick {s t : State} (h : Kept s t) (l : LaneId) (i : Fin 64) (pos : SeqPos) :
    Kept s (t.pick l i pos) :=
  (h.allocate l i pos none).modLane l _ (by exact fun _ => ⟨rfl, rfl, rfl⟩)

theorem giveUpPick {s t : State} (h : Kept s t) (l : LaneId) (i : Fin 64) : Kept s (t.giveUpPick l i) :=
  (h.modLane l _ (by exact fun _ => ⟨rfl, rfl, rfl⟩)).freeEntry i

theorem leadingEdge {s t : State} (h : Kept s t) (l : LaneId) (i : Fin 64) : Kept s (t.leadingEdge l i) :=
  ((h.modPage i _).modLane l _ (by exact fun _ => ⟨rfl, rfl, rfl⟩)).openWindow l _ _ _

theorem unexpectedSheet {s t : State} (h : Kept s t) (l : LaneId) (i : Fin 64) (pos : SeqPos) :
    Kept s (t.unexpectedSheet l i pos) := by
  unfold State.unexpectedSheet
  dsimp only
  split
  · exact (((h.allocate l i pos _).modLane l _ (by exact fun _ => ⟨rfl, rfl, rfl⟩)).openWindow l _ _ _).toRunout l
  · exact ((h.allocate l i pos _).modLane l _ (by exact fun _ => ⟨rfl, rfl, rfl⟩)).openWindow l _ _ _

theorem trailingEdge {s t : State} (h : Kept s t) (l : LaneId) (tok : Nat) :
    Kept s (t.trailingEdge l tok) := by
  unfold State.trailingEdge
  dsimp only
  split
  · exact ((h.modLane l _ (by exact fun _ => ⟨rfl, rfl, rfl⟩)).modToken _ _).modToken _ _
  · exact (h.modLane l _ (by exact fun _ => ⟨rfl, rfl, rfl⟩)).modToken _ _

theorem setGate {s t : State} (h : Kept s t) (l : LaneId) (sel : Sheet → Bool) (g : GateProgress) :
    Kept s (t.setGate l sel g) := h.modLane l _ (by exact fun _ => ⟨rfl, rfl, rfl⟩)

theorem toJammed {s t : State} (h : Kept s t) (l : LaneId) (c : JamCause) : Kept s (t.toJammed l c) := by
  unfold State.toJammed
  dsimp only
  refine Kept.occur ?_ _ _
  refine Kept.foldl _ (fun _ _ k => k.cancelImage l _) _ ?_
  refine Kept.foldl _ (fun _ _ k => k.modToken _ _) _ ?_
  exact (h.modLane l _ (by exact fun _ => ⟨rfl, rfl, rfl⟩)).evalDrift l

theorem adoptEnabled {s t : State} (h : Kept s t) (l : LaneId) : Kept s (t.adoptEnabled l) := by
  unfold State.adoptEnabled
  split
  all_goals first
    | exact h
    | (split
       all_goals first
        | exact h
        | exact h.toRunout l
        | exact h.modLane l _ (by exact fun _ => ⟨rfl, rfl, rfl⟩))

theorem retireTo {s t : State} (h : Kept s t) (g : Gen) : Kept s (t.retireTo g) := by
  refine h.trans ⟨rfl, rfl, rfl, rfl, rfl, rfl, rfl, rfl, rfl, fun _ => rfl, fun _ => rfl, fun l => ?_,
    fun _ => EventGrew.refl _⟩
  simp [State.retireTo, State.lane]

theorem switchTo {s t : State} (h : Kept s t) (l : LaneId) (g : Gen) : Kept s (t.switchTo l g) :=
  (h.modLane l (fun x => { x with gen := g, adopted := true, adoptingFrom := some x.gen })
      fun _ => ⟨rfl, rfl, rfl⟩).trans
    ⟨rfl, rfl, rfl, rfl, rfl, rfl, rfl, rfl, rfl, fun _ => rfl, fun _ => rfl, fun _ => ⟨rfl, rfl, rfl⟩,
      fun _ => EventGrew.refl _⟩

theorem admitCopies {s t : State} (h : Kept s t) (l : LaneId) (i : Fin 64) (token size : Nat)
    (cs : List ChanId) : Kept s (t.admitCopies l i token size cs) := by
  unfold State.admitCopies
  exact (((h.foldl _ (fun _ c k => k.setChan c _) cs).modPage i _).modBatch l _).setRaw _ _ _

theorem refuse {s t : State} (h : Kept s t) (l : LaneId) (token : Nat) : Kept s (t.refuse l token) := by
  unfold State.refuse
  split
  · exact h.modBatch l _
  · exact h

theorem setFillState {s t : State} (h : Kept s t) (c : ChanId) (f : FillState) :
    Kept s (t.setFillState c f) := ((h.setChan c _).setRaw _ _ _).setRaw _ _ _

theorem trayFoundEmpty {s t : State} (h : Kept s t) (l : LaneId) :
    Kept s (Machine.trayFoundEmpty l t).1 := by
  unfold Machine.trayFoundEmpty
  split
  · dsimp only
    exact h.toRunout l
  · dsimp only
    exact h.modLane l _ (by exact fun _ => ⟨rfl, rfl, rfl⟩)

theorem takePage {s t : State} (h : Kept s t) (l : LaneId) (i : Fin 64) (p : Page) :
    Kept s (Machine.takePage l i p t).1 := by
  unfold Machine.takePage
  dsimp only
  split
  · split
    · exact (h.modBatch l _).occur _ _
    · dsimp only
      exact h.modBatch l _
  · dsimp only
    exact h.modBatch l _

theorem leadingEdgeTaken {s t : State} (h : Kept s t) (l : LaneId) :
    Kept s (Machine.leadingEdgeTaken l t).1 := by
  unfold Machine.leadingEdgeTaken
  split
  · dsimp only
    exact h.leadingEdge l _
  · split
    · split
      · dsimp only
        exact h.unexpectedSheet l _ _
      · exact h
    · exact h

theorem trailingEdgeTaken {s t : State} (h : Kept s t) (l : LaneId) :
    Kept s (Machine.trailingEdgeTaken l t).1 := by
  unfold Machine.trailingEdgeTaken
  split
  · dsimp only
    exact h.trailingEdge l _
  · exact h

theorem toFeeding {s t : State} (h : Kept s t) (l : LaneId) : Kept s (t.toFeeding l) :=
  h.modLane l _ (by exact fun _ => ⟨rfl, rfl, rfl⟩)

theorem holdAll {s t : State} (h : Kept s t) : Kept s t.holdAll :=
  h.foldl State.holdFeeding (fun _ l k => k.holdFeeding l) allLanes

theorem feedNext {s t : State} (h : Kept s t) (a b : List LaneId) : Kept s (Machine.feedNext t a b).1 := by
  unfold Machine.feedNext
  split
  · exact h.toFeeding _
  · exact h
  · exact (h.takeOne _ _).toFeeding _

theorem adoptNext {s t : State} (h : Kept s t) (a b : List LaneId) : Kept s (Machine.adoptNext t a b).1 := by
  unfold Machine.adoptNext
  split
  · exact h
  · exact h
  · exact h.takeOne _ _

theorem retryNext {s t : State} (h : Kept s t) (c : Option ChanId) (a : List LaneId) :
    Kept s (Machine.retryNext c t a).1 := by
  unfold Machine.retryNext
  split
  · exact h
  · exact h.takeOne _ _

/-! ### Each sub-act -/

theorem handle (task : Task) (s : State) : Kept s (Machine.handle task s).1 := by
  have r := Kept.refl s
  cases task with
  | fgc => exact r.onFgc
  | speedCheck l =>
    simp only [Machine.handle, onSpeedCheck]
    split
    · try dsimp only
      exact r.leaveRampUp l
    split
    · try dsimp only
      exact r.toRest l
    · exact r
  | holds =>
    rw [handle_holds_next]
    exact r.holdAll.feedNext s.holdAll.released _
  | pickTest l =>
    simp only [Machine.handle, onPickTest]
    split
    · split
      · split
        · try dsimp only
          exact r.pick l _ _
        · try dsimp only
          exact r.modLane l _ (by exact fun _ => ⟨rfl, rfl, rfl⟩)
        · try dsimp only
          exact r.modLane l _ (by exact fun _ => ⟨rfl, rfl, rfl⟩)
      · try dsimp only
        exact r.trayFoundEmpty l
    · exact r
  | runoutTest l =>
    simp only [Machine.handle, onRunoutTest]
    split
    · try dsimp only
      exact r.drained l
    · exact r
  | enterRunout l =>
    simp only [Machine.handle, onEnterRunout]
    split
    · try dsimp only
      exact r.toRunout l
    · exact r
  | jam l c =>
    simp only [Machine.handle, onJam]
    split
    · try dsimp only
      exact r.toJammed l c
    · exact r
  | assemble token =>
    simp only [Machine.handle, onAssemble]
    split
    · exact r
    · split
      · dsimp only
        split
        · try dsimp only
          exact r.modPage _ _
        · try dsimp only
          exact (r.modPage _ _).occur _ _
      · exact r
  | retire =>
    simp only [Machine.handle, onRetire]
    split
    · split
      · try dsimp only
        exact r.retireTo _
      · exact r
    · exact r
  | release l =>
    simp only [Machine.handle, onRelease]
    split
    · split
      · try dsimp only
        exact r.takePage l _ _
      · exact r
    · exact r
    · exact r
  | adoptMoment l =>
    simp only [Machine.handle, onAdoptMoment]
    split <;> exact r
  | adopt l =>
    simp only [Machine.handle, onAdopt]
    split
    · exact r
    · split
      · exact r
      · try dsimp only
        exact r.switchTo l _
  | adoptAll ls => exact Kept.adoptNext r _ _
  | adoptChannels old =>
    simp only [Machine.handle, onAdoptChannels]
    split <;> exact r
  | adoptLtc l => exact (r.adoptEnabled l).evalHeadDown l
  | adoptDfm l => exact (r.modDfm l _).evalDrift l
  | adoptLsq l =>
    simp only [Machine.handle, onAdoptLsq]
    exact r.modBatch l _
  | adoptFgc l => exact (r.modLane l _ (by exact fun _ => ⟨rfl, rfl, rfl⟩)).onFgc
  | adoptEnd =>
    simp only [Machine.handle, onAdoptEnd]
    exact r.occur _ _
  | newBatch l token =>
    simp only [Machine.handle, onNewBatch]
    split
    · exact r
    · try dsimp only
      exact (r.modBatch l _).occur _ _
  | lsqMarks l token action b =>
    simp only [Machine.handle, onLsqMarks]
    split
    · exact r
    · split
      · try dsimp only
        exact (r.modBatch l _).freeEntry _
      · try dsimp only
        exact r.modBatch l _
  | lsqNumber l token =>
    simp only [Machine.handle, onLsqNumber]
    split
    · exact r
    · split
      · exact ((r.modPage _ _).modBatch l _).occur _ _
      · try dsimp only
        exact (r.modPage _ _).modBatch l _
  | attempt l token =>
    simp only [Machine.handle, onAttempt]
    split
    · exact r
    · split
      · split
        · exact r
        · split
          · try dsimp only
            exact r.admitCopies l _ _ _ _
          · try dsimp only
            exact r.refuse l token
      · exact r
  | retries c => exact Kept.retryNext r c _
  | fillEval c =>
    simp only [Machine.handle, onFillEval]
    split
    · exact r
    · try dsimp only
      exact r.setFillState c _
  | edge l =>
    simp only [Machine.handle, onEdge]
    split
    · split
      · try dsimp only
        exact Kept.leadingEdgeTaken (r.modLane l _ (by exact fun _ => ⟨rfl, rfl, rfl⟩)) l
      · try dsimp only
        exact Kept.trailingEdgeTaken (r.modLane l _ (by exact fun _ => ⟨rfl, rfl, rfl⟩)) l
    · exact r
  | scheduled l =>
    simp only [Machine.handle, onScheduled]
    split
    · split
      · try dsimp only
        exact (r.setGate l _ _).gateOpen l _
      · split
        · try dsimp only
          exact (r.setGate l _ _).gateClose l _ _
        · split
          · try dsimp only
            exact r.modLane l _ (by exact fun _ => ⟨rfl, rfl, rfl⟩)
          · exact r
    · exact r
  | gapPick l =>
    simp only [Machine.handle, onGapPick]
    split <;> exact r
  | samples l =>
    simp only [Machine.handle, onSamples]
    split
    · try dsimp only
      exact (r.modDfm l _).foldl _ (fun _ w k => k.completeSonic w) _
    · exact r
  | air l =>
    simp only [Machine.handle, onAir]
    split
    · split
      · try dsimp only
        exact (r.modDfm l _).airSample l _
      · try dsimp only
        exact r.modDfm l _
    · exact r
  | jamChecks l =>
    simp only [Machine.handle, onJamChecks]
    split
    · split
      · exact r
      · split <;> exact r
    · exact r

theorem run (n : Nat) : ∀ (ts : List Task) (s : State), Kept s (Machine.run n ts s) := by
  induction n with
  | zero => exact fun _ s => Kept.refl s
  | succ n ih =>
    intro ts s
    cases ts with
    | nil => exact Kept.refl s
    | cons t ts => exact (Kept.handle t s).trans (ih _ _)

end Kept

/-! ### Transmit slots -/

/-- What the transmit slots of an act leave as it was. -/
structure SlotsKept (s t : State) : Prop where
  pending : t.pending = s.pending
  paper : SamePaper s t
  tables : SameTables s t
  links : SameLinks s t
  events : SameEvents s t
  freeDraws : t.freeDraws = s.freeDraws
  lastServed : t.lastServed = s.lastServed
  port : ∀ k, (t.trunk k).hasBeenUp = (s.trunk k).hasBeenUp ∧ (t.trunk k).requests = (s.trunk k).requests
    ∧ (t.trunk k).discards = (s.trunk k).discards ∧ (t.trunk k).reply = (s.trunk k).reply
    ∧ ((s.trunk k).tx.isSome = true → (t.trunk k).tx = (s.trunk k).tx)

namespace SlotsKept

theorem sameEvent (a : EventState) : SameEvent a a := ⟨rfl, rfl, rfl, rfl, rfl, rfl⟩

theorem refl (s : State) : SlotsKept s s :=
  ⟨rfl, ⟨rfl, rfl, rfl, rfl, rfl, rfl⟩, ⟨rfl, rfl, rfl, rfl, rfl, rfl⟩, ⟨fun _ => rfl, rfl, rfl, rfl⟩,
    fun _ => sameEvent _, rfl, rfl, fun _ => ⟨rfl, rfl, rfl, rfl, fun _ => rfl⟩⟩

theorem trans {s t u : State} (h : SlotsKept s t) (k : SlotsKept t u) : SlotsKept s u where
  pending := k.pending.trans h.pending
  paper := by
    obtain ⟨a, b, c, d, e, f⟩ := h.paper
    obtain ⟨a', b', c', d', e', f'⟩ := k.paper
    exact ⟨a'.trans a, b'.trans b, c'.trans c, d'.trans d, e'.trans e, f'.trans f⟩
  tables := by
    obtain ⟨a, b, c, d, e, f⟩ := h.tables
    obtain ⟨a', b', c', d', e', f'⟩ := k.tables
    exact ⟨a'.trans a, b'.trans b, c'.trans c, d'.trans d, e'.trans e, f'.trans f⟩
  links := by
    obtain ⟨a, b, c, d⟩ := h.links
    obtain ⟨a', b', c', d'⟩ := k.links
    exact ⟨fun p => (a' p).trans (a p), b'.trans b, c'.trans c, d'.trans d⟩
  events c := by
    obtain ⟨x1, x2, x3, x4, x5, x6⟩ := h.events c
    obtain ⟨y1, y2, y3, y4, y5, y6⟩ := k.events c
    exact ⟨y1.trans x1, y2.trans x2, y3.trans x3, y4.trans x4, y5.trans x5, y6.trans x6⟩
  freeDraws := k.freeDraws.trans h.freeDraws
  lastServed := k.lastServed.trans h.lastServed
  port t := by
    obtain ⟨a, b, c, d, e⟩ := h.port t
    obtain ⟨a', b', c', d', e'⟩ := k.port t
    refine ⟨a'.trans a, b'.trans b, c'.trans c, d'.trans d, fun x => ?_⟩
    rw [e' (by rw [e x]; exact x), e x]

/-- A trunk whose path is free takes a cell, and its pointer may move. -/
theorem ofTrunk (s : State) (k : Trunk) (r : Fin 8) (x : Option TxCell) (h : (s.trunk k).tx.isNone = true) :
    SlotsKept s (s.setTrunk k { s.trunk k with rr := r, tx := x }) := by
  refine ⟨by simp, ⟨by simp, by simp, by simp, by simp, by simp, by simp⟩,
    ⟨by simp, by simp, by simp, by simp, by simp, by simp⟩, ⟨fun p => ?_, by simp, by simp, by simp⟩,
    fun c => ?_, by simp, by simp, fun t => ?_⟩
  · cases p with
    | head l => simp [State.link]
    | trunk t => cases t <;> cases k <;> rfl
  · rw [State.setTrunk_event]; exact sameEvent _
  · by_cases e : k = t
    · subst e
      refine ⟨by simp, by simp, by simp, by simp, fun x => ?_⟩
      rw [Option.isNone_iff_eq_none] at h
      simp [h] at x
    · simp [e]

theorem ofEvent (s : State) (c : Fin 20) :
    SlotsKept s (s.setEvent c { s.event c with reportPending := false }) := by
  refine ⟨rfl, ⟨rfl, rfl, rfl, rfl, rfl, rfl⟩, ⟨rfl, rfl, rfl, rfl, rfl, rfl⟩, ⟨fun p => by simp, rfl, rfl, rfl⟩,
    fun d => ?_, rfl, rfl, fun t => ⟨by simp, by simp, by simp, by simp, by simp⟩⟩
  by_cases e : c = d
  · subst e; simp [SameEvent]
  · simp [e, sameEvent]

theorem slot (s : State) (k : Trunk) : SlotsKept s (s.slot k) := by
  unfold State.slot
  split
  · rename_i h
    have free : (s.trunk k).tx.isNone = true := by simp_all
    split
    · exact ofTrunk s k (s.trunk k).rr _ free
    · unfold State.reportSlot State.channelSlot
      split
      · split
        · rename_i c _ _
          refine (ofEvent s c).trans ?_
          refine ofTrunk _ k _ _ ?_
          simpa using free
        · simp only [Option.orElse]
          split
          · rename_i j _
            cases hc : s.channelCell (trunkChan k j) with
            | none => exact refl s
            | some cell =>
              have := ofTrunk s k (j + 1) (some ⟨.channel (trunkChan k j) true, cell⟩) free
              cases k <;> exact this
          · exact refl s
      · simp only [Option.orElse]
        split
        · rename_i j _
          cases hc : s.channelCell (trunkChan k j) with
          | none => exact refl s
          | some cell =>
            have := ofTrunk s k (j + 1) (some ⟨.channel (trunkChan k j) true, cell⟩) free
            cases k <;> exact this
        · exact refl s
  · exact refl s

theorem slots (s : State) : SlotsKept s s.slots := (slot s .a).trans (slot _ .b)

end SlotsKept

end Sys2Proof.Machine
end

