-- ==== Sys2Proof/Laws/Act.lean ====
section
/-! SUPPORT. Acts: how an agenda runs, what every act leaves as it was, the principle by which an act keeps an
invariant, and what carrying out a request does to its trunk. -/

namespace Sys2Proof.Machine

/-! ### Running an agenda -/

theorem run_nil (n : Nat) (s : State) : run n [] s = s := by cases n <;> rfl

theorem run_cons (n : Nat) (t : Task) (ts : List Task) (s : State) :
    run (n + 1) (t :: ts) s = run n ((handle t s).2 ++ ts) (handle t s).1 := rfl

theorem settle_nil (s : State) : settle (s, []) = s.slots := by
  unfold settle
  rw [run_nil]

theorem settle_cons (s : State) (t : Task) (ts : List Task) :
    settle (s, t :: ts) = (run 999999 ((handle t s).2 ++ ts) (handle t s).1).slots := rfl

/-- What every sub-act keeps, an agenda keeps. -/
theorem run_keeps {P : State → Prop} (h : ∀ t s, P s → P (handle t s).1) (n : Nat) :
    ∀ (ts : List Task) (s : State), P s → P (run n ts s) := by
  induction n with
  | zero => exact fun _ _ p => p
  | succ n ih =>
    intro ts s p
    cases ts with
    | nil => exact p
    | cons t ts => exact ih _ _ (h t s p)

/-- What every sub-act and the transmit slots keep, an act keeps. -/
theorem settle_keeps {P : State → Prop} (h : ∀ t s, P s → P (handle t s).1)
    (slots : ∀ s t, SlotsKept s t → P s → P t) (m : Move) (p : P m.1) : P (settle m) :=
  slots _ _ (SlotsKept.slots _) (run_keeps h _ _ _ p)

/-! ### The frame of an act -/

/-- What an act that begins with the state `s` leaves of it. -/
structure Settled (s t : State) : Prop where
  pending : t.pending = s.pending
  resetCause : t.resetCause = s.resetCause
  mem : t.mem = s.mem
  banks : t.banks = s.banks
  genCounter : t.genCounter = s.genCounter
  lastServed : t.lastServed = s.lastServed
  mgmtTrunk : t.mgmtTrunk = s.mgmtTrunk
  link : ∀ p, t.link p = s.link p
  stale : ∀ l, (t.head l).staleCount = (s.head l).staleCount
  port : ∀ k, (t.trunk k).hasBeenUp = (s.trunk k).hasBeenUp ∧ (t.trunk k).requests = (s.trunk k).requests
    ∧ (t.trunk k).discards = (s.trunk k).discards ∧ (t.trunk k).reply = (s.trunk k).reply
    ∧ ((s.trunk k).tx.isSome = true → (t.trunk k).tx = (s.trunk k).tx)
  pins : ∀ l, (t.lane l).entryBlocked = (s.lane l).entryBlocked
    ∧ (t.lane l).trayPaper = (s.lane l).trayPaper ∧ (t.lane l).amplitude = (s.lane l).amplitude
  event : ∀ c, EventGrew (s.event c) (t.event c)

theorem settle_settled (m : Move) : Settled m.1 (settle m) := by
  have k := Kept.run Config.actFuel m.2 m.1
  have h := SlotsKept.slots (run Config.actFuel m.2 m.1)
  obtain ⟨hl, _, _, _, _, hh⟩ := h.paper
  obtain ⟨lk, mg, rc, _⟩ := h.links
  change Settled m.1 (run Config.actFuel m.2 m.1).slots
  refine ⟨h.pending.trans k.pending, rc.trans k.resetCause, h.paper.2.2.2.1.trans k.mem,
    h.tables.1.trans k.banks, h.tables.2.2.2.2.1.trans k.genCounter, h.lastServed.trans k.lastServed,
    mg.trans k.mgmtTrunk, fun p => (lk p).trans ?_, fun l => ?_, fun t => ?_, fun l => ?_, fun c => ?_⟩
  · cases p with
    | head l => exact k.link l
    | trunk t => exact congrArg TrunkPort.link (k.trunk t)
  · rw [← k.stale l]
    unfold State.head
    rw [hh]
  · have e := k.trunk t
    have p := h.port t
    rw [e] at p
    exact p
  · rw [← (k.pins l).1, ← (k.pins l).2.1, ← (k.pins l).2.2]
    unfold State.lane
    rw [hl]
    exact ⟨rfl, rfl, rfl⟩
  · obtain ⟨_, a, b, _, c', d⟩ := h.events c
    refine (k.event c).trans ⟨c', d, fun x => by rw [a]; exact x, fun i x => by rw [b]; exact x⟩

/-! ### Carrying out a request (R185, R186) -/

theorem State.takeOff_trunk (s : State) (t : Trunk) :
    (s.takeOff t).trunk t = { s.trunk t with requests := (s.trunk t).requests.tail } := by
  cases t <;> rfl

theorem State.takeOff_trunk_ne (s : State) (t u : Trunk) (h : t ≠ u) : (s.takeOff t).trunk u = s.trunk u := by
  cases t <;> cases u <;> first | rfl | exact absurd rfl h

theorem State.giveReply_trunk (s : State) (t : Trunk) (r : Reply) :
    (s.giveReply t r).trunk t = { s.trunk t with reply := some r } := by
  cases t <;> rfl

/-- A command whose row is not the row of the next request changes nothing (log 2, log 3). -/
theorem serve_other {want : Request → Bool} {body : List Byte → State → Answer} {s : State} {t : Trunk}
    {r : Request} (h : s.nextRequest = some (t, r)) (w : want r = false) : serve want body s = .next s := by
  simp [serve, h, w]

theorem serve_none {want : Request → Bool} {body : List Byte → State → Answer} {s : State}
    (h : s.nextRequest = none) : serve want body s = .next s := by
  simp [serve, h]

/-- The act that carries out the next request. -/
theorem serve_act {want : Request → Bool} {body : List Byte → State → Answer} {s : State} {t : Trunk}
    {r : Request} (h : s.nextRequest = some (t, r)) (w : want r = true) :
    serve want body s =
      .next (settle ((body r.payload (s.takeOff t)).move.1.giveReply t ((body r.payload (s.takeOff t)).reply r),
        (body r.payload (s.takeOff t)).move.2)) := by
  simp [serve, h, w, act]

/-- A body that leaves its trunk alone: the reply waits, the request has left its queue. -/
theorem serve_replied {want : Request → Bool} {body : List Byte → State → Answer} {s : State} {t : Trunk}
    {r : Request} (h : s.nextRequest = some (t, r)) (w : want r = true)
    (trunk : (body r.payload (s.takeOff t)).move.1.trunk t = (s.takeOff t).trunk t)
    (served : (body r.payload (s.takeOff t)).move.1.lastServed = t) :
    ∃ u, serve want body s = .next u
      ∧ (u.trunk t).reply = some ((body r.payload (s.takeOff t)).reply r)
      ∧ (u.trunk t).requests = (s.trunk t).requests.tail
      ∧ u.lastServed = t := by
  refine ⟨_, serve_act h w, ?_, ?_, ?_⟩
  · rw [((settle_settled _).port t).2.2.2.1, State.giveReply_trunk]
  · rw [((settle_settled _).port t).2.1, State.giveReply_trunk, trunk, State.takeOff_trunk]
  · rw [(settle_settled _).lastServed]
    simpa [State.giveReply] using served

end Sys2Proof.Machine
end

