-- ==== Sys2Proof/Laws/Lanes.lean ====
section
/-! SUPPORT. The list of the six lanes, the free choice among lanes, and when a lane has no page, or none that is
PICKED. -/

namespace Sys2Proof.Machine

/-- Every lane is in the list of all. -/
theorem mem_allLanes (l : LaneId) : l ∈ allLanes := by
  unfold allLanes
  fin_cases l <;> decide

theorem allLanes_nodup : allLanes.Nodup := by
  unfold allLanes
  decide

/-- A free choice takes one of the lanes it is given and changes nothing but the count of draws. -/
theorem State.takeOne_spec (s : State) (first : LaneId) (others : List LaneId) :
    (s.takeOne first others).1 ∈ first :: others
      ∧ (s.takeOne first others).2 = { s with freeDraws := (s.takeOne first others).2.freeDraws } := by
  unfold State.takeOne
  cases others with
  | nil => simp
  | cons b rest =>
    refine ⟨?_, rfl⟩
    simp only [List.getD_eq_getElem?_getD]
    cases h : (first :: b :: rest)[Config.freeIndex s.freeDraws % ((b :: rest).length + 1)]? with
    | none => simp
    | some x => simpa using List.mem_of_getElem? h

/-- There is no PICKED entry exactly when no page of the lane is PICKED. -/
theorem State.pickedEntry_none (s : State) (l : LaneId) :
    s.pickedEntry l = none ↔ ∀ i p, s.pageAt i = some p → p.lane = l → p.state ≠ .picked := by
  unfold State.pickedEntry
  rw [List.find?_eq_none]
  constructor
  · intro h i p hp hl hs
    have := h i (by simp [allEntries])
    simp [hp, hl, hs] at this
  · intro h i _
    cases hp : s.pageAt i with
    | none => simp
    | some p =>
      simp only [Option.any_some, Bool.and_eq_true, beq_iff_eq, not_and]
      exact h i p hp

/-- A lane has no non-FREE page exactly when no page names it. -/
theorem State.laneNonFree_zero (s : State) (l : LaneId) :
    s.laneNonFree l = 0 ↔ ∀ i p, s.pageAt i = some p → p.lane ≠ l := by
  unfold State.laneNonFree State.countPages
  rw [List.countP_eq_zero]
  constructor
  · intro h i p hp hl
    have := h (s.entry i) (by simp [State.entry])
    unfold State.pageAt at hp
    simp [hp, hl] at this
  · intro h e he
    rw [Vector.mem_toList_iff, Vector.mem_iff_getElem] at he
    obtain ⟨i, hi, rfl⟩ := he
    cases hp : s.entries[i].page with
    | none => simp
    | some p =>
      have := h ⟨i, hi⟩ p hp
      simp [this]

/-- The channels that a class names. -/
theorem ClassRec.mem_channels (r : ClassRec) (c : ChanId) : c ∈ r.channels ↔ c = r.primary ∨ r.mirror = some c := by
  unfold ClassRec.channels
  cases hm : r.mirror <;> simp [eq_comm]

end Sys2Proof.Machine
end

