-- ==== Sys2Proof/Laws/PageTable.lean ====
section
/-! SUPPORT. What a token names, what a write through a token does, and what a change of one sheet of a path list
does. -/

namespace Sys2Proof.Machine

/-- A live token names its entry, the page there, and the incarnation. -/
theorem State.live_entry {s : State} {token : Nat} {i : Fin 64} {p : Page} (h : s.live token = some (i, p)) :
    i = tokenIndex token ∧ s.pageAt i = some p ∧ (s.entry i).incarnation = token / 64 := by
  unfold State.live at h
  split at h
  · rename_i q hq
    split at h
    · rename_i hi
      simp only [Option.some.injEq, Prod.mk.injEq] at h
      obtain ⟨rfl, rfl⟩ := h
      exact ⟨rfl, hq, hi⟩
    · cases h
  · cases h

/-- A write through a live token changes the record of its page and nothing else; the token stays live. -/
theorem State.modToken_live (s : State) (token : Nat) (f : Page → Page) (i : Fin 64) (p : Page)
    (h : s.live token = some (i, p)) :
    (s.modToken token f).pageAt i = some (f p) ∧ OtherEntries s (s.modToken token f) i
      ∧ (s.modToken token f).live token = some (i, f p)
      ∧ s.modToken token f = { s with entries := (s.modToken token f).entries } := by
  obtain ⟨e, hp, hi⟩ := State.live_entry h
  have hq : s.modToken token f = s.modPage i f := by unfold State.modToken; rw [h]
  have page : (s.modPage i f).pageAt i = some (f p) := by simp [hp]
  have incarnation : ((s.modPage i f).entry i).incarnation = (s.entry i).incarnation := by simp [State.modPage]
  refine ⟨by rw [hq, page], ?_, ?_, by rw [hq]; rfl⟩
  · intro j hj
    rw [hq]
    simp [State.modPage, hj.symm]
  · rw [hq]
    unfold State.live
    rw [← e]
    change (match (s.modPage i f).pageAt i with | some p => _ | none => _) = _
    rw [page]
    simp [incarnation, hi]

/-- A write through a stale token changes nothing. -/
theorem State.modToken_stale (s : State) (token : Nat) (f : Page → Page) (h : s.live token = none) :
    s.modToken token f = s := by
  unfold State.modToken
  rw [h]

/-- The sheet changed is the first of which the test holds. -/
theorem modSheet_append (sel : Sheet → Bool) (f : Sheet → Sheet) (pre : List Sheet) (sh : Sheet) (post : List Sheet)
    (h : ∀ x ∈ pre, sel x = false) (hs : sel sh = true) :
    modSheet sel f (pre ++ sh :: post) = pre ++ f sh :: post := by
  induction pre with
  | nil => simp [modSheet, hs]
  | cons x xs ih =>
    simp only [List.mem_cons, forall_eq_or_imp] at h
    simp [modSheet, h.1, ih h.2]

end Sys2Proof.Machine
end

