-- ==== Sys2Proof/Laws/Pool.lean ====
section
/-! SUPPORT. The pool's free list and its content: what each operation does to the cells it stands for, and
that the canonical forms are kept. -/

namespace Sys2Proof.Machine

/-! ### The free list (R104) -/

theorem FreeList.size_cells (f : FreeList) : (FreeList.cells f).length = FreeList.size f := by
  induction f with
  | nil => rfl
  | cons r rs ih => simp [FreeList.cells, FreeList.size, ih]

theorem FreeList.wf_tail {r : CellRun} {rs : FreeList} (h : FreeList.wf (r :: rs) = true) :
    0 < r.count ∧ FreeList.wf rs = true := by
  cases rs with
  | nil => exact ⟨by simpa [FreeList.wf] using h, rfl⟩
  | cons r' rs =>
    simp only [FreeList.wf, Bool.and_eq_true, decide_eq_true_eq] at h
    exact ⟨h.1.1, h.2⟩

/-- A grant takes the cell at the head (R106). -/
theorem FreeList.take?_cells {f rest : FreeList} {c : Nat} (w : FreeList.wf f = true)
    (h : FreeList.take? f = some (c, rest)) : FreeList.cells f = c :: FreeList.cells rest := by
  cases f with
  | nil => simp [FreeList.take?] at h
  | cons r rs =>
    have pos := (FreeList.wf_tail w).1
    simp only [FreeList.take?] at h
    split at h
    · simp only [Option.some.injEq, Prod.mk.injEq] at h
      have one : r.count = 1 := by omega
      simp [FreeList.cells, one, h.1, h.2]
    · simp only [Option.some.injEq, Prod.mk.injEq] at h
      obtain ⟨rfl, rfl⟩ := h
      obtain ⟨n, hn⟩ : ∃ n, r.count = n + 1 := ⟨r.count - 1, by omega⟩
      simp [FreeList.cells, hn, List.range'_succ]

theorem FreeList.take?_wf {f rest : FreeList} {c : Nat} (w : FreeList.wf f = true)
    (h : FreeList.take? f = some (c, rest)) : FreeList.wf rest = true := by
  cases f with
  | nil => simp [FreeList.take?] at h
  | cons r rs =>
    simp only [FreeList.take?] at h
    split at h
    · simp only [Option.some.injEq, Prod.mk.injEq] at h
      rw [← h.2]
      exact (FreeList.wf_tail w).2
    · simp only [Option.some.injEq, Prod.mk.injEq] at h
      obtain ⟨rfl, rfl⟩ := h
      cases rs with
      | nil => simp only [FreeList.wf, decide_eq_true_eq]; omega
      | cons r' rs =>
        simp only [FreeList.wf, Bool.and_eq_true, decide_eq_true_eq] at w ⊢
        exact ⟨⟨by omega, by omega⟩, w.2⟩

/-- The pool is empty exactly when it grants nothing (R106). -/
theorem FreeList.take?_none (f : FreeList) : FreeList.take? f = none ↔ f = [] := by
  cases f with
  | nil => simp [FreeList.take?]
  | cons r rs => simp only [FreeList.take?]; split <;> simp

/-- A freed cell joins at the tail (R104). -/
theorem FreeList.append_cells (c : Nat) (f : FreeList) :
    FreeList.cells (FreeList.append c f) = FreeList.cells f ++ [c] := by
  induction f with
  | nil => rfl
  | cons r rs ih =>
    cases rs with
    | nil =>
      simp only [FreeList.append]
      split
      · rename_i h
        simp [FreeList.cells, List.range'_concat, h]
      · simp [FreeList.cells]
    | cons r' rs =>
      simp only [FreeList.append, FreeList.cells] at ih ⊢
      rw [ih]
      simp

theorem FreeList.append_head (c : Nat) (r : CellRun) (rs : FreeList) :
    ∃ n rest, FreeList.append c (r :: rs) = ⟨r.first, n⟩ :: rest ∧ r.count ≤ n ∧ (rs ≠ [] → n = r.count) := by
  cases rs with
  | nil =>
    simp only [FreeList.append]
    split
    · exact ⟨r.count + 1, [], rfl, by omega, fun h => absurd rfl h⟩
    · exact ⟨r.count, [⟨c, 1⟩], rfl, Nat.le_refl _, fun _ => rfl⟩
  | cons r' rs => exact ⟨r.count, _, rfl, Nat.le_refl _, fun _ => rfl⟩

theorem FreeList.append_wf (c : Nat) (f : FreeList) (w : FreeList.wf f = true) :
    FreeList.wf (FreeList.append c f) = true := by
  induction f with
  | nil => rfl
  | cons r rs ih =>
    cases rs with
    | nil =>
      simp only [FreeList.append]
      split
      · simp [FreeList.wf]
      · rename_i h
        simp only [FreeList.wf, decide_eq_true_eq] at w
        simp [FreeList.wf, w, h]
    | cons r' rs =>
      have tail := ih (FreeList.wf_tail w).2
      obtain ⟨n, rest, e, _, _⟩ := FreeList.append_head c r' rs
      simp only [FreeList.append] at e tail ⊢
      rw [e] at tail ⊢
      simp only [FreeList.wf, Bool.and_eq_true, decide_eq_true_eq] at w ⊢
      exact ⟨w.1, tail⟩

/-- A whole cell list joins at the tail in its order (R107). -/
theorem FreeList.appendAll_cells (cs : List Nat) :
    ∀ f : FreeList, FreeList.cells (FreeList.appendAll f cs) = FreeList.cells f ++ cs := by
  induction cs with
  | nil => intro f; simp [FreeList.appendAll]
  | cons c cs ih =>
    intro f
    have := ih (FreeList.append c f)
    simp only [FreeList.appendAll, List.foldl_cons] at this ⊢
    rw [this, FreeList.append_cells]
    simp

theorem FreeList.appendAll_wf (cs : List Nat) :
    ∀ f : FreeList, FreeList.wf f = true → FreeList.wf (FreeList.appendAll f cs) = true := by
  induction cs with
  | nil => intro f w; exact w
  | cons c cs ih => intro f w; exact ih _ (FreeList.append_wf c f w)

/-- After a reset the free list is all 65,536 cells in ascending order (R110). -/
theorem FreeList.whole_cells : FreeList.cells FreeList.whole = List.range Config.poolCells := by
  simp [FreeList.cells, FreeList.whole, List.range_eq_range']

/-! ### The content of the cells -/

theorem Memory.wfFrom_mono {m : Memory} {lo lo' : Nat} (h : lo' ≤ lo) (w : Memory.wfFrom lo m = true) :
    Memory.wfFrom lo' m = true := by
  cases m with
  | nil => rfl
  | cons x rest =>
    obtain ⟨a, bs⟩ := x
    simp only [Memory.wfFrom, Bool.and_eq_true, decide_eq_true_eq] at w ⊢
    exact ⟨⟨by omega, w.1.2⟩, w.2⟩

theorem Memory.write_wfFrom (c : Nat) (bytes : List Byte) (m : Memory) :
    ∀ lo, lo ≤ c → Memory.wfFrom lo m = true → Memory.wfFrom lo (Memory.write c bytes m) = true := by
  induction m with
  | nil =>
    intro lo hc _
    simp only [Memory.write]
    split
    · rfl
    · rename_i h
      simp [Memory.wfFrom, hc, h]
  | cons x rest ih =>
    intro lo hc w
    obtain ⟨a, bs⟩ := x
    simp only [Memory.wfFrom, Bool.and_eq_true, decide_eq_true_eq] at w
    simp only [Memory.write]
    split
    · split
      · simp [Memory.wfFrom, w]
      · rename_i h1 h2
        simp only [Memory.wfFrom, Bool.and_eq_true, decide_eq_true_eq]
        exact ⟨⟨hc, by simpa using h2⟩, ⟨by omega, w.1.2⟩, w.2⟩
    split
    · rename_i _ e
      subst e
      split
      · exact Memory.wfFrom_mono (by omega) w.2
      · rename_i h
        simp only [Memory.wfFrom, Bool.and_eq_true, decide_eq_true_eq]
        exact ⟨⟨w.1.1, by simpa using h⟩, w.2⟩
    · simp only [Memory.wfFrom, Bool.and_eq_true, decide_eq_true_eq]
      exact ⟨w.1, ih (a + 1) (by omega) w.2⟩

/-- A write keeps the canonical form. -/
theorem Memory.write_wf (c : Nat) (bytes : List Byte) (m : Memory) (w : Memory.wf m = true) :
    Memory.wf (Memory.write c bytes m) = true := Memory.write_wfFrom c bytes m 0 (Nat.zero_le c) w

theorem Memory.read_below {m : Memory} {lo c : Nat} (w : Memory.wfFrom lo m = true) (h : c < lo) :
    Memory.read m c = [] := by
  induction m generalizing lo with
  | nil => rfl
  | cons x rest ih =>
    obtain ⟨a, bs⟩ := x
    simp only [Memory.wfFrom, Bool.and_eq_true, decide_eq_true_eq] at w
    simp only [Memory.read]
    rw [if_neg (by omega)]
    exact ih w.2 (by omega)

theorem Memory.read_writeFrom (c d : Nat) (bytes : List Byte) (m : Memory) :
    ∀ lo, Memory.wfFrom lo m = true →
      Memory.read (Memory.write c bytes m) d = if d = c then bytes else Memory.read m d := by
  induction m with
  | nil =>
    intro lo _
    simp only [Memory.write]
    split
    · rename_i h
      simp only [List.isEmpty_iff] at h
      simp [Memory.read, h]
    · by_cases e : d = c
      · simp [Memory.read, e]
      · simp [Memory.read, e, Ne.symm e]
  | cons x rest ih =>
    intro lo w
    obtain ⟨a, bs⟩ := x
    simp only [Memory.wfFrom, Bool.and_eq_true, decide_eq_true_eq] at w
    have hrest : ∀ k, k < a + 1 → Memory.read rest k = [] := fun k hk => Memory.read_below w.2 hk
    simp only [Memory.write]
    split
    · rename_i lt
      split
      · rename_i h
        simp only [List.isEmpty_iff] at h
        by_cases e : d = c
        · subst e
          simp [Memory.read, h, hrest d (by omega), show a ≠ d by omega]
        · simp [e]
      · by_cases e : d = c
        · simp [Memory.read, e]
        · simp [Memory.read, e, Ne.symm e]
    split
    · rename_i _ eq
      subst eq
      split
      · rename_i h
        simp only [List.isEmpty_iff] at h
        by_cases e : d = c
        · subst e; simp [h, hrest d (by omega)]
        · simp [Memory.read, e, Ne.symm e]
      · by_cases e : d = c
        · simp [Memory.read, e]
        · simp [Memory.read, e, Ne.symm e]
    · rename_i h1 h2
      by_cases e : a = d
      · subst e
        simp [Memory.read, Ne.symm h2]
      · simp only [Memory.read, if_neg e]
        exact ih (a + 1) w.2

/-- Reading after a write: the cell written holds the bytes, every other cell what it held (R105). -/
theorem Memory.read_write (c d : Nat) (bytes : List Byte) (m : Memory) (w : Memory.wf m = true) :
    Memory.read (Memory.write c bytes m) d = if d = c then bytes else Memory.read m d :=
  Memory.read_writeFrom c d bytes m 0 w

end Sys2Proof.Machine
end

