-- ==== Sys2Proof/Laws/Records.lean ====
section
/-! SUPPORT. The bytes of the parts of a status record, as fields; when a numeric field is clamped. -/

namespace Sys2Proof.Machine

@[simp] theorem Fields.bytes_nil : Fields.bytes [] = [] := rfl

@[simp] theorem Fields.bytes_cons (width v : Nat) (fs : Fields) :
    Fields.bytes ((width, v) :: fs) = le width v ++ Fields.bytes fs := rfl

@[simp] theorem Fields.bytes_append (fs gs : Fields) : Fields.bytes (fs ++ gs) = Fields.bytes fs ++ Fields.bytes gs :=
  List.flatMap_append

theorem byteOf_fields (b : Bool) : byteOf b = le 1 b.toNat := by cases b <;> rfl

theorem optBytes_fields (n : Nat) (v : Option Nat) : optBytes n v = Fields.bytes (ifPresent n v) := by
  cases v <;> simp [optBytes, ifPresent, le]

theorem listBytes_fields (xs : List Fields) : listBytes (xs.map Fields.bytes) = Fields.bytes (counted xs) := by
  unfold listBytes counted
  rw [Fields.bytes_cons]
  congr 1
  · simp [leSat, Nat.min_comm]
  · induction xs with
    | nil => rfl
    | cons x xs ih => simp [ih]

theorem le48_fields (p : Nat) : le48 (p : Int) = le 6 (bits48 p) := rfl

theorem bytes_fields (bs : List Byte) : Fields.bytes (bs.map fun b => (1, b.toNat)) = bs := by
  induction bs with
  | nil => rfl
  | cons b bs ih => simp [ih, le]

theorem ticketBytes_fields (t : Option (List Byte)) : ticketBytes t = Fields.bytes (ticketFields t) := by
  cases t <;> simp [ticketBytes, ticketFields, bytes_fields, leSat, le, Nat.min_comm]

/-- A value is clamped exactly when it lies outside the range. -/
theorem ne_clamp {v low high : Nat} (h : low ≤ high) : v ≠ clamp low high v ↔ v < low ∨ high < v := by
  unfold clamp
  omega

/-- slope_ms becomes the greatest of its six values not above the one carried. -/
theorem clampSlope_greatest (v : Nat) :
    clampSlope v ∈ [0, 50, 100, 200, 400, 800] ∧ clampSlope v ≤ v
      ∧ ∀ w ∈ [0, 50, 100, 200, 400, 800], w ≤ v → w ≤ clampSlope v := by
  unfold clampSlope
  refine ⟨?_, ?_, ?_⟩
  · split_ifs <;> simp
  · split_ifs <;> omega
  · simp only [List.mem_cons, List.not_mem_nil, or_false]
    split_ifs <;> omega

end Sys2Proof.Machine
end

