-- ==== Sys2Proof/Laws/Speed.lean ====
section
/-! SUPPORT. What the Feed Group Controller's pass over the six lanes does to each of them. -/

namespace Sys2Proof.Machine

/-- A pass over the six lanes in which each turn changes its own lane by `g`, which the other turns leave as it
is. -/
theorem foldl_allLanes_lane (s : State) (l : LaneId) (f : State → LaneId → State) (g : State → LaneId → Lane → Lane)
    (own : ∀ u k, (f u k).lane k = g u k (u.lane k)) (other : ∀ u k m, m ≠ k → (f u k).lane m = u.lane m)
    (stable : ∀ u k m x, m ≠ k → g (f u k) m x = g u m x) :
    (allLanes.foldl f s).lane l = g s l (s.lane l) := by
  have pass : ∀ (ls : List LaneId) (u : State), ls.Nodup →
      (l ∈ ls → (ls.foldl f u).lane l = g u l (u.lane l)) ∧ (l ∉ ls → (ls.foldl f u).lane l = u.lane l) := by
    intro ls
    induction ls with
    | nil => intro u _; simp
    | cons k ks ih =>
      intro u hn
      rw [List.nodup_cons] at hn
      have next := ih (f u k) hn.2
      refine ⟨fun hm => ?_, fun hm => ?_⟩
      · by_cases hk : l = k
        · subst hk
          simp only [List.foldl_cons, next.2 hn.1, own]
        · have hm' : l ∈ ks := by simpa [hk] using hm
          simp only [List.foldl_cons, next.1 hm', other u k l hk, stable u k l _ hk]
      · simp only [List.mem_cons, not_or] at hm
        simp only [List.foldl_cons, next.2 hm.2, other u k l hm.1]
  unfold allLanes
  exact (pass _ s (by decide)).1 (by fin_cases l <;> decide)

/-- A new target touches the lane's speed, target and ramp only. -/
theorem Lane.retarget_keeps (x : Lane) (e slope : Nat) :
    x.retarget e slope = { x with
      speed := (x.retarget e slope).speed, target := (x.retarget e slope).target
      ramp := (x.retarget e slope).ramp } := by
  unfold Lane.retarget
  split <;> [rfl; (split <;> [rfl; (split <;> rfl)])]

/-- The target speed and the GROUP record of a lane depend on the lanes' states, generations and classes, on the
fill states and on the tables. -/
theorem State.targetOf_congr {s t : State}
    (lanes : ∀ m, (t.lane m).state = (s.lane m).state ∧ (t.lane m).gen = (s.lane m).gen
      ∧ (t.lane m).adoptingFrom = (s.lane m).adoptingFrom ∧ (t.lane m).batch = (s.lane m).batch)
    (channels : t.channels = s.channels) (tables : ∀ g, t.tablesOf g = s.tablesOf g) (l : LaneId) :
    t.targetOf l = s.targetOf l ∧ t.groupRec l = s.groupRec l := by
  have feed : ∀ m, t.feedTables m = s.feedTables m := by
    intro m; simp [State.feedTables, State.feedGen, tables, lanes m]
  have group : ∀ m, t.groupOf m = s.groupOf m := by intro m; simp [State.groupOf, feed]
  have record : ∀ m, t.groupRec m = s.groupRec m := by intro m; simp [State.groupRec, State.laneRec, State.laneTables, tables, lanes m]
  have used : ∀ g, t.inUse g = s.inUse g := by
    intro g; simp [State.inUse, group, lanes, State.classChannels, feed]
  have chan : ∀ c, t.chan c = s.chan c := by intro c; simp [State.chan, channels]
  refine ⟨?_, record l⟩
  simp [State.targetOf, lanes l, record, State.nearInUse, used, group, chan]

/-- Every lane is given its target, but for one that is adopting. -/
theorem foldl_retarget_lane (s : State) (l : LaneId) :
    (allLanes.foldl State.retarget s).lane l
      = if (s.lane l).adoptingFrom.isSome then s.lane l
        else (s.lane l).retarget (s.targetOf l) (s.groupRec l).slopeMs := by
  refine foldl_allLanes_lane s l State.retarget
    (fun u k x => if x.adoptingFrom.isSome then x else x.retarget (u.targetOf k) (u.groupRec k).slopeMs)
    (fun u k => State.modLane_lane_self u k _) (fun u k m h => State.modLane_lane_ne u k m _ h.symm)
    fun u k m x _ => ?_
  have same : (u.retarget k).targetOf m = u.targetOf m ∧ (u.retarget k).groupRec m = u.groupRec m := by
    refine State.targetOf_congr (s := u) (t := u.retarget k) (fun j => ?_) rfl (fun _ => rfl) m
    unfold State.retarget
    by_cases hj : j = k
    · subst hj
      rw [State.modLane_lane_self]
      split
      · exact ⟨rfl, rfl, rfl, rfl⟩
      · rw [Lane.retarget_keeps]
        exact ⟨rfl, rfl, rfl, rfl⟩
    · rw [State.modLane_lane_ne u k j _ (Ne.symm hj)]
      exact ⟨rfl, rfl, rfl, rfl⟩
  simp only [same]

/-- Every lane whose RAMP_UP ends goes to HOLDING. -/
theorem foldl_leaveRampUp_lane (s : State) (l : LaneId) :
    (allLanes.foldl State.leaveRampUp s).lane l
      = if (s.lane l).rampUpEnds then { s.lane l with state := .holding } else s.lane l := by
  refine foldl_allLanes_lane s l State.leaveRampUp
    (fun _ _ x => if x.rampUpEnds then { x with state := .holding } else x) (fun u k => ?_) (fun u k m h => ?_)
    fun _ _ _ _ _ => rfl
  · unfold State.leaveRampUp
    split <;> simp
  · unfold State.leaveRampUp
    split <;> simp [h.symm]

end Sys2Proof.Machine
end

