-- ==== Sys2Proof/WellFormed.lean ====
section
/-! DEFINITION. Which commands can occur: the bounds a valid cell keeps on its payload (R199). -/

namespace Sys2Proof

/-- A valid cell carries at most 1,024 payload bytes (R199). -/
def payloadFits (p : List Byte) : Bool := decide (p.length ≤ 1024)

/-- A command that some valid cell, pin or clock of the part can give. -/
def Instr.wellFormed : Instr → Bool
  | .powerOn => true
  | .resetPin => true
  | .signalDetected _ => true
  | .lossOfSignal _ => true
  | .idleCellReceived _ => true
  | .badCellReceived _ => true
  | .cellDiscarded _ => true
  | .data _ _ payload => payloadFits payload
  | .close _ _ _ _ none => true
  | .close _ _ _ _ (some ticket) => payloadFits ticket
  | .abort _ _ => true
  | .request _ _ _ payload => payloadFits payload
  | .pauseOn _ _ => true
  | .pauseOff _ _ => true
  | .tableLoad => true
  | .tableCommit => true
  | .tableRead => true
  | .laneStart => true
  | .laneStop => true
  | .laneHalt => true
  | .laneClear => true
  | .pageResolveAccept => true
  | .pageResolveDrop => true
  | .pageResolveRescan => true
  | .slotCancel => true
  | .statusRead => true
  | .partResetFull => true
  | .partResetLine => true
  | .eventSet => true
  | .eventClear => true
  | .unknownRequest => true
  | .encoderForwardStep _ _ => true
  | .encoderReverseStep _ => true
  | .entrySensorChange _ _ => true
  | .traySensorChange _ _ => true
  | .speedControlPeriod _ => true
  | .misfeedTimerExpiry _ => true
  | .retryWaitEnd _ => true
  | .runoutTimerExpiry _ => true
  | .imageTimerExpiry _ => true
  | .pauseTimerExpiry _ => true
  | .waitTimerExpiry _ => true
  | .bankCopyComplete => true
  | .channelCellSent _ => true
  | .replySent _ => true
  | .reportSent _ => true
  | .headCellSent _ => true

end Sys2Proof
end

