-- ==== Sys2Proof/Tests/Slice0.lean ====
section
/-! SUPPORT. Tests on fixed values, and for each statement of Certificates/Slice0 that has hypotheses a witness
that they can hold together, one for each of its clauses. -/

namespace Sys2Proof.Tests

open Sys2Proof Sys2Proof.Machine

set_option Elab.async false

/-! ### Ill-formed commands are refused by the check -/

theorem test_data_over_1024_bytes_ill_formed :
    (Instr.data 0 0 (List.replicate 1025 0)).wellFormed = false
      ∧ (Instr.data 0 0 (List.replicate 1024 0)).wellFormed = true := by decide +kernel

theorem test_ticket_over_1024_bytes_ill_formed :
    (Instr.close 0 0 0 false (some (List.replicate 1025 0))).wellFormed = false
      ∧ (Instr.close 0 0 0 false none).wellFormed = true := by decide +kernel

theorem test_request_over_1024_bytes_ill_formed :
    (Instr.request .a 0 0 (List.replicate 1025 0)).wellFormed = false
      ∧ (Instr.request .b 0 0 []).wellFormed = true := by decide +kernel

/-! ### Small states -/

/-- Tables with every lane, class and channel enabled. -/
def tables : Tables :=
  { Tables.zeroed with
    lane := Vector.replicate 6 { LaneRec.zeroed with enabled := true, sonicEnabled := true }
    cls := Vector.replicate 32 { ClassRec.zeroed with enabled := true }
    channel := Vector.replicate 16 { ChannelRec.zeroed with enabled := true, full := 32, near := 16, ease := 8 } }

/-- The part with those tables in both banks, right after reset. -/
def part : State := { State.reset with banks := Vector.replicate 2 tables }

/-- Lane 0 in a state. -/
def lane0 (x : LaneState) : State := part.modLane 0 fun y => { y with state := x }

/-- A request waits on trunk A, with tag 7. -/
def asked (kind : Byte) (payload : List Byte) (s : State) : State :=
  s.setTrunk .a { s.trunk .a with requests := [⟨kind, 7, payload⟩] }

/-- A page of lane 0 as a pick allocates it. -/
def page : Page := Page.allocated 0 ⟨0, 0⟩ 0 none

/-- A page in entry 0, with token 0. -/
def withPage (p : Page) (s : State) : State := s.setEntry 0 ⟨0, some p⟩

/-- A port's link is UP. -/
def up (p : Port) (s : State) : State := s.setLink p ⟨.up, 8, 0, 0⟩

/-- The sheet of the page in entry 0. -/
def sheet : Sheet := part.newSheet 0 0 0 none

/-- A window of the page in entry 0. -/
def window : Window := openWindow tables 0 0 0

/-- A trunk sends a cell. -/
def sending (o : TxOwner) (s : State) : State := s.setTrunk .a { s.trunk .a with tx := some ⟨o, idleCell⟩ }

/-- A reply waits on trunk A. -/
def replying (r : Option ResetKind) (s : State) : State :=
  s.setTrunk .a { s.trunk .a with reply := some ⟨10, 7, .ok, [], r⟩ }

/-- The channel 0 holds one copy of the page in entry 0. -/
def queued (size sent : Nat) (s : State) : State := s.setChan 0 ⟨[⟨0, size, sent⟩], .opened, none⟩

/-! ### Worked values -/

theorem test_crc_check_value :
    crc16 [0x31, 0x32, 0x33, 0x34, 0x35, 0x36, 0x37, 0x38, 0x39] = 0x29B1 := by decide +kernel

theorem test_motor_codes : motorCode 0 = 0 ∧ motorCode 1500 = 4095 ∧ motorCode 100 = 273 := by decide +kernel

theorem test_samples_and_length :
    sampleCount 8 64 = 1 ∧ sampleCount 9 64 = 2 ∧ lengthMm 2376 64 = 297 ∧ lengthMm 4 64 = 1 := by decide +kernel

theorem test_ratio_of_air_is_256_or_less : ratio 500 8000 = 255 ∧ ratio 250 8000 = 128 := by decide +kernel

theorem test_zeroed_bank_fault : Tables.zeroed.fault = some (.profile, 0) ∧ tables.fault = none := by
  decide +kernel

theorem test_received_cells :
    receivedCommand (.head 0) idleCell.bytes = .idleCellReceived (.head 0)
      ∧ receivedCommand (.head 0) (idleCell.bytes.set 14 0) = .badCellReceived (.head 0)
      ∧ receivedCommand (.head 1) (OutCell.bytes ⟨Kind.data, 0, 5, false, [], [1, 2]⟩) = .data 1 5 [1, 2]
      ∧ receivedCommand (.trunk .b) (OutCell.bytes ⟨Kind.pause, 3, 0, false, [1], []⟩) = .pauseOn .b 3 := by
  decide +kernel

theorem test_record_bytes_load_back :
    (tables.recordBytes .lane 0).bind (Tables.zeroed.load .lane 5)
      = some ({ Tables.zeroed with lane := Tables.zeroed.lane.set 5 tables.lane[0] }, false) := by decide +kernel

/-! ### Witnesses: the machine and resets -/

theorem witness_EmptyQueueTicks :
    (part.pending = [] ∧ part.otherRole = .shadow)
      ∧ (({ part with otherRole := .retired 0 } : State).pending = []
        ∧ ({ part with otherRole := .retired 0 } : State).otherRole = .retired 0) := by decide +kernel

theorem witness_HardResetLeaves :
    ((sending .reply (replying (some .full) part)).trunk .a).tx = some ⟨.reply, idleCell⟩
      ∧ ((sending .reply (replying (some .full) part)).trunk .a).reply = some ⟨10, 7, .ok, [], some .full⟩ := by
  decide +kernel

theorem witness_LineResetLeaves :
    ((sending .reply (replying (some .line) part)).trunk .a).tx = some ⟨.reply, idleCell⟩
      ∧ ((sending .reply (replying (some .line) part)).trunk .a).reply = some ⟨10, 7, .ok, [], some .line⟩
      ∧ part.pendingGen = none
      ∧ ({ part with otherRole := .pending 1 } : State).pendingGen = some 1
      ∧ ((up (.head 0) (withPage { page with image := .opened } part)).linkUp (.head 0) = true
        ∧ (up (.head 0) (withPage { page with image := .opened } part)).pageAt 0
          = some { page with image := .opened }) := by decide +kernel

/-! ### Witnesses: what every step keeps -/

theorem step_reset : step State.reset = .next State.reset.tick := rfl

theorem witness_StepKeepsCellsConserved : PoolSound State.reset := by
  refine ⟨by decide +kernel, ?_, fun i p h => ?_⟩
  · have : State.reset.pageCells = [] := by decide +kernel
    rw [this, List.append_nil]
    change (FreeList.cells FreeList.whole).Perm _
    rw [FreeList.whole_cells]
  · have : ∀ i : Fin 64, State.reset.pageAt i = none := by decide +kernel
    rw [this] at h
    cases h

theorem zeroed_inRange : Tables.zeroed.InRange := by
  refine ⟨by unfold LaneRec.InRange; decide +kernel, by unfold GroupRec.InRange; decide +kernel, fun i => ?_,
    by unfold ClassRec.InRange; decide +kernel, by unfold ChannelRec.InRange; decide +kernel⟩
  have : Tables.zeroed.profile[i] = ProfileRec.zeroed := by revert i; decide +kernel
  rw [this]
  exact ⟨by decide, by decide, by decide, by decide, by decide, by decide, nofun, trivial⟩

theorem witness_StepKeepsDataForms : MemorySound State.reset ∧ CountsSound State.reset ∧ TablesSound State.reset := by
  refine ⟨by unfold MemorySound; decide +kernel, ⟨fun k => by cases k <;> decide +kernel, fun p => ?_,
    by decide +kernel, by decide +kernel⟩, fun b => ?_⟩
  · rcases p with l | k
    · revert l; decide +kernel
    · cases k <;> decide +kernel
  · have : State.reset.banks[b] = Tables.zeroed := by revert b; decide +kernel
    rw [this]
    exact zeroed_inRange

theorem witness_StepKeepsPositions : PositionsSound (lane0 .feeding) := by
  unfold PositionsSound Lane.PositionSound
  decide +kernel

theorem witness_StepKeepsSpeedsInRange : SpeedsSound part := by
  refine ⟨by unfold Tables.SpeedsInRange; decide +kernel, fun l => ⟨?_, fun r h => ?_, ?_⟩⟩
  · revert l; decide +kernel
  · have : ∀ l, (part.lane l).ramp = none := by decide +kernel
    rw [this] at h
    cases h
  · revert l; decide +kernel

theorem witness_StepKeepsAirBaseline : AirSound part := by
  intro l
  have : (part.lane l).dfm = Dfm.reset := by revert l; decide +kernel
  rw [this]
  exact ⟨trivial, by decide +kernel, by decide +kernel, by decide +kernel, by decide +kernel, by decide +kernel⟩

theorem witness_StepKeepsPageLimits : LimitsSound part ∧ OnePicked part := by
  refine ⟨by unfold LimitsSound; decide +kernel, fun i j p q h => ?_⟩
  have : ∀ i : Fin 64, part.pageAt i = none := by decide +kernel
  rw [this] at h
  cases h

theorem witness_StepKeepsSlotLists : SlotsSound part := by
  unfold SlotsSound Lane.SlotsSound
  decide +kernel

/-! ### Witnesses: the page table -/

theorem witness_EntriesAndTokens :
    (withPage page part).pageAt 0 = some page ∧ (withPage page part).live 0 = some (0, page)
      ∧ (withPage page part).live 64 = none ∧ (withPage page part).grantedEntry 0 = some 1 := by decide +kernel

/-- The page in entry 0, with its three parts complete. -/
def whole : Page :=
  { page with state := .inPath, lengthMm := some 297, sonic := .done 0 0, image := .closed, close := some ⟨0, false, none⟩ }

theorem witness_VerdictAssembled :
    (withPage whole part).live 0 = some (0, whole) ∧ whole.state = .inPath ∧ whole.lengthMm.isSome = true
      ∧ whole.sonic ≠ .pending ∧ whole.image = .closed
      ∧ (withPage page part).live 0 = some (0, page) ∧ page.lengthMm = none := by decide +kernel

theorem witness_VerdictAssembled_actions :
    whole.flags.action (part.pickProfileRec 0 0) = .pass
      ∧ ({ PageFlags.empty with lost := true } : PageFlags).action (part.pickProfileRec 0 0) = .hold
      ∧ ({ PageFlags.empty with double := true } : PageFlags).action { ProfileRec.zeroed with polDouble := .stop }
        = .stop := by decide +kernel

/-! ### Witnesses: lane transport -/

theorem witness_ForwardStepCounts :
    ((lane0 .idle).lane 0).state = .idle
      ∧ ((lane0 .feeding).lane 0).counter = ((lane0 .feeding).lane 0).high
      ∧ (((lane0 .feeding).modLane 0 fun x => { x with high := 1 }).lane 0).counter + 1 ≤ 1
      ∧ (((lane0 .holding).modLane 0 fun x =>
          { x with counter := 140737488355327, high := 140737488355327 }).lane 0).counter = 140737488355327 := by
  decide +kernel

/-- Lane 0 in a state with its counter at its least value. -/
def backward (x : LaneState) : State := (lane0 x).modLane 0 fun y => { y with counter := -140737488355328 }

theorem witness_ReverseStepCounts :
    ((lane0 .off).lane 0).state = .off
      ∧ (-140737488355328 < ((lane0 .feeding).lane 0).counter
        ∧ (((lane0 .feeding).lane 0).high : Int)
            - off ((lane0 .feeding).laneRec 0).reverseLimit ((lane0 .feeding).laneRec 0).pitch
            ≤ ((lane0 .feeding).lane 0).counter - 1)
      ∧ (((lane0 .feeding).modLane 0 fun x => { x with high := 40 }).lane 0).counter - 1
          < (40 : Int) - off ((lane0 .feeding).laneRec 0).reverseLimit ((lane0 .feeding).laneRec 0).pitch
      ∧ (((backward .feeding).lane 0).counter = -140737488355328
        ∧ (-140737488355328 : Int) < ((backward .feeding).lane 0).high
            - off ((backward .feeding).laneRec 0).reverseLimit ((backward .feeding).laneRec 0).pitch)
      ∧ ((backward .jammed).lane 0).state = .jammed := by
  decide +kernel

/-- Lane 0 in a state with the tray found empty. -/
def trayEmpty (x : LaneState) : State := (lane0 x).modLane 0 fun y => { y with trayEmpty := true }

theorem witness_SensorsChange :
    ((trayEmpty .holding).lane 0).trayEmpty = true ∧ ((trayEmpty .holding).lane 0).state ≠ .jammed
      ∧ ((trayEmpty .jammed).lane 0).state = .jammed ∧ ((lane0 .idle).lane 0).trayEmpty = false := by
  decide +kernel

/-- Lane 0 in a state with its page picked. -/
def picked (x : LaneState) : State :=
  withPage page ((lane0 x).modLane 0 fun y => { y with path := [sheet], gap := .wait, misfeedTimer := some 50 })

/-- The entry sensor of lane 0 is blocked. -/
def blocked (s : State) : State := s.modLane 0 fun y => { y with entryBlocked := true }

theorem witness_LeadingEdgeOfPickedPage :
    (blocked (picked .feeding)).pickedEntry 0 = some 0 ∧ (blocked (picked .feeding)).pageAt 0 = some page
      ∧ ((blocked (picked .feeding)).lane 0).state.moving = true
      ∧ ((blocked (picked .feeding)).lane 0).path = [] ++ sheet :: []
      ∧ sheet.token = (blocked (picked .feeding)).tokenOf 0 ∧ sheet.lead = none := by
  decide +kernel

theorem witness_LeadingEdgeOfPickedPage_unexpected :
    ((blocked (lane0 .rampDown)).pickedEntry 0 = none ∧ (blocked (lane0 .rampDown)).grantedEntry 0 = some 0
      ∧ ((blocked (lane0 .rampDown)).lane 0).nextPos = some ⟨0, 0⟩
      ∧ ((blocked (lane0 .rampDown)).lane 0).retryWait = none)
      ∧ ((blocked ((lane0 .runout).modLane 0 fun y => { y with path := List.replicate 3 sheet })).lane 0).path.length < 4
      ∧ 4 ≤ ((blocked ((lane0 .runout).modLane 0 fun y => { y with path := List.replicate 4 sheet })).lane 0).path.length
      ∧ ((blocked ((lane0 .runout).modLane 0 fun y => { y with nextSeq := 4294967296 })).lane 0).nextPos = none := by
  decide +kernel

/-- Lane 0 with a sheet on its entry sensor, a window of the page in entry 0, and the sensor cleared. -/
def leaving (sonic : Bool) : State :=
  withPage { page with state := .inPath, lead := some 0 }
    ((lane0 .feeding).modLane 0 fun y =>
      { y with
        path := [{ sheet with lead := some 0 }], high := 64, counter := 64, lastSensor := true, sensor := some 0
        dfm := { y.dfm with windows := [{ window with sonicEnabled := sonic }] } })

theorem witness_LeadingEdgeOfPickedPage_trailing :
    (((leaving true).lane 0).state.moving = true ∧ ((leaving true).lane 0).entryBlocked = false
      ∧ ((leaving true).lane 0).lastSensor = true ∧ ((leaving true).lane 0).sensor = some 0
      ∧ ((leaving true).lane 0).path = [] ++ { sheet with lead := some 0 } :: [] ∧ sheet.trail = none)
      ∧ (leaving true).live 0 = some (0, { page with state := .inPath, lead := some 0 })
      ∧ ((leaving true).lane 0).dfm.windows.find? (fun w => w.token == 0 && w.trail.isNone)
        = some { window with sonicEnabled := true }
      ∧ ((leaving false).lane 0).dfm.windows.find? (fun w => w.token == 0 && w.trail.isNone)
        = some { window with sonicEnabled := false }
      ∧ ((leaving true).setEntry 0 ⟨1, none⟩).live 0 = none
      ∧ (((leaving true).modLane 0 fun y => { y with sensor := none }).lane 0).sensor = none := by decide +kernel

/-- Lane 0 feeding with paper in the tray. -/
def ready : State := (lane0 .feeding).modLane 0 fun y => { y with trayPaper := true }

/-- A part whose every entry is taken by lane 5. -/
def crowded : State := { ready with entries := Vector.replicate 64 ⟨0, some { page with lane := 5 }⟩ }

theorem witness_DuePickTaken :
    (ready.pickDue 0 = true ∧ (ready.lane 0).nextPos = some ⟨0, 0⟩ ∧ ready.grantedEntry 0 = some 0)
      ∧ ((ready.modLane 0 fun y => { y with slots := [⟨3, 1⟩] }).lane 0).nextPos = some ⟨3, 1⟩
      ∧ ((lane0 .feeding).pickDue 0 = true ∧ ((lane0 .feeding).lane 0).trayPaper = false
        ∧ ((lane0 .feeding).laneRec 0).autostop = false)
      ∧ (crowded.pickDue 0 = true ∧ crowded.grantedEntry 0 = none) := by decide +kernel

/-- Lane 0 feeding with H at 90 and a gap state. -/
def gapped (g : GapState) : State := (lane0 .feeding).modLane 0 fun y => { y with gap := g, high := 90, counter := 90 }

/-- The gap of a zeroed bank is 80 counts: H at 90 is past a trail at 10, and not past one at 11. -/
theorem witness_DuePickTaken_due :
    (off (part.laneRec 0).gapMm (part.laneRec 0).pitch = 80
      ∧ (gapped (.since 10)).pickDue 0 = true ∧ (gapped (.since 11)).pickDue 0 = false)
      ∧ (gapped .clear).pickDue 0 = true ∧ (gapped .wait).pickDue 0 = false
      ∧ ((gapped .clear).modLane 0 fun y => { y with path := List.replicate 3 sheet }).pickDue 0 = true
      ∧ ((gapped .clear).modLane 0 fun y => { y with path := List.replicate 4 sheet }).pickDue 0 = false
      ∧ (withPage page (gapped .clear)).pickDue 0 = false
      ∧ (withPage { page with lane := 1 } (gapped .clear)).pickDue 0 = true
      ∧ (lane0 .holding).pickDue 0 = false := by decide +kernel

theorem witness_DuePickTaken_holding :
    (((lane0 .feeding).lane 0).state = .feeding ∧ ((lane0 .feeding).holding 0).any = false)
      ∧ (((trayEmpty .feeding).lane 0).state = .feeding ∧ ((trayEmpty .feeding).holding 0).any = true)
      ∧ ((lane0 .holding).lane 0).state = .holding ∧ ((lane0 .holding).holding 0).any = false
      ∧ ((trayEmpty .holding).holding 0).any = true
      ∧ ((lane0 .feeding).setChan 0 ⟨[], .full, none⟩ |>.holding 0).queueFull = true
      ∧ (crowded.holding 0).tableFull = true
      ∧ (((lane0 .feeding).modLane 0 fun y => { y with nextSeq := 4294967296 }).holding 0).seqLimit = true := by
  decide +kernel

/-- Lane 0 feeding with autostop and an empty tray. -/
def autostop : State :=
  { lane0 .feeding with
    banks := Vector.replicate 2
      { tables with lane := Vector.replicate 6 { LaneRec.zeroed with enabled := true, autostop := true } } }

theorem witness_DuePickTaken_autostop :
    autostop.pickDue 0 = true ∧ (autostop.lane 0).trayPaper = false ∧ (autostop.laneRec 0).autostop = true := by
  decide +kernel

/-- Lane 0 in RUNOUT with a sheet in its path and its timer running. -/
def runningOut : State := (picked .runout).modLane 0 fun y => { y with runoutTimer := some 0 }

theorem witness_RunoutEnteredAndTimed :
    (runningOut.lane 0).runoutTimer = some 0 ∧ (runningOut.lane 0).state = .runout ∧ (runningOut.lane 0).path ≠ []
      ∧ ((lane0 .rampUp).lane 0).state = .rampUp := by decide +kernel

/-- Lane 0 in RETRY_WAIT with its page picked. -/
def waiting (paper : Bool) : State :=
  (picked .retryWait).modLane 0 fun y =>
    { y with misfeedTimer := none, retryWait := some 0, trayPaper := paper }

theorem witness_PickTimersExpire :
    ((picked .feeding).pickedEntry 0 = some 0 ∧ (picked .feeding).pickedSheet 0 = some sheet
      ∧ ((picked .feeding).lane 0).misfeedTimer = some 50 ∧ sheet.pickRetries < page.attempts)
      ∧ (page.attempts ≤ ({ sheet with pickRetries := 1 } : Sheet).pickRetries
        ∧ (withPage page ((picked .holding).modLane 0 fun y =>
            { y with path := [{ sheet with pickRetries := 1 }] })).pickedSheet 0
            = some { sheet with pickRetries := 1 })
      ∧ ((waiting true).pickedEntry 0 = some 0 ∧ (waiting true).pickedSheet 0 = some sheet
        ∧ ((waiting true).lane 0).retryWait = some 0)
      ∧ ((waiting false).lane 0).trayPaper = false ∧ ((lane0 .idle).lane 0).misfeedTimer = none := by
  decide +kernel

theorem witness_JamHoldsThePath :
    ((picked .feeding).lane 0).state.moving = true ∧ (picked .feeding).live sheet.token = some (0, page)
      ∧ ((lane0 .idle).lane 0).state.moving = false ∧ page.state = .picked
      ∧ (withPage { page with image := .opened } (picked .feeding)).live sheet.token
        = some (0, { page with image := .opened })
      ∧ (up (.head 0) (picked .feeding)).linkUp (.head 0) = true := by decide +kernel

/-- Lane 0 feeding with a sheet on its entry sensor since position 0. -/
def dwelling (high : Nat) : State :=
  (lane0 .feeding).modLane 0 fun y =>
    { y with path := [{ sheet with lead := some 0 }], sensor := some 0, high := high, counter := high }

theorem witness_JamHoldsThePath_checks :
    (((dwelling 801).lane 0).sensor ≠ none
      ∧ ((dwelling 801).lane 0).path.find? (fun x => x.lead.isSome && x.trail.isNone) = some { sheet with lead := some 0 }
      ∧ 0 + off (sheet.lenMax + 50) sheet.pitch < ((dwelling 801).lane 0).high)
      ∧ ¬0 + off (sheet.lenMax + 50) sheet.pitch < ((dwelling 800).lane 0).high
      ∧ (140737488355327 ≤ (((lane0 .feeding).modLane 0 fun y => { y with counter := 140737488355327 }).lane 0).counter
        ∧ ((lane0 .feeding).lane 0).sensor = none ∧ ((lane0 .feeding).lane 0).counter < 140737488355327) := by
  decide +kernel

/-- Lane 0 with its sheet at the imaging line. -/
def atLine : State :=
  withPage { page with state := .inPath, lead := some 0 }
    ((lane0 .feeding).modLane 0 fun y => { y with path := [{ sheet with lead := some 0 }], high := 72, counter := 72 })

/-- Lane 0 with one sheet in its path at a high-water position. -/
def withSheet (x : Sheet) (high : Nat) : State :=
  (lane0 .runout).modLane 0 fun y => { y with path := [x], high := high, counter := high }

theorem witness_GateOpensAtImagingLine :
    ((atLine.lane 0).state.moving = true ∧ (atLine.lane 0).path = [] ++ { sheet with lead := some 0 } :: []
      ∧ ({ sheet with lead := some 0 } : Sheet).opens (atLine.lane 0).high = true)
      ∧ (atLine.live 0).isSome = true ∧ atLine.linkUp (.head 0) = false
      ∧ (up (.head 0) atLine).linkUp (.head 0) = true
      ∧ (atLine.setEntry 0 ⟨0, none⟩).live 0 = none
      ∧ ({ sheet with lead := some 0 } : Sheet).opens 71 = false := by decide +kernel

theorem witness_GateOpensAtImagingLine_closes :
    ((withSheet { sheet with lead := some 0, trail := some 8, gate := .opened } 80).lane 0).state.moving = true
      ∧ ({ sheet with lead := some 0, trail := some 8, gate := .opened } : Sheet).opens 80 = false
      ∧ ({ sheet with lead := some 0, trail := some 8, gate := .opened } : Sheet).closes 80 = true
      ∧ ({ sheet with lead := some 0, trail := some 8, gate := .opened } : Sheet).closes 79 = false
      ∧ (withPage { page with image := .opened }
          (withSheet { sheet with lead := some 0, trail := some 8, gate := .opened } 80)).live sheet.token
        = some (0, { page with image := .opened }) := by decide +kernel

theorem witness_GateOpensAtImagingLine_exits :
    (({ sheet with lead := some 0, trail := some 8, gate := .closed } : Sheet).opens 88 = false
      ∧ ({ sheet with lead := some 0, trail := some 8, gate := .closed } : Sheet).closes 88 = false
      ∧ ({ sheet with lead := some 0, trail := some 8, gate := .closed } : Sheet).exits 88 = true
      ∧ ({ sheet with lead := some 0, trail := some 8, gate := .closed } : Sheet).exits 87 = false)
      ∧ (((lane0 .runout).lane 0).path = [] ∧ ((lane0 .runout).lane 0).state = .runout)
      ∧ ((withSheet sheet 0).lane 0).path ≠ [] ∧ ((lane0 .jammed).lane 0).state.moving = false := by decide +kernel

/-! ### Witnesses: requests -/

theorem witness_lane_requests :
    (asked 3 [0] (lane0 .idle)).nextRequest = some (.a, laneRequest 3 7 0)
      ∧ (asked 3 [0] (lane0 .runout)).nextRequest = some (.a, laneRequest 3 7 0)
      ∧ (asked 3 [0] (lane0 .rampDown)).nextRequest = some (.a, laneRequest 3 7 0)
      ∧ (lane0 .idle).laneEnabled 0 = true ∧ State.reset.laneEnabled 0 = false
      ∧ (asked 4 [0] (lane0 .feeding)).nextRequest = some (.a, laneRequest 4 7 0)
      ∧ (asked 5 [0] (lane0 .feeding)).nextRequest = some (.a, laneRequest 5 7 0)
      ∧ (asked 6 [0] (lane0 .jammed)).nextRequest = some (.a, laneRequest 6 7 0) := by decide +kernel

theorem witness_MalformedRequestsRefused :
    (asked 0 [1] part).nextRequest = some (.a, ⟨0, 7, [1]⟩)
      ∧ (asked 3 [6] part).nextRequest = some (.a, ⟨3, 7, [6]⟩)
      ∧ (asked 10 [] part).nextRequest = some (.a, ⟨10, 7, []⟩)
      ∧ (asked 13 [] part).nextRequest = some (.a, ⟨13, 7, []⟩) := by decide +kernel

/-! ### Witnesses: speed and double-feed detection -/

/-- Lane 0 with a running ramp. -/
def ramping (k : Nat) : State :=
  (lane0 .rampUp).modLane 0 fun y => { y with target := 100, ramp := some ⟨0, 100, k, 50⟩ }

theorem witness_SpeedsFollowRamps :
    (((ramping 0).lane 0).ramp = some ⟨0, 100, 0, 50⟩ ∧ 0 + 1 < 50)
      ∧ (((ramping 49).lane 0).ramp = some ⟨0, 100, 49, 50⟩ ∧ 49 + 1 = 50)
      ∧ ((lane0 .idle).lane 0).ramp = none
      ∧ (((lane0 .rampUp).lane 0).speed ≠ 100 ∧ ((ramping 0).lane 0).ramp ≠ none)
      ∧ (((lane0 .feeding).lane 0).state = .feeding ∧ ((lane0 .feeding).chan 0).fillState = .opened)
      ∧ (((lane0 .feeding).setChan 0 ⟨[], .near, none⟩).chan
          ((lane0 .feeding).feedTables 0).cls[((lane0 .feeding).lane 0).batch.cls].primary).fillState ≠ .opened
      ∧ ((lane0 .feeding).lane 0).adoptingFrom = none
      ∧ (((lane0 .feeding).switchTo 0 1).lane 0).adoptingFrom = some 0
      ∧ ((((lane0 .feeding).switchTo 0 1).retarget 0).lane 0).target = 0
      ∧ (((lane0 .feeding).retarget 0).lane 0).target = 100 := by
  decide +kernel

/-- Lane 0 in a state at the speed it heads for. -/
def settled (x : LaneState) (v : Nat) : State := (lane0 x).modLane 0 fun y => { y with speed := v, target := v }

theorem witness_SpeedsFollowRamps_ends :
    (((settled .rampUp 100).lane 0).rampUpEnds = true
      ∧ (((settled .rampUp 100).lane 0).retarget ((settled .rampUp 100).targetOf 0)
          ((settled .rampUp 100).groupRec 0).slopeMs).rampUpEnds = true)
      ∧ (((settled .rampUp 100).modDfm 0 fun d => { d with calibration := .running 3 0 }).lane 0).rampUpEnds = false
      ∧ (((settled .rampDown 0).lane 0).state = .rampDown ∧ ((settled .rampDown 0).lane 0).speed = 0
        ∧ ((settled .rampDown 0).lane 0).ramp = none ∧ (settled .rampDown 0).laneEnabled 0 = true)
      ∧ ((settled .rampDown 1).lane 0).speed ≠ 0
      ∧ ({ settled .rampDown 0 with banks := State.reset.banks } : State).laneEnabled 0 = false := by decide +kernel

/-- Lane 0 with a calibration and a sonic state. -/
def monitored (c : Calibration) (bad : Bool) : State :=
  (lane0 .rampUp).modDfm 0 fun d => { d with calibration := c, degraded := bad, b16 := 8000, bref16 := 8000 }

theorem witness_AirSamplesUsed :
    ((monitored (.running 14 7000) false).lane 0).dfm.calibration = .running 14 7000
      ∧ ((monitored (.running 15 7500) true).lane 0).dfm.calibration = .running 15 7500
      ∧ (((monitored .done false).lane 0).dfm.calibration = .done
        ∧ ((monitored .done false).lane 0).dfm.degraded = false)
      ∧ ((monitored .done true).lane 0).dfm.degraded = true
      ∧ ((monitored .none false).lane 0).dfm.calibration = .none := by decide +kernel

/-- Lane 0 in a state at the position of its first air sample, with windows. -/
def onGrid (x : LaneState) (ws : List Window) : State :=
  (lane0 x).modLane 0 fun y => { y with high := 8, counter := 8, dfm := { y.dfm with windows := ws } }

theorem witness_AirSamplesUsed_grid :
    ((onGrid .feeding []).airPosition 0 = 8 ∧ ((onGrid .feeding []).lane 0).high = 8
      ∧ ((onGrid .feeding []).laneRec 0).sonicEnabled = true ∧ ((onGrid .feeding []).lane 0).dfm.windows = [])
      ∧ ((lane0 .feeding).lane 0).high < (lane0 .feeding).airPosition 0
      ∧ ((onGrid .jammed []).lane 0).state = .jammed
      ∧ ({ window with zoneStart := 8 } : Window).excludes 8 = true
      ∧ ({ window with zoneStart := 0, zoneEnd := some 8 } : Window).excludes 8 = false := by decide +kernel

theorem witness_SamplesClassifyAndComplete :
    (window.void = false ∧ window.next < 4)
      ∧ (4 ≤ ({ window with next := 4 } : Window).next ∧ ({ window with next := 4 } : Window).samples = none
        ∧ ({ window with next := 4 } : Window).zones = [])
      ∧ (withPage page part).live window.token = some (0, page) ∧ page.sonic = .pending
      ∧ (window.due 64 = true ∧ window.due 63 = false ∧ window.lead + window.offS = 64)
      ∧ (({ window with samples := some 1, zoneEnd := some 65 } : Window).due 64 = true
        ∧ ({ window with samples := some 1, next := 1 } : Window).due 64 = false)
      ∧ ((lane0 .feeding).lane 0).state.moving = true := by decide +kernel

/-! ### Witnesses: image intake -/

/-- The page in entry 0 with its image OPEN. -/
def opened : Page := { page with state := .inPath, image := .opened }

/-- That page on an UP head link. -/
def receiving (p : Page) : State := up (.head 0) (withPage p (lane0 .feeding))

theorem witness_DataTakesPoolCell :
    (receiving opened).linkUp (.head 0) = true ∧ (receiving opened).live 0 = some (0, opened)
      ∧ FreeList.take? (receiving opened).pool = some (0, [⟨1, 65535⟩])
      ∧ FreeList.take? ({ receiving opened with pool := [] } : State).pool = none
      ∧ (receiving { opened with flags := { PageFlags.empty with truncated := true } }).linkUp (.head 0) = true := by
  decide +kernel

theorem witness_HeadCellsWithoutEffect :
    ((receiving page).linkUp (.head 0) = true ∧ (receiving page).live 64 = none
      ∧ (receiving page).live 0 = some (0, page) ∧ page.image ≠ .opened)
      ∧ part.linkUp (.head 0) = false := by decide +kernel

theorem witness_ImagesClose :
    (receiving { opened with imageTimer := some 0 }).live 0 = some (0, { opened with imageTimer := some 0 })
      ∧ (receiving { opened with imageTimer := some 0 }).linkUp (.head 0) = true ∧ opened.close = none := by
  decide +kernel

theorem witness_HeadLinkLossClosesImages :
    (receiving opened).linkUp (.head 0) = true ∧ (receiving opened).pageAt 0 = some opened
      ∧ (receiving page).pageAt 0 = some page := by decide +kernel

/-! ### Witnesses: holds, rescans and release -/

/-- The page in entry 0, HELD. -/
def held : Page := { whole with state := .held, holdReason := some .verdict }

theorem witness_ResolveRefusedInOrder :
    (asked 7 [0, 2, 5] (withPage held part)).nextRequest = some (.a, ⟨7, 7, [0, 2, 5]⟩)
      ∧ (asked 7 [0, 3, 0] (withPage held part)).nextRequest = some (.a, ⟨7, 7, [0, 3, 0]⟩)
      ∧ ((asked 7 [64, 0, 0] (withPage held part)).nextRequest = some (.a, ⟨7, 7, [64, 0, 0]⟩)
        ∧ (asked 7 [64, 0, 0] (withPage held part)).live 64 = none)
      ∧ ((asked 7 [0, 2, 4] (withPage { held with pos := ⟨0, 1⟩ } part)).live 0
          = some (0, { held with pos := ⟨0, 1⟩ }) ∧ 4 < 1 + 4) := by decide +kernel

theorem witness_HoldsAndSlotsResolved :
    ((asked 7 [0, 0, 0] (withPage held part)).nextRequest = some (.a, ⟨7, 7, [0, 0, 0]⟩)
      ∧ (asked 7 [0, 0, 0] (withPage held part)).live 0 = some (0, held) ∧ held.image ≠ .notOpen)
      ∧ (asked 7 [0, 1, 0] (withPage held part)).nextRequest = some (.a, ⟨7, 7, [0, 1, 0]⟩)
      ∧ ((asked 7 [0, 2, 4] (withPage held part)).nextRequest = some (.a, ⟨7, 7, [0, 2, 4]⟩)
        ∧ (asked 7 [0, 2, 4] (withPage held part)).slotRangeRefused 0 ⟨0, 0⟩ 4 = false)
      ∧ ((asked 8 [0, 1, 0, 0, 0, 3] part).nextRequest = some (.a, ⟨8, 7, [0, 1, 0, 0, 0, 3]⟩)
        ∧ field [0, 1, 0, 0, 0, 3] 1 4 = 1 ∧ field [0, 1, 0, 0, 0, 3] 5 1 = 3)
      ∧ field [6, 1, 0, 0, 0, 4] 0 1 = 6 := by decide +kernel

theorem witness_ReleaseHeadIsLeastLive :
    ((part.modLane 0 fun x => { x with slots := [⟨0, 1⟩] }).lane 0).SlotsSound
      ∧ (part.lane 0).SlotsSound ∧ (withPage whole part).releaseHead 0 = .page 0 whole
      ∧ (part.modLane 0 fun x => { x with slots := [⟨0, 1⟩] }).releaseHead 0 = .slot ⟨0, 1⟩
      ∧ part.releaseHead 0 = .none := by
  unfold Lane.SlotsSound
  decide +kernel

/-! ### Witnesses: batches, documents and classes -/

/-- The page in entry 0, READY. -/
def readyPage : Page := { whole with state := .ready }

/-- That page with its release information. -/
def numbered : Page := { readyPage with release := some ⟨0, 1, 1, 0, true, true⟩ }

theorem witness_SequencerTakesHead :
    ((withPage readyPage part).releaseHead 0 = .page 0 readyPage ∧ readyPage.state = .ready
      ∧ readyPage.release = none ∧ ((withPage readyPage part).lane 0).batch.seqState = .idle)
      ∧ (withPage numbered part).releaseHead 0 = .page 0 numbered ∧ numbered.release.isSome = true
      ∧ (withPage readyPage part).live 0 = some (0, readyPage) := by decide +kernel

theorem witness_PagesMarkedAndNumbered :
    (withPage readyPage part).live 0 = some (0, readyPage) ∧ readyPage.closeInfo.mark = 0
      ∧ ({ readyPage with close := some ⟨0, true, none⟩ } : Page).closeInfo.blank = true
      ∧ (part.lane 0).batch.startDoc = true := by decide +kernel

theorem witness_EnqueueAttemptsAndStalls :
    ((withPage numbered part).live 0 = some (0, numbered) ∧ (part.classRec 0 0).mirror ≠ some (part.classRec 0 0).primary
      ∧ (part.classRec 0 0).enabled = true ∧ (part.channelRec 0).enabled = true ∧ (part.chan 0).queue = [])
      ∧ (State.reset.classRec 0 0).enabled = false
      ∧ ((part.channelRec 0).limit < (queued 64 0 part |>.chan 0).fill + 1 ∧ (queued 64 0 part |>.chan 0).queue ≠ [])
      ∧ ((part.modBatch 0 fun b => { b with waitTimer := some 2000 }).lane 0).batch.waitTimer = some 2000
      ∧ (part.lane 0).batch.waitTimer = none := by decide +kernel

/-- Lane 0 waits with its READY page for room. -/
def awaiting (s : State) : State := (withPage numbered s).modBatch 0 fun b => { b with seqState := .waiting 0 }

theorem witness_EnqueueAttemptsAndStalls_retries :
    ((awaiting part).retryAdmits none 0 = true ∧ (awaiting part).retryAdmits (some 0) 0 = true
      ∧ (awaiting part).retryAdmits (some 1) 0 = false)
      ∧ ((awaiting (queued 63 0 part)).retryAdmits none 0 = true ∧ (part.channelRec 0).limit = 64
        ∧ (awaiting (queued 64 0 part)).retryAdmits none 0 = false)
      ∧ (awaiting State.reset).retryAdmits none 0 = false ∧ (part.lane 1).batch.seqState = .idle := by decide +kernel

/-! ### Witnesses: channels and trunks -/

/-- The page in entry 0, QUEUED with copies outstanding. -/
def queuedPage (n : Nat) : Page := { numbered with state := .queued, copies := n }

theorem witness_ChannelCellSentAdvances :
    ((sending (.channel 0 true) (queued 2 0 part)).trunk .a).tx = some ⟨.channel 0 true, idleCell⟩
      ∧ ((queued 2 0 part).chan 0).queue = [⟨0, 2, 0⟩]
      ∧ ((queued 1 0 (withPage (queuedPage 2) part)).live 0 = some (0, queuedPage 2) ∧ (queuedPage 2).copies = 2)
      ∧ ((queued 1 0 (withPage (queuedPage 1) part)).live 0 = some (0, queuedPage 1) ∧ (queuedPage 1).copies = 1)
      ∧ ((sending (.channel 0 false) part).trunk .a).tx = some ⟨.channel 0 false, idleCell⟩
      ∧ (part.trunk .a).tx = none := by decide +kernel

theorem witness_ChannelsFillAndPause :
    (1 ≤ (part.channelRec 0).ease ∧ (part.channelRec 0).ease < (part.channelRec 0).near
      ∧ (part.channelRec 0).near ≤ (part.channelRec 0).full)
      ∧ ((up (.trunk .b) part).linkUp (.trunk .b) = true ∧ (15 : ChanId).val = 8 + (8 : Byte).toNat - 1
        ∧ 8 < (9 : Byte).toNat ∧ (0 : ChanId).val = 0 + (1 : Byte).toNat - 1)
      ∧ ((part.setChan 15 ⟨[], .opened, some 0⟩).chan 15).pauseTimer.isSome = true
      ∧ (part.chan 15).pauseTimer = none ∧ part.linkUp (.trunk .b) = false := by decide +kernel

theorem witness_TransmitSlotsAndCells :
    ((up (.trunk .a) (replying none part)).linkUp (.trunk .a) = true
      ∧ ((up (.trunk .a) (replying none part)).trunk .a).tx = none)
      ∧ (part.mgmtTrunk = .a ∧ part.reportChoice = some Ev.partReset)
      ∧ (part.mgmtTrunk ≠ .b
        ∧ ((queued 2 0 part).setChan 8 ⟨[⟨0, 2, 0⟩], .opened, none⟩).eligible (trunkChan .b 0) = true) := by
  decide +kernel

/-! ### Witnesses: table banks -/

/-- A GROUP record: target 500, throttle 200, slope 100. -/
def group1 : List Byte := [1, 1, 0xF4, 0x01, 0xC8, 0, 0x64, 0]

theorem witness_TableLoadWritesShadow :
    ((asked 0 group1 part).nextRequest = some (.a, ⟨0, 7, group1⟩) ∧ field group1 0 1 = TableId.group.code
      ∧ group1.length = 2 + TableId.group.recordLength)
      ∧ part.otherRole = .shadow
      ∧ (tables.load .group 1 (group1.drop 2)).isSome = true
      ∧ tables.load .group 3 (group1.drop 2) = none
      ∧ ((asked 0 [6, 0] part).nextRequest = some (.a, ⟨0, 7, [6, 0]⟩) ∧ 5 < field [6, 0] 0 1)
      ∧ ((asked 0 [1, 0, 9] part).nextRequest = some (.a, ⟨0, 7, [1, 0, 9]⟩)
        ∧ [1, 0, 9].length ≠ 2 + TableId.group.recordLength) := by decide +kernel

theorem witness_TableLoadWritesShadow_fields :
    (tables.load .lane 0 (List.replicate 24 255)).isSome = true ∧ (LaneRec.load (List.replicate 24 255)).2 = true
      ∧ ((tables.load .group 2 [99, 0, 0xDD, 0x05, 49, 0]).map fun x => (x.1.group[(2 : Fin 3)], x.2))
        = some (⟨100, 1500, 0⟩, true)
      ∧ (tables.load .profile 15 (List.replicate 28 0)).isSome = true
      ∧ (tables.load .markmap 3 (List.replicate 30 6)).isSome = true
      ∧ (tables.load .cls 31 (List.replicate 6 0)).isSome = true
      ∧ (tables.load .channel 15 (List.replicate 20 0)).isSome = true
      ∧ tables.load .profile 0 ((List.replicate 28 0).set 23 3) = none
      ∧ tables.load .markmap 0 (List.replicate 30 7) = none := by decide +kernel

theorem witness_RecordsReadAndLoadAgree :
    Tables.zeroed.InRange ∧ 31 < TableId.cls.entries ∧ 0 < TableId.lane.entries :=
  ⟨zeroed_inRange, by decide, by decide⟩

theorem witness_CommitMakesPending :
    (asked 1 [1] part).nextRequest = some (.a, ⟨1, 7, [1]⟩) ∧ (asked 1 [2] part).nextRequest = some (.a, ⟨1, 7, [2]⟩)
      ∧ (part.banks[part.otherBank]).fault = none
      ∧ (State.reset.banks[State.reset.otherBank]).fault = some (.profile, 0)
      ∧ ({ tables with group := tables.group.set 2 ⟨100, 101, 0⟩ } : Tables).fault = some (.group, 2)
      ∧ ({ tables with
          markmap := tables.markmap.set 3 (Vector.replicate 15 (.classKeep 31))
          cls := tables.cls.set 31 ClassRec.zeroed } : Tables).fault = some (.markmap, 3) := by decide +kernel

theorem witness_TableReadAnswersRecord :
    (asked 2 [2, 1, 0] part).nextRequest = some (.a, ⟨2, 7, [2, 1, 0]⟩)
      ∧ (part.banks[part.activeBank]).recordBytes .group 0 = some [100, 0, 100, 0, 0, 0]
      ∧ (part.banks[part.otherBank]).recordBytes .group 0 = some [100, 0, 100, 0, 0, 0]
      ∧ ({ part with otherRole := .pending 1 } : State).otherRole = .pending 1
      ∧ (asked 2 [3, 1, 0] part).nextRequest = some (.a, ⟨2, 7, [3, 1, 0]⟩)
      ∧ (asked 2 [0, 6, 0] part).nextRequest = some (.a, ⟨2, 7, [0, 6, 0]⟩)
      ∧ ((asked 2 [0, 1, 3] part).nextRequest = some (.a, ⟨2, 7, [0, 1, 3]⟩) ∧ TableId.group.entries ≤ 3) := by
  decide +kernel

/-- A part with generation 1 pending. -/
def pendingPart : State := { part with otherRole := .pending 1 }

/-- That part when every lane but lane 0 has adopted. -/
def lastPart : State :=
  { pendingPart with lanes := (Vector.replicate 6 { Lane.reset with adopted := true }).set 0 Lane.reset }

/-- Lane 0 in a state under tables whose lanes are all disabled. -/
def disabledLanes (x : LaneState) : State := { lane0 x with banks := State.reset.banks }

theorem witness_AdoptionSwitchesLane :
    (pendingPart.otherRole = .pending 1 ∧ (pendingPart.lane 0).adopted = false ∧ part.pendingGen = none
      ∧ (pendingPart.lane 0).batch.seqState = .idle)
      ∧ ((pendingPart.modBatch 0 fun b => { b with seqState := .waiting 0 }).lane 0).batch.seqState = .waiting 0
      ∧ (pendingPart.lane 1).adopted = false
      ∧ ∀ m, m ≠ 0 → (lastPart.lane m).adopted = true ∧ (lastPart.lane 0).adopted = false := by
  decide +kernel

theorem witness_AdoptionSwitchesLane_moment :
    ((pendingPart.lane 0).state = .off ∧ pendingPart.mayAdopt 0 = true ∧ pendingPart.atMoment 0 = true)
      ∧ ({ lane0 .idle with otherRole := .pending 1 } : State).atMoment 0 = true
      ∧ (withPage numbered (lane0 .idle)).atMoment 0 = false
      ∧ ((lane0 .idle).modLane 0 fun y => { y with slots := [⟨0, 1⟩] }).atMoment 0 = false
      ∧ (lane0 .feeding).atMoment 0 = false ∧ lastPart.mayAdopt 1 = false ∧ part.mayAdopt 0 = false := by
  decide +kernel

/-- Of lanes 0 to 2, lane 0 feeds and lane 1 waits for room; lane 2 rests and adopts first. -/
theorem witness_CommitMakesPending_adopt :
    (({ lane0 .feeding with otherRole := .pending 1 } : State).mayAdopt 0 = true
      ∧ ({ lane0 .feeding with otherRole := .pending 1 } : State).adoptsAlone 0 = false)
      ∧ (pendingPart.modBatch 1 fun b => { b with seqState := .waiting 0 }).adoptsAlone 1 = false
      ∧ (pendingPart.mayAdopt 2 = true ∧ pendingPart.adoptsAlone 2 = true) ∧ lastPart.mayAdopt 3 = false := by
  decide +kernel

theorem witness_AdoptionSwitchesLane_steps :
    ((1 : Gen) ≠ part.channelGen
      ∧ FillState.settle (part.channelRec 0) ((queued 32 0 part).chan 0).fill .opened = .full
      ∧ (part.channelRec 0).enabled = true ∧ (State.reset.channelRec 0).enabled = false)
      ∧ ((lane0 .off).laneEnabled 0 = true ∧ (disabledLanes .idle).laneEnabled 0 = false
        ∧ ((disabledLanes .holding).lane 0).state = .holding ∧ (disabledLanes .off).laneEnabled 0 = false)
      ∧ ((part.laneRec 0).sonicEnabled = true ∧ ((disabledLanes .idle).laneRec 0).sonicEnabled = false) := by
  decide +kernel

theorem witness_RetirementAndBankCopy :
    (∀ l, ((pendingPart.switchTo l 1).lane l).adopted = true)
      ∧ ({ pendingPart with lanes := Vector.replicate 6 { Lane.reset with adopted := true } } : State).allAdopted = true
      ∧ (pendingPart.lane 0).adopted = false
      ∧ ({ part with otherRole := .retired 0 } : State).copying = true := by decide +kernel

/-! ### Witnesses: management, events and links -/

theorem witness_RequestsQueueAndAlternate :
    ((up (.trunk .a) part).linkUp (.trunk .a) = true ∧ ((up (.trunk .a) part).trunk .a).requests.length < 4)
      ∧ (((up (.trunk .a) part).setTrunk .a { (up (.trunk .a) part).trunk .a with
          requests := List.replicate 4 ⟨9, 0, []⟩ }).trunk .a).requests.length = 4
      ∧ part.linkUp (.trunk .a) = false := by decide +kernel

theorem witness_StatusReadAnswers :
    (asked 9 [5, 19] part).nextRequest = some (.a, ⟨9, 7, [5, 19]⟩)
      ∧ (asked 9 [1, 6] part).nextRequest = some (.a, ⟨9, 7, [1, 6]⟩)
      ∧ (asked 9 [2, 0] (withPage page part)).live 0 = some (0, page) ∧ part.live 0 = none := by decide +kernel

theorem witness_RepliesAndResetsGoOut :
    (asked 10 [0] part).nextRequest = some (.a, ⟨10, 7, [0]⟩)
      ∧ (asked 10 [1] part).nextRequest = some (.a, ⟨10, 7, [1]⟩)
      ∧ (((sending .reply (replying none part)).trunk .a).tx = some ⟨.reply, idleCell⟩
        ∧ ((sending .reply (replying none part)).trunk .a).reply = some ⟨10, 7, .ok, [], none⟩)
      ∧ ((sending (.report 0) part).trunk .a).tx = some ⟨.report 0, idleCell⟩ ∧ (part.trunk .b).tx = none
      ∧ (asked 10 [2] part).nextRequest = some (.a, ⟨10, 7, [2]⟩) := by
  decide +kernel

theorem witness_EventSetAndClear :
    (asked 11 [19, 1, 3] part).nextRequest = some (.a, ⟨11, 7, [19, 1, 3]⟩)
      ∧ (asked 11 [20, 1, 3] part).nextRequest = some (.a, ⟨11, 7, [20, 1, 3]⟩)
      ∧ (asked 12 [0, 63, 0] part).nextRequest = some (.a, ⟨12, 7, [0, 63, 0]⟩) ∧ 63 < 2 ^ Ev.sourceCount 0
      ∧ (asked 12 [19, 2, 0] part).nextRequest = some (.a, ⟨12, 7, [19, 2, 0]⟩) ∧ 2 ^ Ev.sourceCount 19 ≤ 2 := by
  decide +kernel

theorem witness_OccurrencesLatch :
    5 < Ev.sourceCount Ev.laneJammed ∧ Ev.sourceCount Ev.laneJammed ≤ 6 ∧ 15 < Ev.sourceCount Ev.pauseExpired
      ∧ (part.event Ev.headDown).raw.getLsbD 5 = false := by decide +kernel

theorem witness_LinkStatesChange :
    (part.link (.head 0)).state = .down
      ∧ ((part.setLink (.head 0) ⟨.training, 7, 3, 0⟩).link (.head 0)).idleRun = 7
      ∧ ((part.setLink (.trunk .b) ⟨.training, 6, 2, 0⟩).link (.trunk .b)).idleRun < 7
      ∧ ((part.setLink (.trunk .b) ⟨.up, 8, 3, 65535⟩).link (.trunk .b)).badRun = 3 := by decide +kernel

theorem witness_TrunkLossEffects :
    (up (.trunk .a) (sending (.report 19) part)).linkUp (.trunk .a) = true
      ∧ (((part.setTrunk .b { part.trunk .b with hasBeenUp := true }).trunk .b).hasBeenUp = true
        ∧ (part.event Ev.trunkDown).raw.getLsbD 1 = false)
      ∧ ((up (.trunk .a) (sending (.report 19) part)).trunk .a).reply = none
      ∧ ((up (.trunk .a) (sending (.report 19) part)).event 19).latch = true
      ∧ ((up (.trunk .a) (replying (some .full) part)).linkUp (.trunk .a) = true
        ∧ ((up (.trunk .a) (replying (some .full) part)).trunk .a).reply = some ⟨10, 7, .ok, [], some .full⟩)
      ∧ ((up (.trunk .a) (replying (some .line) part)).linkUp (.trunk .a) = true
        ∧ ((up (.trunk .a) (replying (some .line) part)).trunk .a).reply = some ⟨10, 7, .ok, [], some .line⟩) := by
  decide +kernel

theorem witness_SentCellsAreValid :
    idleCell.kind ∈ Kind.all ∧ idleCell.payload.length ≤ 1024
      ∧ (part.link (.head 0)).state = .down ∧ ((up (.head 0) part).link (.head 0)).state = .up
      ∧ (up (.head 0) part).offered (.head 0) = none := by decide +kernel

/-- The bytes of a received cell with a kind, a channel and the first special byte. -/
def received (kind : Byte) (channel : Nat) (special : Byte) : List Byte :=
  OutCell.bytes ⟨kind, channel, 0, false, [special, 7], []⟩

theorem witness_SentCellsAreValid_received :
    (validCell idleCell.bytes = true ∧ field idleCell.bytes 0 1 = 0x00 ∧ validCell (idleCell.bytes.drop 1) = false)
      ∧ (validCell (received 0x01 0 0) = true ∧ field (received 0x01 0 0) 0 1 = 0x01)
      ∧ (validCell (received 0x02 0 0x1F) = true ∧ field (received 0x02 0 0x1F) 6 1 % 16 = 15)
      ∧ (validCell (received 0x03 0 0) = true ∧ field (received 0x03 0 0) 0 1 = 0x03)
      ∧ (validCell (received 0x20 0 3) = true ∧ field (received 0x20 0 3) 1 1 = 0)
      ∧ (validCell (received 0x20 1 3) = true ∧ field (received 0x20 1 3) 1 1 = 1)
      ∧ (validCell (received 0x23 8 1) = true ∧ validCell (received 0x23 8 0) = true)
      ∧ (validCell (received 0x10 0 0) = true ∧ validCell (received 0x11 0 0) = false) := by decide +kernel

/-! ### A step on the smallest states -/

theorem test_forward_step_from_reset :
    (match step { part with pending := [.encoderForwardStep 0 500] } with
      | .next t => decide ((t.lane 0).amplitude = 500 ∧ (t.lane 0).counter = 0 ∧ t.pending = [])
      | _ => false) = true := by decide +kernel

theorem test_lane_start_from_idle :
    (match step { asked 3 [0] (lane0 .idle) with pending := [.laneStart] } with
      | .next t => decide ((t.lane 0).state = .rampUp ∧ (t.lane 0).speed = 100
          ∧ (t.trunk .a).reply = some ⟨3, 7, .ok, [], none⟩)
      | _ => false) = true := by decide +kernel

theorem test_power_on_latches_part_reset :
    (match step { part with pending := [.powerOn] } with
      | .next t => decide ((t.event Ev.partReset).latch = true ∧ t.banks[(0 : Fin 2)] = Tables.zeroed)
      | _ => false) = true := by decide +kernel

end Sys2Proof.Tests
end

section
/-! What a token names, which entry an allocation takes, and what freeing an entry does (R1, R2, R4, R8). -/

namespace Sys2Proof.Machine

/-- The index a token names is the token less 64 times its incarnation (R1). -/
theorem eq_tokenIndex_iff (token : Nat) (i : Fin 64) : i = tokenIndex token ↔ i.val = token - 64 * (token / 64) := by
  simp only [Fin.ext_iff, tokenIndex]
  omega

/-- A token is live exactly while its entry is not FREE and has its incarnation (R1). -/
theorem State.live_eq_some (s : State) (token : Nat) (i : Fin 64) (p : Page) :
    s.live token = some (i, p) ↔
      i = tokenIndex token ∧ s.pageAt i = some p ∧ (s.entry i).incarnation = token / 64 := by
  refine ⟨State.live_entry, ?_⟩
  rintro ⟨rfl, page, incarnation⟩
  unfold State.pageAt at page
  simp [State.live, page, incarnation]

/-- No token names a FREE entry (R1). -/
theorem State.live_of_free {s : State} {token : Nat} (h : s.pageAt (tokenIndex token) = none) :
    s.live token = none := by
  unfold State.pageAt at h
  simp [State.live, h]

theorem State.tokenOf_div (s : State) (i : Fin 64) : s.tokenOf i / 64 = (s.entry i).incarnation := by
  unfold State.tokenOf
  omega

@[simp] theorem State.tokenIndex_tokenOf (s : State) (i : Fin 64) : tokenIndex (s.tokenOf i) = i := by
  rw [eq_comm, eq_tokenIndex_iff, s.tokenOf_div, State.tokenOf]
  omega

/-- The token of a page names it (R1). -/
theorem State.live_tokenOf {s : State} {i : Fin 64} {p : Page} (h : s.pageAt i = some p) :
    s.live (s.tokenOf i) = some (i, p) :=
  (s.live_eq_some _ i p).2 ⟨(s.tokenIndex_tokenOf i).symm, h, (s.tokenOf_div i).symm⟩

theorem mem_allEntries (i : Fin 64) : i ∈ allEntries := by simp [allEntries]

/-- The entry found is FREE and every entry below it is taken (R4). -/
theorem State.lowestFree_eq_some (s : State) (i : Fin 64) :
    s.lowestFree = some i ↔ s.pageAt i = none ∧ ∀ j : Fin 64, j < i → s.pageAt j ≠ none := by
  unfold State.lowestFree allEntries
  rw [List.find?_eq_some_iff_getElem]
  simp only [List.getElem_finRange, List.length_finRange, Option.isNone_iff_eq_none, Bool.not_eq_true',
    Option.isNone_eq_false_iff, Option.isSome_iff_ne_none]
  refine and_congr_right fun _ => ⟨?_, fun below => ⟨i, i.isLt, rfl, fun j hj => below _ hj⟩⟩
  rintro ⟨n, _, rfl, below⟩ j hj
  exact below j hj

/-- An allocation is granted the lowest FREE entry, to a lane with fewer than 24 pages (R4). -/
theorem State.grantedEntry_eq_some (s : State) (l : LaneId) (i : Fin 64) :
    s.grantedEntry l = some i ↔
      s.laneNonFree l < 24 ∧ s.pageAt i = none ∧ ∀ j : Fin 64, j < i → s.pageAt j ≠ none := by
  unfold State.grantedEntry
  split <;> simp [*, State.lowestFree_eq_some]

/-- The FREE entry advances its incarnation, and the page's cells go back to the pool (R2, R107). -/
theorem State.freeEntry_of_page {s : State} {i : Fin 64} {p : Page} (h : s.pageAt i = some p) :
    s.freeEntry i = { s.setEntry i ⟨((s.entry i).incarnation + 1) % 4, none⟩ with
      pool := FreeList.appendAll s.pool p.cells } := by
  unfold State.freeEntry
  rw [h]

/-- Freeing a FREE entry changes nothing. -/
theorem State.freeEntry_of_free {s : State} {i : Fin 64} (h : s.pageAt i = none) : s.freeEntry i = s := by
  unfold State.freeEntry
  rw [h]

theorem State.freeEntry_entry_self {s : State} {i : Fin 64} {p : Page} (h : s.pageAt i = some p) :
    (s.freeEntry i).entry i = ⟨((s.entry i).incarnation + 1) % 4, none⟩ := by
  rw [State.freeEntry_of_page h]
  exact s.setEntry_entry_self i _

@[simp] theorem State.freeEntry_pageAt_self (s : State) (i : Fin 64) : (s.freeEntry i).pageAt i = none := by
  cases h : s.pageAt i with
  | none => rw [State.freeEntry_of_free h, h]
  | some p => rw [State.pageAt, State.freeEntry_entry_self h]

theorem State.freeEntry_otherEntries (s : State) (i : Fin 64) : OtherEntries s (s.freeEntry i) i := by
  intro j hj
  cases h : s.pageAt i with
  | none => rw [State.freeEntry_of_free h]
  | some p =>
    rw [State.freeEntry_of_page h]
    exact s.setEntry_entry_ne i j _ hj.symm

theorem State.freeEntry_pool_cells {s : State} {i : Fin 64} {p : Page} (h : s.pageAt i = some p) :
    FreeList.cells (s.freeEntry i).pool = FreeList.cells s.pool ++ p.cells := by
  rw [State.freeEntry_of_page h]
  exact FreeList.appendAll_cells p.cells s.pool

theorem State.freeEntry_frame (s : State) (i : Fin 64) :
    s.freeEntry i = { s with entries := (s.freeEntry i).entries, pool := (s.freeEntry i).pool } := by
  cases h : s.pageAt i with
  | none => rw [State.freeEntry_of_free h]
  | some p => rw [State.freeEntry_of_page h]; rfl

/-- The token of a freed page is stale (R1, R2). -/
theorem State.freeEntry_stale (s : State) (i : Fin 64) : (s.freeEntry i).live (s.tokenOf i) = none :=
  State.live_of_free (by simp)

/-- Settles O15: the three parts are the rules above, of tokens, of a grant and of freeing. -/
theorem entriesAndTokens : Obligations.EntriesAndTokens := by
  refine ⟨⟨fun s token i p => ?_, fun s i p page => ⟨rfl, State.live_tokenOf page⟩⟩,
    State.grantedEntry_eq_some, fun s i p page => ⟨State.freeEntry_entry_self page, State.freeEntry_pool_cells page, s.freeEntry_stale i,
      s.freeEntry_otherEntries i, s.freeEntry_frame i⟩⟩
  rw [State.live_eq_some, eq_tokenIndex_iff]

end Sys2Proof.Machine
end

section
/-! The verdict and the action of a page, and the sub-act that assembles them (R16, R17, R18). -/

namespace Sys2Proof.Machine

/-! ### The most severe policy (R17) -/

theorem Action.worse_eq_stop (a b : Action) : a.worse b = .stop ↔ a = .stop ∨ b = .stop := by
  cases a <;> cases b <;> simp [Action.worse]

theorem Action.worse_eq_pass (a b : Action) : a.worse b = .pass ↔ a = .pass ∧ b = .pass := by
  cases a <;> cases b <;> simp [Action.worse]

theorem policyOf_eq_stop (present : Bool) (a : Action) : policyOf present a = .stop ↔ present ∧ a = .stop := by
  cases present <;> simp [policyOf]

theorem policyOf_eq_pass (present : Bool) (a : Action) : policyOf present a = .pass ↔ (present → a = .pass) := by
  cases present <;> simp [policyOf]

/-- STOP is the action exactly when a flag present has it as its policy; LOST has HOLD (R17). -/
theorem PageFlags.action_eq_stop (f : PageFlags) (r : ProfileRec) :
    f.action r = .stop ↔
      (f.truncated ∧ r.polTruncated = .stop) ∨ (f.double ∧ r.polDouble = .stop)
      ∨ (f.long ∧ r.polLong = .stop) ∨ (f.short ∧ r.polShort = .stop)
      ∨ (f.unverified ∧ r.polUnverified = .stop) := by
  simp [PageFlags.action, Action.worse_eq_stop, policyOf_eq_stop, or_assoc]

/-- PASS is the action exactly when it is the policy of every flag present (R17). -/
theorem PageFlags.action_eq_pass (f : PageFlags) (r : ProfileRec) :
    f.action r = .pass ↔
      ¬f.lost ∧ (f.truncated → r.polTruncated = .pass) ∧ (f.double → r.polDouble = .pass)
      ∧ (f.long → r.polLong = .pass) ∧ (f.short → r.polShort = .pass)
      ∧ (f.unverified → r.polUnverified = .pass) := by
  simp [PageFlags.action, Action.worse_eq_pass, policyOf_eq_pass, and_assoc]

/-! ### What an action entails (R18) -/

theorem enterRunout_mem_actionTasks (l m : LaneId) (a : Action) :
    Task.enterRunout m ∈ actionTasks l a ↔ m = l ∧ a = .stop := by
  cases a <;> simp [actionTasks]

theorem release_mem_actionTasks (l m : LaneId) (a : Action) :
    Task.release m ∈ actionTasks l a ↔ m = l ∧ a = .pass := by
  cases a <;> simp [actionTasks]

theorem holds_mem_actionTasks (l : LaneId) (a : Action) : Task.holds ∈ actionTasks l a ↔ a ≠ .pass := by
  cases a <;> simp [actionTasks]

/-! ### Occurrences and page records -/

/-- An occurrence at a source of the class (R193). -/
theorem State.occur_of_source (s : State) {c : Fin 20} {src : Nat} (h : src < Ev.sourceCount c) :
    s.occur c src = s.setEvent c ((s.event c).occur src) := if_pos h

/-- Every lane is a source of PAGE_HELD. -/
theorem Ev.lane_source_pageHeld (l : LaneId) : l.val < Ev.sourceCount Ev.pageHeld := l.isLt

theorem State.modPage_otherEntries (s : State) (i : Fin 64) (f : Page → Page) : OtherEntries s (s.modPage i f) i :=
  fun j hj => s.setEntry_entry_ne i j _ hj.symm

/-! ### The sub-act (R16) -/

/-- The three parts of R15. -/
theorem Page.complete_iff (p : Page) :
    p.complete = true ↔ p.lengthMm.isSome ∧ p.sonic ≠ .pending ∧ p.image = .closed := by
  simp [Page.complete, and_assoc]

/-- The page record after the verdict; PAGE_HELD unless the action is PASS (R17, R18). -/
def State.judge (s : State) (i : Fin 64) (p : Page) : State :=
  if p.flags.action (s.pickProfileRec p.lane p.genPick) = .pass then
    s.modPage i fun q => q.judged (s.pickProfileRec p.lane p.genPick)
  else (s.modPage i fun q => q.judged (s.pickProfileRec p.lane p.genPick)).occur Ev.pageHeld p.lane.val

/-- The last part of an IN_PATH page brings its verdict (R16). -/
theorem handle_assemble_complete {s : State} {token : Nat} {i : Fin 64} {p : Page} (live : s.live token = some (i, p))
    (inPath : p.state = .inPath) (complete : p.complete = true) :
    handle (.assemble token) s =
      (s.judge i p, actionTasks p.lane (p.flags.action (s.pickProfileRec p.lane p.genPick))) := by
  rw [handle_assemble, onAssemble, live]
  simp only [inPath, complete, and_self, if_true]
  rfl

/-- In any other state, or before the last part, nothing happens (R16). -/
theorem handle_assemble_idle {s : State} {token : Nat} {i : Fin 64} {p : Page} (live : s.live token = some (i, p))
    (h : ¬(p.state = .inPath ∧ p.complete = true)) : handle (.assemble token) s = (s, []) := by
  rw [handle_assemble, onAssemble, live]
  simp only [if_neg h]

/-- A verdict changes the page's record and the events, and nothing else. -/
theorem State.judge_frame (s : State) (i : Fin 64) (p : Page) :
    s.judge i p = { s.modPage i fun q => q.judged (s.pickProfileRec p.lane p.genPick) with
      events := (s.judge i p).events } := by
  unfold State.judge
  split
  · rfl
  · rw [State.occur_of_source _ (Ev.lane_source_pageHeld p.lane)]
    rfl

theorem State.judge_entry (s : State) (i j : Fin 64) (p : Page) :
    (s.judge i p).entry j = (s.modPage i fun q => q.judged (s.pickProfileRec p.lane p.genPick)).entry j := by
  rw [s.judge_frame i p]
  rfl

theorem State.judge_pageAt {s : State} {i : Fin 64} {p : Page} (page : s.pageAt i = some p) :
    (s.judge i p).pageAt i = some (p.judged (s.pickProfileRec p.lane p.genPick)) := by
  rw [State.pageAt, State.judge_entry]
  exact (s.modPage_pageAt_self i _).trans (by rw [page]; rfl)

theorem State.judge_otherEntries (s : State) (i : Fin 64) (p : Page) : OtherEntries s (s.judge i p) i := fun j hj =>
  (s.judge_entry i j p).trans (s.modPage_otherEntries i _ j hj)

theorem State.judge_events_of_pass {s : State} {p : Page} (i : Fin 64)
    (pass : p.flags.action (s.pickProfileRec p.lane p.genPick) = .pass) : (s.judge i p).events = s.events := by
  rw [State.judge, if_pos pass]
  rfl

theorem State.judge_pageHeld {s : State} {p : Page} (i : Fin 64)
    (held : p.flags.action (s.pickProfileRec p.lane p.genPick) ≠ .pass) :
    (s.judge i p).event Ev.pageHeld = (s.event Ev.pageHeld).occur p.lane.val := by
  rw [State.judge, if_neg held, State.occur_of_source _ (Ev.lane_source_pageHeld p.lane),
    State.setEvent_event_self, State.modPage_event]

/-- Settles O16: the verdict and action by the flags, then the two outcomes of the sub-act. -/
theorem verdictAssembled : Obligations.VerdictAssembled := by
  refine ⟨fun f r => ⟨rfl, f.action_eq_stop r, f.action_eq_pass r, fun _ => ⟨rfl, rfl⟩⟩,
    fun s token i p live => ⟨fun inPath length sonic image => ?_, fun other => ?_⟩⟩
  · have frame := s.judge_frame i p
    have page := (State.live_entry live).2.1
    refine ⟨_, _, handle_assemble_complete live inPath (p.complete_iff.2 ⟨length, sonic, image⟩),
      State.judge_pageAt page, s.judge_otherEntries i p, by rw [frame]; rfl, by rw [frame]; rfl,
      by rw [frame]; rfl, State.judge_events_of_pass i, State.judge_pageHeld i, ?_⟩
    simp only [enterRunout_mem_actionTasks, release_mem_actionTasks, holds_mem_actionTasks]
    exact ⟨fun stop => ⟨trivial, stop⟩, fun other _ both => other both.2, fun pass => ⟨trivial, pass⟩, id⟩
  · refine handle_assemble_idle live fun ⟨inPath, complete⟩ => ?_
    obtain ⟨length, sonic, image⟩ := p.complete_iff.1 complete
    rcases other with h | h | h | h
    · exact h inPath
    · simp [h] at length
    · exact sonic h
    · exact h image

end Sys2Proof.Machine
end

section
/-! What an act can do to the page table and the path lists (R3, R9, R35, R45): short of a granted allocation, no
page changes its lane or becomes PICKED, no FREE entry gets a page, and no path list grows. -/

namespace Sys2Proof.Machine

/- One proof after another: every thread of a parallel elaboration reserves memory, which the check limits. -/
set_option Elab.async false

/-! ### Path lists and freed entries -/

theorem Entry.freed_page (e : Entry) : e.freed.page = none := by
  unfold Entry.freed
  split
  · rfl
  · assumption

theorem Lane.drained_path (x : Lane) : x.drained.path = x.path := by
  unfold Lane.drained
  split <;> rfl

theorem Lane.takePos_path (x : Lane) : x.takePos.path = x.path := by
  unfold Lane.takePos
  split <;> rfl

theorem modSheet_length (sel : Sheet → Bool) (f : Sheet → Sheet) (xs : List Sheet) :
    (modSheet sel f xs).length = xs.length := by
  induction xs with
  | nil => rfl
  | cons x xs ih =>
    unfold modSheet
    split
    · rfl
    · simp [ih]

/-! ### The two ways in which the pages and the path lists change -/

/-- The record `q` can be a later one of the page `p`: its lane is the same, and it is PICKED only if `p` was. -/
structure Page.Follows (q p : Page) : Prop where
  lane : q.lane = p.lane
  picked : q.state = .picked → p.state = .picked

/-- Every page of `t` is a later record of the page that `s` has in the same entry, and no path list of `t` is
longer. -/
structure PagesShrink (s t : State) : Prop where
  path : ∀ l, (t.lane l).path.length ≤ (s.lane l).path.length
  page : ∀ i q, t.pageAt i = some q → ∃ p, s.pageAt i = some p ∧ q.Follows p

/-- What the model tests before an allocation in entry `i`: room in the path list (R45), a grant (R4) and, for a
pick, that no page of the lane is PICKED (R35). -/
structure State.MayAllocate (s : State) (l : LaneId) (i : Fin 64) (edge : Option Nat) : Prop where
  room : (s.lane l).path.length < 4
  granted : s.grantedEntry l = some i
  picked : edge = none → s.pickedEntry l = none

/-- Shrinking steps with any number of allocations among them. -/
inductive PagesMove (s : State) : State → Prop
  | shrink {t : State} : PagesShrink s t → PagesMove s t
  | allocate {t u : State} (l : LaneId) (i : Fin 64) (pos : SeqPos) (edge : Option Nat) :
      PagesMove s t → t.MayAllocate l i edge → PagesShrink (t.allocate l i pos edge) u → PagesMove s u

/-- A change of a page record that leaves its lane and does not make it PICKED. -/
def Unpicking (f : Page → Page) : Prop := ∀ p, (f p).Follows p

theorem Page.Follows.refl (p : Page) : p.Follows p := ⟨rfl, id⟩

theorem Page.Follows.trans {r q p : Page} (h : r.Follows q) (k : q.Follows p) : r.Follows p :=
  ⟨h.lane.trans k.lane, fun picked => k.picked (h.picked picked)⟩

namespace Unpicking

theorem sonicUnverified : Unpicking Page.sonicUnverified := by
  intro p
  unfold Page.sonicUnverified
  split <;> exact ⟨rfl, id⟩

theorem sonicDone (maxRun thickCount minRun : Nat) :
    Unpicking fun p => p.sonicDone maxRun thickCount minRun := by
  intro p
  dsimp only [Page.sonicDone]
  split <;> exact ⟨rfl, id⟩

theorem withLength (len lenMin lenMax : Nat) : Unpicking fun p => p.withLength len lenMin lenMax := by
  intro p
  dsimp only [Page.withLength]
  split <;> exact ⟨rfl, id⟩

theorem comp {f g : Page → Page} (hg : Unpicking g) (hf : Unpicking f) : Unpicking fun p => g (f p) :=
  fun p => (hg (f p)).trans (hf p)

theorem ite {f g : Page → Page} (b : Bool) (hf : Unpicking f) (hg : Unpicking g) :
    Unpicking fun p => if b then f p else g p := by
  cases b
  · exact hg
  · exact hf

theorem addLost : Unpicking Page.addLost := by
  intro p
  unfold Page.addLost
  cases h : p.state with
  | picked => exact ⟨rfl, fun _ => h⟩
  | inPath => exact ⟨rfl, nofun⟩
  | held => exact ⟨rfl, nofun⟩
  | queued => exact ⟨rfl, nofun⟩
  | ready =>
    dsimp only
    split
    · exact ⟨rfl, nofun⟩
    · exact ⟨rfl, nofun⟩

theorem judged (r : ProfileRec) : Unpicking fun p => p.judged r := by
  intro p
  refine ⟨rfl, fun h => ?_⟩
  unfold Page.judged at h
  dsimp only at h
  split at h <;> cases h

theorem accepted : Unpicking Page.accepted := by
  intro p
  unfold Page.accepted
  dsimp only
  split <;> exact ⟨rfl, nofun⟩

end Unpicking

namespace PagesShrink

variable {s t u : State}

theorem refl (s : State) : PagesShrink s s := ⟨fun _ => Nat.le_refl _, fun _ q h => ⟨q, h, .refl q⟩⟩

theorem trans (h : PagesShrink s t) (k : PagesShrink t u) : PagesShrink s u := by
  refine ⟨fun l => (k.path l).trans (h.path l), fun i q hq => ?_⟩
  obtain ⟨p, hp, later⟩ := k.page i q hq
  obtain ⟨o, ho, earlier⟩ := h.page i p hp
  exact ⟨o, ho, later.trans earlier⟩

/-! ### Each update -/

/-- An update of neither the lanes nor the page table. -/
theorem same (h : PagesShrink s t) (lanes : u.lanes = t.lanes := by simp)
    (entries : u.entries = t.entries := by simp) : PagesShrink s u := by
  refine h.trans ⟨fun l => ?_, fun i q hq => ⟨q, ?_, .refl q⟩⟩
  · rw [State.lane, lanes, State.lane]
  · rwa [State.pageAt, State.entry, entries] at hq

theorem modLane (h : PagesShrink s t) (l : LaneId) {f : Lane → Lane}
    (hf : ∀ x, (f x).path.length ≤ x.path.length := by exact fun _ => Nat.le_refl _) :
    PagesShrink s (t.modLane l f) := by
  refine h.trans ⟨fun k => ?_, fun i q hq => ⟨q, hq, .refl q⟩⟩
  by_cases e : l = k
  · subst e
    simpa using hf (t.lane l)
  · simp [e]

theorem modDfm (h : PagesShrink s t) (l : LaneId) (f : Dfm → Dfm) : PagesShrink s (t.modDfm l f) := h.modLane l

theorem modBatch (h : PagesShrink s t) (l : LaneId) (f : Batch → Batch) : PagesShrink s (t.modBatch l f) :=
  h.modLane l

theorem modPage (h : PagesShrink s t) (i : Fin 64) {f : Page → Page}
    (hf : Unpicking f := by exact fun _ => ⟨rfl, id⟩) : PagesShrink s (t.modPage i f) := by
  refine h.trans ⟨fun _ => Nat.le_refl _, fun j q hq => ?_⟩
  by_cases e : i = j
  · subst e
    rw [State.modPage_pageAt_self, Option.map_eq_some_iff] at hq
    obtain ⟨p, hp, rfl⟩ := hq
    exact ⟨p, hp, hf p⟩
  · rw [State.modPage_pageAt_ne t i j f e] at hq
    exact ⟨q, hq, .refl q⟩

theorem freeEntry (h : PagesShrink s t) (i : Fin 64) : PagesShrink s (t.freeEntry i) := by
  refine h.trans ⟨fun l => ?_, fun j q hq => ?_⟩
  · rw [t.freeEntry_frame i]
    exact Nat.le_refl _
  · by_cases e : j = i
    · subst e
      simp at hq
    · refine ⟨q, ?_, .refl q⟩
      rwa [State.pageAt, t.freeEntry_otherEntries i j e] at hq

theorem occur (h : PagesShrink s t) (c : Fin 20) (src : Nat) : PagesShrink s (t.occur c src) := by
  unfold State.occur
  split
  · exact h.same
  · exact h

theorem setRaw (h : PagesShrink s t) (c : Fin 20) (src : Nat) (b : Bool) : PagesShrink s (t.setRaw c src b) := by
  unfold State.setRaw
  split_ifs
  · exact h
  · exact h
  · exact h.same
  · exact h.same

theorem sendHead (h : PagesShrink s t) (l : LaneId) (kind : HeadKind) (token : Nat) :
    PagesShrink s (t.sendHead l kind token) := by
  unfold State.sendHead
  split
  · exact h.same
  · exact h

theorem setLink (h : PagesShrink s t) (p : Port) (x : Link) : PagesShrink s (t.setLink p x) := by
  cases p with
  | head l => exact h.same rfl rfl
  | trunk k => exact h.same (by simp [State.setLink]) (by simp [State.setLink])

theorem takeOne (h : PagesShrink s t) (l : LaneId) (ls : List LaneId) : PagesShrink s (t.takeOne l ls).2 := by
  rw [(t.takeOne_spec l ls).2]
  exact h.same rfl rfl

theorem modToken (h : PagesShrink s t) (token : Nat) {f : Page → Page}
    (hf : Unpicking f := by exact fun _ => ⟨rfl, id⟩) : PagesShrink s (t.modToken token f) := by
  unfold State.modToken
  split
  · exact h.modPage _ hf
  · exact h

theorem foldl {α : Type} (f : State → α → State) (hf : ∀ u x, PagesShrink s u → PagesShrink s (f u x))
    (xs : List α) : ∀ {t : State}, PagesShrink s t → PagesShrink s (xs.foldl f t) := by
  induction xs with
  | nil => exact fun h => h
  | cons x xs ih => exact fun h => ih (hf _ x h)

/-- One change of every lane and one of every entry. -/
theorem mapped (h : PagesShrink s t) {f : Lane → Lane} {g : Entry → Entry} (lanes : u.lanes = t.lanes.map f)
    (entries : u.entries = t.entries.map g)
    (path : ∀ x, (f x).path.length ≤ x.path.length := by exact fun _ => Nat.le_refl _)
    (page : ∀ e q, (g e).page = some q → ∃ p, e.page = some p ∧ q.Follows p :=
      by exact fun _ q h => ⟨q, h, .refl q⟩) : PagesShrink s u := by
  refine h.trans ⟨fun l => ?_, fun i q hq => page (t.entry i) q ?_⟩
  · simpa [State.lane, lanes] using path t.lanes[l]
  · simpa [State.pageAt, State.entry, entries] using hq

/-! ### Each operation of the blocks -/

theorem evalDrift (h : PagesShrink s t) (l : LaneId) : PagesShrink s (t.evalDrift l) := (h.modDfm l _).setRaw _ _ _

theorem evalHeadDown (h : PagesShrink s t) (l : LaneId) : PagesShrink s (t.evalHeadDown l) := h.setRaw _ _ _

theorem openWindow (h : PagesShrink s t) (l : LaneId) (g : Gen) (token lead : Nat) :
    PagesShrink s (t.openWindow l g token lead) := h.modDfm l _

theorem completeSonic (h : PagesShrink s t) (w : Window) : PagesShrink s (t.completeSonic w) :=
  h.modToken _ (.ite w.void .sonicUnverified (.sonicDone _ _ _))

theorem enterDegraded (h : PagesShrink s t) (l : LaneId) : PagesShrink s (t.enterDegraded l) :=
  ((h.modDfm l _).setRaw _ _ _).evalDrift l

theorem baselineSample (h : PagesShrink s t) (l : LaneId) (a : Nat) : PagesShrink s (t.baselineSample l a) := by
  unfold State.baselineSample
  dsimp only
  split_ifs
  · exact (h.modDfm l _).evalDrift l
  · exact (h.modDfm l _).enterDegraded l
  · exact h.modDfm l _

theorem calibrationSample (h : PagesShrink s t) (l : LaneId) (count sum a : Nat) :
    PagesShrink s (t.calibrationSample l count sum a) := by
  unfold State.calibrationSample
  dsimp only
  split_ifs
  · exact ((h.modDfm l _).setRaw _ _ _).evalDrift l
  · exact h.modDfm l _
  · exact h.modDfm l _
  · exact (h.modDfm l _).enterDegraded l

theorem airSample (h : PagesShrink s t) (l : LaneId) (a : Nat) : PagesShrink s (t.airSample l a) := by
  unfold State.airSample
  split
  · exact h.calibrationSample l _ _ a
  · split
    · exact h
    · exact h.baselineSample l a
  · exact h

theorem gateOpen (h : PagesShrink s t) (l : LaneId) (token : Nat) : PagesShrink s (t.gateOpen l token) := by
  unfold State.gateOpen
  split
  · exact h
  · refine sendHead ?_ _ _ _
    split_ifs
    · exact h.modPage _
    · exact h.modPage _
    · exact h

theorem gateClose (h : PagesShrink s t) (l : LaneId) (token timeout : Nat) :
    PagesShrink s (t.gateClose l token timeout) := by
  unfold State.gateClose
  split
  · exact h
  · refine sendHead ?_ _ _ _
    split_ifs
    · exact h.modPage _
    · exact h

theorem cancelImage (h : PagesShrink s t) (l : LaneId) (token : Nat) : PagesShrink s (t.cancelImage l token) := by
  unfold State.cancelImage
  split
  · exact h
  · split
    · exact (h.modPage _).sendHead _ _ _
    · exact h

theorem truncateData (h : PagesShrink s t) (i : Fin 64) (l : LaneId) : PagesShrink s (t.truncateData i l) :=
  (h.modPage i).occur _ _

theorem abortImage (h : PagesShrink s t) (i : Fin 64) (l : LaneId) : PagesShrink s (t.abortImage i l) :=
  (h.modPage i).occur _ _

theorem storeCell (h : PagesShrink s t) (i : Fin 64) (c : Nat) (rest : FreeList) (payload : List Byte) :
    PagesShrink s (t.storeCell i c rest payload) :=
  (h.modPage i (f := fun p => { p with cells := p.cells ++ [c] })).same rfl rfl

theorem staleCell (h : PagesShrink s t) (l : LaneId) : PagesShrink s (t.staleCell l) :=
  (h.same rfl rfl : PagesShrink s (t.setHead l _)).occur _ _

theorem leaveRampUp (h : PagesShrink s t) (l : LaneId) : PagesShrink s (t.leaveRampUp l) := by
  unfold State.leaveRampUp
  split
  · exact h.modLane l
  · exact h

theorem retarget (h : PagesShrink s t) (l : LaneId) : PagesShrink s (t.retarget l) := by
  refine h.modLane l fun x => ?_
  split
  · exact Nat.le_refl _
  · rw [Lane.retarget_keeps]

theorem onFgc (h : PagesShrink s t) : PagesShrink s (Machine.onFgc t).1 :=
  foldl _ (fun _ l k => k.leaveRampUp l) _ (h.foldl _ (fun _ l k => k.retarget l) _)

theorem toRest (h : PagesShrink s t) (l : LaneId) : PagesShrink s (t.toRest l) := by
  unfold State.toRest
  dsimp only
  split
  · exact ((h.modLane l).modDfm l _).occur _ _
  · exact (h.modLane l).modDfm l _

theorem drained (h : PagesShrink s t) (l : LaneId) : PagesShrink s (t.modLane l Lane.drained) :=
  h.modLane l fun x => by rw [x.drained_path]

theorem toRunout (h : PagesShrink s t) (l : LaneId) : PagesShrink s (t.toRunout l) :=
  h.modLane l fun x => by rw [Lane.drained_path]

theorem toRampUp (h : PagesShrink s t) (l : LaneId) : PagesShrink s (t.toRampUp l) :=
  ((h.modLane l).modDfm l _).evalDrift l

theorem holdFeeding (h : PagesShrink s t) (l : LaneId) : PagesShrink s (t.holdFeeding l) := by
  unfold State.holdFeeding
  split
  · exact h.modLane l
  · exact h

theorem toFeeding (h : PagesShrink s t) (l : LaneId) : PagesShrink s (t.toFeeding l) := h.modLane l

theorem toHolding (h : PagesShrink s t) (l : LaneId) :
    PagesShrink s (t.modLane l fun x => { x with state := .holding }) := h.modLane l

theorem feedNext (h : PagesShrink s t) (released notDue : List LaneId) :
    PagesShrink s (Machine.feedNext t released notDue).1 := by
  unfold Machine.feedNext
  split
  · exact h.toFeeding _
  · exact h
  · exact (h.takeOne _ _).toFeeding _

theorem onHolds (h : PagesShrink s t) : PagesShrink s (Machine.onHolds t).1 :=
  (h.foldl _ (fun _ l k => k.holdFeeding l) _).feedNext _ _

theorem trayFoundEmpty (h : PagesShrink s t) (l : LaneId) : PagesShrink s (Machine.trayFoundEmpty l t).1 := by
  unfold Machine.trayFoundEmpty
  split
  · exact h.toRunout l
  · dsimp only
    exact h.modLane l

theorem pick (s : State) (l : LaneId) (i : Fin 64) (pos : SeqPos) :
    PagesShrink (s.allocate l i pos none) (s.pick l i pos) := (refl _).modLane l

theorem giveUpPick (h : PagesShrink s t) (l : LaneId) (i : Fin 64) : PagesShrink s (t.giveUpPick l i) :=
  (h.modLane l fun _ => List.length_eraseP_le).freeEntry i

theorem misfeedExhausted (h : PagesShrink s t) (l : LaneId) (i : Fin 64) :
    PagesShrink s (Machine.misfeedExhausted l i t).1 := by
  have given := (h.giveUpPick l i).occur Ev.feedFailure l.val
  unfold Machine.misfeedExhausted
  dsimp only
  split_ifs
  · exact given.toRunout l
  · exact given.drained l
  · exact given

theorem toRetryWait (h : PagesShrink s t) (l : LaneId) (i : Fin 64) : PagesShrink s (t.toRetryWait l i) :=
  (h.modPage i).modLane l

theorem misfeedExpiry (h : PagesShrink s t) (l : LaneId) : PagesShrink s (Machine.misfeedExpiry l t).1 := by
  unfold Machine.misfeedExpiry
  split
  · split_ifs
    · exact h.toRetryWait l _
    · exact h.misfeedExhausted l _
    · exact h.misfeedExhausted l _
    · exact h
  · exact h

theorem repulse (h : PagesShrink s t) (l : LaneId) : PagesShrink s (t.repulse l) := h.modLane l

theorem retryEnd (h : PagesShrink s t) (l : LaneId) : PagesShrink s (Machine.retryEnd l t).1 := by
  unfold Machine.retryEnd
  split
  · split_ifs
    · exact h.repulse l
    · exact (h.giveUpPick l _).trayFoundEmpty l
    · exact h
  · exact h

theorem leadingEdge (h : PagesShrink s t) (l : LaneId) (i : Fin 64) : PagesShrink s (t.leadingEdge l i) :=
  ((h.modPage i (by exact fun _ => ⟨rfl, nofun⟩)).modLane l
    (by exact fun _ => (modSheet_length _ _ _).le)).openWindow l _ _ _

theorem trailingEdge (h : PagesShrink s t) (l : LaneId) (token : Nat) : PagesShrink s (t.trailingEdge l token) := by
  unfold State.trailingEdge
  dsimp only
  split
  · rename_i w _
    exact ((h.modLane l (by exact fun _ => (modSheet_length _ _ _).le)).modToken _).modToken _
      (.ite w.sonicEnabled (.withLength _ _ _) (.comp .sonicUnverified (.withLength _ _ _)))
  · exact (h.modLane l (by exact fun _ => (modSheet_length _ _ _).le)).modToken _

theorem setGate (h : PagesShrink s t) (l : LaneId) (sel : Sheet → Bool) (g : GateProgress) :
    PagesShrink s (t.setGate l sel g) := h.modLane l fun _ => (modSheet_length _ _ _).le

theorem toJammed (h : PagesShrink s t) (l : LaneId) (c : JamCause) : PagesShrink s (t.toJammed l c) := by
  have jammed := (h.modLane l (f := fun x => x.jammed c)).evalDrift l
  exact occur (foldl _ (fun _ _ k => k.cancelImage l _) _ (jammed.foldl _ (fun _ _ k => k.modToken _ .addLost) _)) _ _

theorem onJam (h : PagesShrink s t) (l : LaneId) (c : JamCause) : PagesShrink s (Machine.onJam l c t).1 := by
  unfold Machine.onJam
  split
  · exact h.toJammed l c
  · exact h

theorem adoptEnabled (h : PagesShrink s t) (l : LaneId) : PagesShrink s (t.adoptEnabled l) := by
  have runout : PagesShrink s (if t.laneEnabled l then t else t.toRunout l) := by
    split
    · exact h
    · exact h.toRunout l
  unfold State.adoptEnabled
  split
  case h_1 =>
    split
    · exact h.modLane l
    · exact h
  case h_2 =>
    split
    · exact h
    · exact h.modLane l
  case h_3 | h_4 | h_5 | h_6 => exact runout
  case h_7 | h_8 | h_9 => exact h

theorem retireTo (h : PagesShrink s t) (g : Gen) : PagesShrink s (t.retireTo g) :=
  h.mapped (f := fun x => { x with adopted := false }) (g := id) rfl t.entries.map_id.symm

theorem makePending (h : PagesShrink s t) : PagesShrink s t.makePending :=
  h.mapped (f := fun x => { x with adopted := false }) (g := id) rfl t.entries.map_id.symm

theorem switchTo (h : PagesShrink s t) (l : LaneId) (g : Gen) : PagesShrink s (t.switchTo l g) :=
  (h.modLane l (f := fun x => { x with gen := g, adopted := true, adoptingFrom := some x.gen })).same rfl rfl

theorem enqueue (h : PagesShrink s t) (token size : Nat) (c : ChanId) : PagesShrink s (t.enqueue token size c) :=
  h.same rfl rfl

theorem admitCopies (h : PagesShrink s t) (l : LaneId) (i : Fin 64) (token size : Nat) (cs : List ChanId) :
    PagesShrink s (t.admitCopies l i token size cs) :=
  (((h.foldl _ (fun _ c k => k.enqueue token size c) cs).modPage i (by exact fun _ => ⟨rfl, nofun⟩)).modBatch l
    _).setRaw _ _ _

theorem refuse (h : PagesShrink s t) (l : LaneId) (token : Nat) : PagesShrink s (t.refuse l token) := by
  unfold State.refuse
  split
  · exact h.modBatch l _
  · exact h

theorem setFillState (h : PagesShrink s t) (c : ChanId) (f : FillState) : PagesShrink s (t.setFillState c f) :=
  ((h.same rfl rfl : PagesShrink s (t.setChan c _)).setRaw _ _ _).setRaw _ _ _

theorem takePage (h : PagesShrink s t) (l : LaneId) (i : Fin 64) (p : Page) :
    PagesShrink s (Machine.takePage l i p t).1 := by
  have taken := h.modBatch l fun b => { b with opened := true }
  unfold Machine.takePage
  dsimp only
  split_ifs
  · exact taken.occur _ _
  · exact taken
  · exact taken

theorem retryNext (h : PagesShrink s t) (c : Option ChanId) (ready : List LaneId) :
    PagesShrink s (Machine.retryNext c t ready).1 := by
  unfold Machine.retryNext
  split
  · exact h
  · exact h.takeOne _ _

theorem adoptNext (h : PagesShrink s t) (left alone : List LaneId) :
    PagesShrink s (Machine.adoptNext t left alone).1 := by
  unfold Machine.adoptNext
  split
  · exact h
  · exact h
  · exact h.takeOne _ _

theorem copyDone (h : PagesShrink s t) (token : Nat) : PagesShrink s (t.copyDone token).1 := by
  unfold State.copyDone
  split
  · exact h
  · split
    · exact h.freeEntry _
    · exact h.modPage _

/-! ### Resets and the tick -/

theorem hardReset (h : PagesShrink s t) (c : ResetCause) : PagesShrink s (t.hardReset c) := by
  refine h.trans ⟨fun l => ?_, fun i q hq => ?_⟩
  · simp [State.hardReset, State.lane, Lane.hardReset, Lane.reset]
  · simp [State.hardReset, State.pageAt, State.entry, State.reset] at hq

theorem cancelAtReset (h : PagesShrink s t) (i : Fin 64) : PagesShrink s (t.cancelAtReset i) := by
  unfold State.cancelAtReset
  split
  · split
    · exact h.sendHead _ _ _
    · exact h
  · exact h

theorem clearAtReset (h : PagesShrink s t) : PagesShrink s t.clearAtReset :=
  h.mapped (f := id) (g := Entry.freed) t.lanes.map_id.symm rfl (page := fun e q hq => by simp [e.freed_page] at hq)

theorem adoptAtReset (h : PagesShrink s t) : PagesShrink s t.adoptAtReset := by
  unfold State.adoptAtReset
  split
  · exact h
  · rename_i g _
    have adopted : PagesShrink s { t with lanes := t.lanes.map (fun x => { x with gen := g }), channelGen := g } :=
      h.mapped (f := fun x => { x with gen := g }) (g := id) rfl t.entries.map_id.symm
    dsimp only
    split
    · exact adopted.retireTo g
    · exact (adopted.occur _ _).retireTo g

theorem lineReset (h : PagesShrink s t) : PagesShrink s t.lineReset := by
  have cleared := (h.foldl _ (fun _ i k => k.cancelAtReset i) allEntries).clearAtReset.adoptAtReset
  have reset : PagesShrink s { (allEntries.foldl State.cancelAtReset t).clearAtReset.adoptAtReset with
      lanes := (allEntries.foldl State.cancelAtReset t).clearAtReset.adoptAtReset.lanes.map Lane.lineReset } :=
    cleared.mapped (g := id) rfl (Vector.map_id _).symm (path := fun _ => Nat.zero_le _)
  have rest := reset.foldl State.restAtReset (fun _ l k => k.modLane l) allLanes
  have lanes := rest.foldl State.laneRawsAtReset
    (fun _ l k => (((k.setRaw _ _ _).setRaw _ _ _).setRaw _ _ _).evalHeadDown l) allLanes
  exact (lanes.foldl State.chanRawsAtReset (fun _ _ k => (k.setRaw _ _ _).setRaw _ _ _) allChans).occur _ _

theorem takeReset (h : PagesShrink s t) (r : Option ResetKind) : PagesShrink s (t.takeReset r) := by
  cases r with
  | none => exact h
  | some k =>
    cases k with
    | full => exact h.hardReset _
    | line => exact h.lineReset

theorem tick (s : State) : PagesShrink s s.tick := by
  refine (refl s).mapped (f := Lane.tick) (g := Entry.tick) rfl rfl (page := fun e q hq => ?_)
  obtain ⟨p, hp, rfl⟩ := Option.map_eq_some_iff.1 hq
  exact ⟨p, hp, rfl, id⟩

/-! ### Links -/

theorem setTrunk (h : PagesShrink s t) (k : Trunk) (x : TrunkPort) : PagesShrink s (t.setTrunk k x) := h.same

theorem evalTrunkDown (h : PagesShrink s t) (k : Trunk) : PagesShrink s (t.evalTrunkDown k) := h.setRaw _ _ _

theorem portUp (h : PagesShrink s t) (p : Port) : PagesShrink s (t.portUp p) := by
  cases p with
  | head l => exact h.evalHeadDown l
  | trunk k =>
    refine evalTrunkDown ?_ k
    dsimp only
    split
    · exact h.setTrunk k _
    · exact (h.setTrunk k { t.trunk k with hasBeenUp := true }).same rfl rfl

theorem restoreReport (h : PagesShrink s t) (tx : Option TxCell) : PagesShrink s (t.restoreReport tx) := by
  unfold State.restoreReport
  split
  · split
    · exact h.same
    · exact h
  · exact h

theorem trunkLoss (h : PagesShrink s t) (k : Trunk) : PagesShrink s (t.trunkLoss k) := by
  have lost := (h.restoreReport (t.trunk k).tx).setTrunk k { t.trunk k with tx := none, reply := none, requests := [] }
  refine evalTrunkDown ?_ k
  dsimp only
  split
  · exact lost.same rfl rfl
  · exact lost

theorem headLeavesUp (h : PagesShrink s t) (l : LaneId) : PagesShrink s (Machine.headLeavesUp l t).1 :=
  (h.foldl _ (fun _ i k => k.modPage i) _).evalHeadDown l

theorem portLoss (h : PagesShrink s t) (p : Port) : PagesShrink s (Machine.portLoss p t).1 := by
  cases p with
  | head l => exact headLeavesUp (t := t.setHead l { t.head l with txQueue := [] }) (h.same rfl rfl) l
  | trunk k => exact (h.trunkLoss k).takeReset _

theorem goDown (h : PagesShrink s t) (p : Port) (x : Link) : PagesShrink s (Machine.goDown p x t).1 := by
  have down := h.setLink p x.toDown
  unfold Machine.goDown
  dsimp only
  split
  · exact down.portLoss p
  · exact down

end PagesShrink

/-! ### Allocations -/

theorem State.allocate_lane_path (s : State) (l : LaneId) (i : Fin 64) (pos : SeqPos) (edge : Option Nat) :
    ((s.allocate l i pos edge).lane l).path
      = (s.lane l).path ++ [s.newSheet l (s.lane l).gen (s.tokenOf i) edge] := by
  simp [State.allocate]

theorem State.allocate_lane_ne (s : State) {l k : LaneId} (i : Fin 64) (pos : SeqPos) (edge : Option Nat)
    (h : l ≠ k) : (s.allocate l i pos edge).lane k = s.lane k := by
  simp [State.allocate, h]

theorem State.allocate_pageAt (s : State) (l : LaneId) (i j : Fin 64) (pos : SeqPos) (edge : Option Nat) :
    (s.allocate l i pos edge).pageAt j
      = if j = i then some (Page.allocated l pos (s.lane l).gen edge) else s.pageAt j := by
  split
  · subst j
    simp [State.allocate, State.pageAt]
  · rename_i h
    simp [State.allocate, State.pageAt, Ne.symm h]

namespace PagesMove

variable {s t u : State}

theorem refl (s : State) : PagesMove s s := .shrink (.refl s)

/-- A shrinking step may follow. -/
theorem shrinks (h : PagesMove s t) (k : PagesShrink t u) : PagesMove s u := by
  cases h with
  | shrink h => exact .shrink (h.trans k)
  | allocate l i pos edge h may after => exact .allocate l i pos edge h may (after.trans k)

theorem trans (h : PagesMove s t) (k : PagesMove t u) : PagesMove s u := by
  induction k with
  | shrink k => exact h.shrinks k
  | allocate l i pos edge _ may after ih => exact .allocate l i pos edge ih may after

/-- The pick test: a pick that is due finds room in the path list and no PICKED page (R35, R37). -/
theorem onPickTest (l : LaneId) (s : State) : PagesMove s (Machine.onPickTest l s).1 := by
  unfold Machine.onPickTest
  split
  · rename_i due
    have r := PagesShrink.refl s
    split
    · split
      · rename_i pos i _ granted
        simp only [State.pickDue, State.pickReady, Bool.and_eq_true, decide_eq_true_eq,
          Option.isNone_iff_eq_none] at due
        obtain ⟨_, ⟨room, picked⟩, _⟩ := due
        exact .allocate l i pos none (.refl s) ⟨room, granted, fun _ => picked⟩ (PagesShrink.pick _ l i pos)
      · exact .shrink (r.toHolding l)
      · exact .shrink (r.toHolding l)
    · exact .shrink (r.trayFoundEmpty l)
  · exact .refl s

/-- A leading edge: an unexpected sheet is allocated when there is room (R43). -/
theorem leadingEdgeTaken (l : LaneId) (s : State) : PagesMove s (Machine.leadingEdgeTaken l s).1 := by
  unfold Machine.leadingEdgeTaken
  split
  · exact .shrink ((PagesShrink.refl s).leadingEdge l _)
  · split
    · rename_i pos i _ granted
      split
      · rename_i room
        refine .allocate l i pos (some (s.lane l).high) (.refl s) ⟨room, granted, nofun⟩ ?_
        have sheet := ((PagesShrink.refl (s.allocate l i pos (some (s.lane l).high))).modLane l
          (f := fun x => { x with sensor := some (s.tokenOf i) })).openWindow l (s.lane l).gen (s.tokenOf i)
            (s.lane l).high
        unfold State.unexpectedSheet
        dsimp only
        split
        · exact sheet.toRunout l
        · exact sheet
      · exact .refl s
    · exact .refl s

theorem onEdge (l : LaneId) (s : State) : PagesMove s (Machine.onEdge l s).1 := by
  have noted := (PagesShrink.refl s).modLane l (f := fun x => { x with lastSensor := x.entryBlocked })
  unfold Machine.onEdge
  split
  · dsimp only
    split
    · exact trans (.shrink noted) (.leadingEdgeTaken l _)
    · unfold trailingEdgeTaken
      split
      · exact .shrink (noted.trailingEdge l _)
      · exact .shrink noted
  · exact .refl s

/-- Every sub-act but the pick test and the entry edge leaves the page table and the path lists no larger. -/
theorem handle (task : Task) (s : State) : PagesMove s (Machine.handle task s).1 := by
  have r := PagesShrink.refl s
  cases task with
  | pickTest l => exact .onPickTest l s
  | edge l => exact .onEdge l s
  | fgc => exact .shrink r.onFgc
  | holds => exact .shrink r.onHolds
  | jam l c => exact .shrink (r.onJam l c)
  | adoptAll ls => exact .shrink (r.adoptNext _ _)
  | retries c => exact .shrink (r.retryNext c _)
  | adoptLtc l => exact .shrink ((r.adoptEnabled l).evalHeadDown l)
  | adoptDfm l => exact .shrink ((r.modDfm l _).evalDrift l)
  | adoptLsq l =>
    refine .shrink ?_
    rw [handle_adoptLsq, onAdoptLsq]
    dsimp only
    exact r.modBatch l _
  | adoptFgc l => exact .shrink (r.modLane l (f := fun x => { x with adoptingFrom := none })).onFgc
  | adoptEnd =>
    refine .shrink ?_
    rw [handle_adoptEnd, onAdoptEnd]
    dsimp only
    exact r.occur _ _
  | speedCheck l =>
    refine .shrink ?_
    rw [handle_speedCheck, onSpeedCheck]
    split_ifs
    · exact r.leaveRampUp l
    · exact r.toRest l
    · exact r
  | runoutTest l =>
    refine .shrink ?_
    rw [handle_runoutTest, onRunoutTest]
    split
    · exact r.drained l
    · exact r
  | enterRunout l =>
    refine .shrink ?_
    rw [handle_enterRunout, onEnterRunout]
    split
    · exact r.toRunout l
    · exact r
  | assemble token =>
    refine .shrink ?_
    rw [handle_assemble, onAssemble]
    split
    · exact r
    · split
      · dsimp only
        split
        · exact r.modPage _ (.judged _)
        · exact (r.modPage _ (.judged _)).occur _ _
      · exact r
  | retire =>
    refine .shrink ?_
    rw [handle_retire, onRetire]
    split
    · split
      · exact r.retireTo _
      · exact r
    · exact r
  | release l =>
    refine .shrink ?_
    rw [handle_release, onRelease]
    split
    · split
      · exact r.takePage l _ _
      · exact r
    · exact r
    · exact r
  | adoptMoment l =>
    refine .shrink ?_
    rw [handle_adoptMoment, onAdoptMoment]
    split <;> exact r
  | adopt l =>
    refine .shrink ?_
    rw [handle_adopt, onAdopt]
    split
    · exact r
    · split
      · exact r
      · exact r.switchTo l _
  | adoptChannels old =>
    refine .shrink ?_
    rw [handle_adoptChannels, onAdoptChannels]
    split <;> exact r
  | newBatch l token =>
    refine .shrink ?_
    rw [handle_newBatch, onNewBatch]
    split
    · exact r
    · exact (r.modBatch l _).occur _ _
  | lsqMarks l token action blankDrop =>
    refine .shrink ?_
    rw [handle_lsqMarks, onLsqMarks]
    split
    · exact r
    · dsimp only
      split
      · exact (r.modBatch l _).freeEntry _
      · dsimp only
        exact r.modBatch l _
  | lsqNumber l token =>
    refine .shrink ?_
    rw [handle_lsqNumber, onLsqNumber]
    split
    · exact r
    · dsimp only
      split
      · exact ((r.modPage _).modBatch l _).occur _ _
      · exact (r.modPage _).modBatch l _
  | attempt l token =>
    refine .shrink ?_
    rw [handle_attempt, onAttempt]
    split
    · exact r
    · split
      · split
        · exact r
        · split
          · exact r.admitCopies l _ _ _ _
          · exact r.refuse l token
      · exact r
  | fillEval c =>
    refine .shrink ?_
    rw [handle_fillEval, onFillEval]
    split
    · exact r
    · exact r.setFillState c _
  | scheduled l =>
    refine .shrink ?_
    rw [handle_scheduled, onScheduled]
    split
    · split
      · exact (r.setGate l _ _).gateOpen l _
      · split
        · exact (r.setGate l _ _).gateClose l _ _
        · split
          · dsimp only
            exact r.modLane l (by exact fun _ => List.length_eraseP_le)
          · exact r
    · exact r
  | gapPick l =>
    refine .shrink ?_
    rw [handle_gapPick, onGapPick]
    split <;> exact r
  | samples l =>
    refine .shrink ?_
    rw [handle_samples, onSamples]
    split
    · exact (r.modDfm l _).foldl _ (fun _ w k => k.completeSonic w) _
    · exact r
  | air l =>
    refine .shrink ?_
    rw [handle_air, onAir]
    dsimp only
    split_ifs
    · exact (r.modDfm l _).airSample l _
    · dsimp only
      exact r.modDfm l _
    · exact r
  | jamChecks l =>
    refine .shrink ?_
    rw [handle_jamChecks, onJamChecks]
    split_ifs <;> exact r

/-- A whole act, from its first move to its transmit slots. -/
theorem settle {m : Move} (h : PagesMove s m.1) : PagesMove s (Machine.settle m) :=
  settle_keeps (fun task _ k => k.trans (.handle task _))
    (fun _ _ slots k => k.shrinks ((PagesShrink.refl _).same slots.paper.1 slots.paper.2.1)) m h

end PagesMove
end Sys2Proof.Machine
end

section
/-! Every command of the part changes the pages and the path lists by shrinking steps and granted allocations only,
and such changes keep the limits of R9, R35 and R45. -/

namespace Sys2Proof.Machine

/- One proof after another: every thread of a parallel elaboration reserves memory, which the check limits. -/
set_option Elab.async false

/-! ### The first move of each command -/

namespace PagesShrink

variable {s t : State}

theorem takeData (h : PagesShrink s t) (l : LaneId) (token : Nat) (payload : List Byte) :
    PagesShrink s (Machine.takeData l token payload t).1 := by
  unfold Machine.takeData
  split
  · exact h.staleCell l
  · split_ifs
    · exact h
    · exact h.truncateData _ l
    · split
      · exact h.truncateData _ l
      · exact h.storeCell _ _ _ _

theorem takeClose (h : PagesShrink s t) (l : LaneId) (token : Nat) (mark : BitVec 4) (blank : Bool)
    (ticket : Option (List Byte)) : PagesShrink s (Machine.takeClose l token mark blank ticket t).1 := by
  unfold Machine.takeClose
  split
  · exact h.staleCell l
  · dsimp only
    split
    · exact (h.modPage _).truncateData _ l
    · exact h.modPage _

theorem takeAbort (h : PagesShrink s t) (l : LaneId) (token : Nat) :
    PagesShrink s (Machine.takeAbort l token t).1 := by
  unfold Machine.takeAbort
  split
  · exact h.staleCell l
  · exact h.abortImage _ l

theorem takeRequest (h : PagesShrink s t) (k : Trunk) (r : Request) :
    PagesShrink s (Machine.takeRequest k r t).1 := by
  unfold Machine.takeRequest
  split
  · exact (h.setTrunk k { t.trunk k with requests := (t.trunk k).requests ++ [r] }).same rfl rfl
  · exact h.setTrunk k _

theorem takePause (h : PagesShrink s t) (k : Trunk) (n : Nat) (timer : Option Nat) :
    PagesShrink s (Machine.takePause k n timer t).1 := by
  unfold Machine.takePause
  split
  · exact h.same rfl rfl
  · exact h

theorem forwardStep (h : PagesShrink s t) (l : LaneId) (a : BitVec 10) :
    PagesShrink s (Machine.forwardStep l a t).1 := by
  have noted := h.modLane l (f := fun x => { x with amplitude := a })
  unfold Machine.forwardStep
  dsimp only
  generalize (if (t.lane l).counter < Config.counterMax then (t.lane l).counter + 1 else (t.lane l).counter) = c
  split_ifs
  · exact noted
  · dsimp only
    exact (noted.modLane l).modLane l
  · dsimp only
    exact noted.modLane l

theorem reverseStep (h : PagesShrink s t) (l : LaneId) : PagesShrink s (Machine.reverseStep l t).1 := by
  unfold Machine.reverseStep
  split
  · exact h
  · dsimp only
    exact h.modLane l

theorem trayChange (h : PagesShrink s t) (l : LaneId) (paper : Bool) :
    PagesShrink s (Machine.trayChange l paper t).1 := by
  have noted := h.modLane l (f := fun x => { x with trayPaper := paper })
  unfold Machine.trayChange
  dsimp only
  split
  · dsimp only
    exact noted.modLane l
  · exact noted

theorem runoutExpiry (h : PagesShrink s t) (l : LaneId) : PagesShrink s (Machine.runoutExpiry l t).1 := by
  unfold Machine.runoutExpiry
  split
  · exact h.onJam l _
  · exact h

theorem imageExpiry (h : PagesShrink s t) (token : Nat) : PagesShrink s (Machine.imageExpiry token t).1 := by
  unfold Machine.imageExpiry
  split
  · exact h
  · split
    · exact h.abortImage _ _
    · exact h

theorem pauseExpiry (h : PagesShrink s t) (c : ChanId) : PagesShrink s (Machine.pauseExpiry c t).1 := by
  unfold Machine.pauseExpiry
  split
  · exact (h.same rfl rfl : PagesShrink s (t.setChan c { t.chan c with pauseTimer := none })).occur _ _
  · exact h

theorem waitExpiry (h : PagesShrink s t) (l : LaneId) : PagesShrink s (Machine.waitExpiry l t).1 := by
  unfold Machine.waitExpiry
  split
  · split
    · exact h
    · exact (h.modBatch l _).setRaw _ _ _
  · exact h

theorem copyComplete (h : PagesShrink s t) : PagesShrink s (Machine.copyComplete t).1 := by
  have copied : PagesShrink s { t with
      banks := t.banks.set t.otherBank t.banks[t.activeBank], otherRole := .shadow } := h.same rfl rfl
  unfold Machine.copyComplete
  split
  · dsimp only
    exact copied.occur _ _
  · exact h

theorem cellSent (h : PagesShrink s t) (c : ChanId) : PagesShrink s (Machine.cellSent c t).1 := by
  unfold Machine.cellSent
  split
  · exact h
  · have sent : PagesShrink s (t.setChan c { t.chan c with queue := advanceQueue (t.chan c).queue }) := h.same rfl rfl
    dsimp only
    split
    · exact sent.copyDone _
    · exact sent

/-! ### The first move of each request -/

theorem startLane (l : LaneId) (s : State) : PagesShrink s (Machine.startLane l s).1.1 := by
  have r := refl s
  unfold Machine.startLane
  split
  · exact r
  · split
    case h_1 => exact PagesShrink.toRampUp (r.modLane l) l
    case h_2 =>
      dsimp only
      exact r.modLane l
    case h_3 => exact r.toRampUp l
    all_goals exact r

theorem stopLane (l : LaneId) (s : State) : PagesShrink s (Machine.stopLane l s).1.1 := by
  unfold Machine.stopLane onEnterRunout
  split
  · exact (refl s).toRunout l
  · exact refl s

theorem clearLane (l : LaneId) (s : State) : PagesShrink s (Machine.clearLane l s).1.1 := by
  unfold Machine.clearLane
  split
  · dsimp only
    exact ((refl s).toRest l).modLane l (by exact fun _ => Nat.zero_le _)
  · exact refl s

theorem acceptPage (token : Nat) (s : State) : PagesShrink s (Machine.acceptPage token s).1.1 := by
  unfold Machine.acceptPage
  split
  · exact refl s
  · exact (refl s).modPage _ .accepted

theorem dropPage (token : Nat) (s : State) : PagesShrink s (Machine.dropPage token s).1.1 := by
  unfold Machine.dropPage
  split
  · exact refl s
  · exact (refl s).freeEntry _

theorem rescanPage (token n : Nat) (s : State) : PagesShrink s (Machine.rescanPage token n s).1.1 := by
  unfold Machine.rescanPage
  split
  · exact refl s
  · split
    · exact refl s
    · split
      · exact refl s
      · dsimp only
        exact ((refl s).freeEntry _).modLane _

theorem cancelSlot (l : LaneId) (pos : SeqPos) (s : State) : PagesShrink s (Machine.cancelSlot l pos s).1.1 := by
  unfold Machine.cancelSlot
  split
  · dsimp only
    exact (refl s).modLane l
  · exact refl s

theorem loadTable (table index : Nat) (record : List Byte) (s : State) :
    PagesShrink s (Machine.loadTable table index record s).1.1 := by
  have r := refl s
  unfold Machine.loadTable
  split
  · exact r
  · split
    · exact r
    · split
      · exact r
      · split
        · exact r
        · exact r
        · exact r.same rfl rfl

theorem commitTables (mode : Nat) (s : State) : PagesShrink s (Machine.commitTables mode s).1.1 := by
  have r := refl s
  unfold Machine.commitTables
  split
  · exact r
  · split
    · exact r
    · exact r
    · split
      · exact r
      · exact r.makePending

end PagesShrink

/-- Whatever the payload, a request's body leaves the page table and the path lists no larger. -/
def ShrinkingBody (body : List Byte → State → Answer) : Prop := ∀ bs s, PagesShrink s (body bs s).move.1

namespace ShrinkingBody

theorem sized (n : Nat) {body : List Byte → State → Answer} (h : ShrinkingBody body) :
    ShrinkingBody (Machine.sized n body) := by
  intro bs s
  unfold Machine.sized
  split
  · exact h bs s
  · exact .refl s

theorem refuse (st : Status) : ShrinkingBody fun _ s => .refuse s st := fun _ s => .refl s

theorem read (f : List Byte → State → Status × List Byte) : ShrinkingBody fun bs s => .read s (f bs s) :=
  fun _ s => .refl s

theorem tableLoad : ShrinkingBody bodyTableLoad := by
  intro bs s
  unfold bodyTableLoad
  split
  · exact .refl s
  · exact .loadTable _ _ _ s

theorem lane {f : LaneId → State → Move × Status} (h : ∀ l s, PagesShrink s (f l s).1.1) :
    ShrinkingBody (bodyLane f) := by
  refine sized 1 fun bs s => ?_
  split
  · exact h _ s
  · exact .refl s

theorem resolve (a : Nat) {f : Nat → Nat → State → Move × Status}
    (h : ∀ token n s, PagesShrink s (f token n s).1.1) : ShrinkingBody (bodyResolve a f) := by
  refine sized 3 fun bs s => ?_
  split
  · exact h _ _ s
  · exact .refl s

theorem slotCancel : ShrinkingBody bodySlotCancel := by
  refine sized 6 fun bs s => ?_
  split
  · split
    · exact .refl s
    · exact .cancelSlot _ _ s
  · exact .refl s

theorem partReset (k : Nat) (reset : ResetKind) : ShrinkingBody (bodyPartReset k reset) := by
  refine sized 1 fun bs s => ?_
  split <;> exact .refl s

theorem eventSet : ShrinkingBody bodyEventSet := by
  refine sized 3 fun bs s => ?_
  split
  · split
    · exact (PagesShrink.refl s).same rfl rfl
    · exact .refl s
  · exact .refl s

theorem eventClear : ShrinkingBody bodyEventClear := by
  refine sized 3 fun bs s => ?_
  split
  · split
    · exact .refl s
    · exact (PagesShrink.refl s).same rfl rfl
  · exact .refl s

end ShrinkingBody

/-! ### Each command -/

/-- The outcome, when it is a next state, is reached by shrinking steps and granted allocations. -/
def MovesPages (s : State) (o : Host.Outcome State Fault Refusal) : Prop := ∀ t, o = .next t → PagesMove s t

namespace MovesPages

variable {s t : State}

theorem next (h : PagesShrink s t) : MovesPages s (.next t) := by
  rintro _ ⟨⟩
  exact .shrink h

theorem act {m : Move} (h : PagesShrink s m.1) : MovesPages s (Machine.act m) := by
  rintro _ ⟨⟩
  exact .settle (.shrink h)

theorem deliver (p : Port) (f : State → Move) (s : State) (h : ∀ {u}, PagesShrink s u → PagesShrink s (f u).1) :
    MovesPages s (Machine.deliver p f s) := by
  have received := (PagesShrink.refl s).setLink p (s.link p).validCell
  unfold Machine.deliver
  split
  · exact act (h received)
  · exact next received

theorem serve (want : Request → Bool) {body : List Byte → State → Answer} (s : State) (h : ShrinkingBody body) :
    MovesPages s (Machine.serve want body s) := by
  unfold Machine.serve
  split
  · exact next (.refl s)
  · rename_i k r _
    split
    · have taken : PagesShrink s (s.takeOff k) :=
        ((PagesShrink.refl s).setTrunk k { s.trunk k with requests := (s.trunk k).requests.tail }).same rfl rfl
      exact act ((taken.trans (h r.payload _)).setTrunk k _)
    · exact next (.refl s)

/-- Every command. -/
theorem exec (i : Instr) (s : State) : MovesPages s (Machine.exec i s) := by
  have r := PagesShrink.refl s
  cases i with
  | powerOn => exact next (r.hardReset _)
  | resetPin => exact next (r.hardReset _)
  | signalDetected p =>
    change MovesPages s (execSignalDetected p s)
    unfold execSignalDetected
    split
    · exact next (r.setLink p _)
    · exact next r
  | lossOfSignal p => exact act (r.goDown p _)
  | idleCellReceived p =>
    change MovesPages s (execIdleCellReceived p s)
    unfold execIdleCellReceived
    split
    · exact next r
    · split
      · exact next (r.setLink p _)
      · exact act ((r.setLink p _).portUp p)
    · exact next (r.setLink p _)
  | badCellReceived p =>
    change MovesPages s (execBadCellReceived p s)
    unfold execBadCellReceived
    split
    · exact next r
    · split
      · exact next (r.setLink p _)
      · exact act (r.goDown p _)
    · split
      · exact next (r.setLink p _)
      · exact act (r.goDown p _)
  | cellDiscarded p => exact next (r.setLink p _)
  | data l token payload => exact deliver _ _ s fun h => h.takeData l _ payload
  | close l token mark blank ticket => exact deliver _ _ s fun h => h.takeClose l _ mark blank ticket
  | abort l token => exact deliver _ _ s fun h => h.takeAbort l _
  | request k kind tag payload => exact deliver _ _ s fun h => h.takeRequest k _
  | pauseOn k channel => exact deliver _ _ s fun h => h.takePause k _ _
  | pauseOff k channel => exact deliver _ _ s fun h => h.takePause k _ _
  | tableLoad => exact serve _ s .tableLoad
  | tableCommit => exact serve _ s (.sized 1 fun _ u => .commitTables _ u)
  | tableRead => exact serve _ s (.sized 3 (.read _))
  | laneStart => exact serve _ s (.lane .startLane)
  | laneStop => exact serve _ s (.lane .stopLane)
  | laneHalt => exact serve _ s (.lane fun l u => (PagesShrink.refl u).onJam l _)
  | laneClear => exact serve _ s (.lane .clearLane)
  | pageResolveAccept => exact serve _ s (.resolve 0 fun token _ u => .acceptPage token u)
  | pageResolveDrop => exact serve _ s (.resolve 1 fun token _ u => .dropPage token u)
  | pageResolveRescan => exact serve _ s (.resolve 2 .rescanPage)
  | slotCancel => exact serve _ s .slotCancel
  | statusRead => exact serve _ s (.sized 2 (.read _))
  | partResetFull => exact serve _ s (.partReset 0 .full)
  | partResetLine => exact serve _ s (.partReset 1 .line)
  | eventSet => exact serve _ s .eventSet
  | eventClear => exact serve _ s .eventClear
  | unknownRequest =>
    change MovesPages s (execUnknownRequest s)
    exact serve _ s (.refuse .unknown)
  | encoderForwardStep l a => exact act (r.forwardStep l a)
  | encoderReverseStep l => exact act (r.reverseStep l)
  | entrySensorChange l blocked => exact next (r.modLane l (by exact fun _ => Nat.le_refl _))
  | traySensorChange l paper => exact act (r.trayChange l paper)
  | speedControlPeriod l =>
    change MovesPages s (execSpeedControlPeriod l s)
    unfold execSpeedControlPeriod
    split
    · refine act (r.modLane l fun x => ?_)
      unfold Lane.rampPeriod
      split <;> exact Nat.le_refl _
    · exact next r
  | misfeedTimerExpiry l => exact act (r.misfeedExpiry l)
  | retryWaitEnd l => exact act (r.retryEnd l)
  | runoutTimerExpiry l => exact act (r.runoutExpiry l)
  | imageTimerExpiry token => exact act (r.imageExpiry _)
  | pauseTimerExpiry c => exact act (r.pauseExpiry c)
  | waitTimerExpiry l => exact act (r.waitExpiry l)
  | bankCopyComplete => exact act r.copyComplete
  | channelCellSent k =>
    change MovesPages s (execChannelCellSent k s)
    have free : PagesShrink s (s.freePath k) := r.setTrunk k _
    unfold execChannelCellSent
    split
    · exact act (free.cellSent _)
    · exact act free
    all_goals exact next r
  | replySent k =>
    change MovesPages s (execReplySent k s)
    unfold execReplySent
    split
    · exact act (((r.setTrunk k _).setTrunk k _).takeReset _)
    all_goals exact next r
  | reportSent k =>
    change MovesPages s (execReportSent k s)
    unfold execReportSent
    split
    · exact act (r.setTrunk k _)
    all_goals exact next r
  | headCellSent l => exact next (r.same rfl rfl)

end MovesPages

/-- Every step changes the pages and the path lists by shrinking steps and granted allocations only. -/
theorem step_pagesMove {s t : State} (h : step s = .next t) : PagesMove s t := by
  unfold step at h
  split at h
  · cases h
    exact .shrink (.tick s)
  · rename_i c rest _
    have taken : PagesShrink s { s with pending := rest } := (PagesShrink.refl s).same rfl rfl
    exact .trans (.shrink taken) (MovesPages.exec c _ t h)

/-! ### The limits (R9, R35, R45) -/

/-- The pages counted are those of the entries whose page has the property. -/
theorem State.countPages_eq_card (s : State) (f : Page → Bool) :
    s.countPages f = (Finset.univ.filter fun i : Fin 64 => (s.pageAt i).any f).card := by
  have entries : s.entries.toList = (List.finRange 64).map s.entry := by
    apply List.ext_getElem <;> simp [State.entry]
  rw [State.countPages, entries, List.countP_map, List.countP_eq_length_filter, ← List.toFinset_finRange,
    ← List.toFinset_filter, List.toFinset_card_of_nodup ((List.nodup_finRange 64).filter _)]
  rfl

/-- The entries of a lane's pages. -/
theorem State.laneNonFree_eq_card (s : State) (l : LaneId) :
    s.laneNonFree l = (Finset.univ.filter fun i : Fin 64 => ∃ p, s.pageAt i = some p ∧ p.lane = l).card := by
  simp [State.laneNonFree, State.countPages_eq_card, Option.any_eq_true]

/-- Whatever is counted, the count is at most the number of entries. -/
theorem State.countPages_le (s : State) (f : Page → Bool) : s.countPages f ≤ 64 :=
  List.countP_le_length.trans (by simp)

theorem PagesShrink.laneNonFree {s t : State} (h : PagesShrink s t) (l : LaneId) :
    t.laneNonFree l ≤ s.laneNonFree l := by
  rw [State.laneNonFree_eq_card, State.laneNonFree_eq_card]
  refine Finset.card_le_card (Finset.monotone_filter_right _ ?_)
  rintro i _ ⟨q, hq, rfl⟩
  obtain ⟨p, hp, later⟩ := h.page i q hq
  exact ⟨p, hp, later.lane.symm⟩

/-- An allocation adds at most one page to its own lane (R4). -/
theorem State.allocate_laneNonFree_self (s : State) (l : LaneId) (i : Fin 64) (pos : SeqPos) (edge : Option Nat) :
    (s.allocate l i pos edge).laneNonFree l ≤ s.laneNonFree l + 1 := by
  rw [State.laneNonFree_eq_card, State.laneNonFree_eq_card]
  refine (Finset.card_le_card fun j hj => ?_).trans (Finset.card_insert_le i _)
  simp only [Finset.mem_filter, Finset.mem_univ, true_and, Finset.mem_insert, State.allocate_pageAt] at hj ⊢
  split at hj
  · exact .inl ‹j = i›
  · exact .inr hj

/-- An allocation adds no page to another lane. -/
theorem State.allocate_laneNonFree_ne (s : State) {l k : LaneId} (i : Fin 64) (pos : SeqPos) (edge : Option Nat)
    (h : l ≠ k) : (s.allocate l i pos edge).laneNonFree k ≤ s.laneNonFree k := by
  rw [State.laneNonFree_eq_card, State.laneNonFree_eq_card]
  refine Finset.card_le_card (Finset.monotone_filter_right _ ?_)
  rintro j _ ⟨p, hp, lane⟩
  rw [State.allocate_pageAt] at hp
  split at hp
  · cases hp
    exact absurd lane h
  · exact ⟨p, hp, lane⟩

theorem PagesShrink.limitsSound {s t : State} (h : PagesShrink s t) (limits : LimitsSound s) : LimitsSound t :=
  fun l => ⟨(h.path l).trans (limits l).1, (h.laneNonFree l).trans (limits l).2⟩

/-- An allocation needs fewer than 4 sheets in the path list and fewer than 24 pages of the lane (R4, R45). -/
theorem State.MayAllocate.limitsSound {s : State} {l : LaneId} {i : Fin 64} {edge : Option Nat}
    (may : s.MayAllocate l i edge) (pos : SeqPos) (limits : LimitsSound s) :
    LimitsSound (s.allocate l i pos edge) := by
  intro k
  by_cases e : l = k
  · subst e
    have room := may.room
    have granted := ((s.grantedEntry_eq_some l i).1 may.granted).1
    have added := s.allocate_laneNonFree_self l i pos edge
    rw [State.allocate_lane_path, List.length_append, List.length_singleton]
    omega
  · rw [State.allocate_lane_ne s i pos edge e]
    exact ⟨(limits k).1, (s.allocate_laneNonFree_ne i pos edge e).trans (limits k).2⟩

theorem PagesShrink.onePicked {s t : State} (h : PagesShrink s t) (one : OnePicked s) : OnePicked t := by
  intro i j p q hp hq picked picked' lane
  obtain ⟨p', hp', later⟩ := h.page i p hp
  obtain ⟨q', hq', later'⟩ := h.page j q hq
  exact one i j p' q' hp' hq' (later.picked picked) (later'.picked picked') (by rw [← later.lane, lane, later'.lane])

/-- After an allocation a PICKED page is either an old one or that of a pick, whose lane had none. -/
theorem State.MayAllocate.onePicked {s : State} {l : LaneId} {i : Fin 64} {edge : Option Nat}
    (may : s.MayAllocate l i edge) (pos : SeqPos) (one : OnePicked s) : OnePicked (s.allocate l i pos edge) := by
  have alone (j : Fin 64) (q : Page) (hq : s.pageAt j = some q) (picked : q.state = .picked)
      (new : (Page.allocated l pos (s.lane l).gen edge).state = .picked) : q.lane ≠ l := by
    cases edge with
    | none => exact fun lane => (s.pickedEntry_none l).1 (may.picked rfl) j q hq lane picked
    | some _ => cases new
  intro j k p q hp hq picked picked' lane
  rw [State.allocate_pageAt] at hp hq
  split at hp <;> split at hq
  · exact ‹j = i›.trans ‹k = i›.symm
  · cases hp
    exact absurd lane.symm (alone k q hq picked' picked)
  · cases hq
    exact absurd lane (alone j p hp picked picked')
  · exact one j k p q hp hq picked picked' lane

/-- What shrinking steps and granted allocations keep. -/
theorem PagesMove.keeps {P : State → Prop} (shrink : ∀ {s t}, PagesShrink s t → P s → P t)
    (allocate : ∀ {s l i edge}, s.MayAllocate l i edge → ∀ pos, P s → P (s.allocate l i pos edge)) {s t : State}
    (h : PagesMove s t) (p : P s) : P t := by
  induction h with
  | shrink h => exact shrink h p
  | allocate l i pos edge _ may after ih => exact shrink after (allocate may pos ih)

/-- Settles O13: a step consists of shrinking steps and granted allocations, and both kinds keep the limits. -/
theorem stepKeepsPageLimits : Obligations.StepKeepsPageLimits := fun _ t h =>
  ⟨(step_pagesMove h).keeps PagesShrink.limitsSound State.MayAllocate.limitsSound,
    (step_pagesMove h).keeps PagesShrink.onePicked State.MayAllocate.onePicked,
    t.countPages_le _⟩

end Sys2Proof.Machine
end

section
/-! What the operations that reach beside the lanes leave as it was: occurrences, raw levels, head cells, writes
through tokens, freed entries. -/

namespace Sys2Proof.Machine

/- One proof after another: every thread of a parallel elaboration reserves memory, which the check limits. -/
set_option Elab.async false

/-! ### Frames -/

/-- An occurrence changes the events and nothing else. -/
theorem State.occur_frame (s : State) (c : Fin 20) (src : Nat) :
    s.occur c src = { s with events := (s.occur c src).events } := by
  unfold State.occur
  split <;> rfl

/-- A raw level changes the events and nothing else. -/
theorem State.setRaw_frame (s : State) (c : Fin 20) (src : Nat) (level : Bool) :
    s.setRaw c src level = { s with events := (s.setRaw c src level).events } := by
  unfold State.setRaw
  split_ifs <;> rfl

/-- A cell for a head changes its lane's head port and nothing else. -/
theorem State.sendHead_frame (s : State) (l : LaneId) (kind : HeadKind) (token : Nat) :
    s.sendHead l kind token = { s with heads := (s.sendHead l kind token).heads } := by
  unfold State.sendHead
  split <;> rfl

/-- A write through a token changes the page table and nothing else. -/
theorem State.modToken_frame (s : State) (token : Nat) (f : Page → Page) :
    s.modToken token f = { s with entries := (s.modToken token f).entries } := by
  unfold State.modToken
  split <;> rfl

@[simp] theorem State.occur_lanes (s : State) (c : Fin 20) (src : Nat) : (s.occur c src).lanes = s.lanes := by
  rw [State.occur_frame]

@[simp] theorem State.occur_banks (s : State) (c : Fin 20) (src : Nat) : (s.occur c src).banks = s.banks := by
  rw [State.occur_frame]

@[simp] theorem State.setRaw_lanes (s : State) (c : Fin 20) (src : Nat) (level : Bool) :
    (s.setRaw c src level).lanes = s.lanes := by
  rw [State.setRaw_frame]

@[simp] theorem State.setRaw_banks (s : State) (c : Fin 20) (src : Nat) (level : Bool) :
    (s.setRaw c src level).banks = s.banks := by
  rw [State.setRaw_frame]

@[simp] theorem State.sendHead_lanes (s : State) (l : LaneId) (kind : HeadKind) (token : Nat) :
    (s.sendHead l kind token).lanes = s.lanes := by
  rw [State.sendHead_frame]

@[simp] theorem State.modToken_lanes (s : State) (token : Nat) (f : Page → Page) :
    (s.modToken token f).lanes = s.lanes := by
  rw [State.modToken_frame]

@[simp] theorem State.freeEntry_lanes (s : State) (i : Fin 64) : (s.freeEntry i).lanes = s.lanes := by
  rw [State.freeEntry_frame]

@[simp] theorem State.freeEntry_banks (s : State) (i : Fin 64) : (s.freeEntry i).banks = s.banks := by
  rw [State.freeEntry_frame]

@[simp] theorem State.takeOne_lanes (s : State) (l : LaneId) (ls : List LaneId) :
    (s.takeOne l ls).2.lanes = s.lanes := by
  rw [(s.takeOne_spec l ls).2]

@[simp] theorem State.setLink_lanes (s : State) (p : Port) (x : Link) : (s.setLink p x).lanes = s.lanes := by
  cases p <;> simp [State.setLink]

@[simp] theorem State.setLink_banks (s : State) (p : Port) (x : Link) : (s.setLink p x).banks = s.banks := by
  cases p <;> simp [State.setLink]

/-- Two changes of one lane are one. -/
theorem State.modLane_modLane (s : State) (l : LaneId) (f g : Lane → Lane) :
    (s.modLane l f).modLane l g = s.modLane l fun x => g (f x) := by
  simp [State.modLane, State.setLane, State.lane]

/-- What no turn of a pass changes, the pass does not change. -/
theorem foldl_field {α β : Type} (g : State → β) (f : State → α → State) (hf : ∀ u x, g (f u x) = g u) (xs : List α) :
    ∀ s : State, g (xs.foldl f s) = g s := by
  induction xs with
  | nil => exact fun _ => rfl
  | cons x xs ih => exact fun s => (ih (f s x)).trans (hf s x)

@[simp] theorem State.gateOpen_lanes (s : State) (l : LaneId) (token : Nat) : (s.gateOpen l token).lanes = s.lanes := by
  unfold State.gateOpen
  split
  · rfl
  · dsimp only
    split_ifs <;> simp

@[simp] theorem State.gateClose_lanes (s : State) (l : LaneId) (token timeout : Nat) :
    (s.gateClose l token timeout).lanes = s.lanes := by
  unfold State.gateClose
  split
  · rfl
  · dsimp only
    split_ifs <;> simp

@[simp] theorem State.cancelImage_lanes (s : State) (l : LaneId) (token : Nat) :
    (s.cancelImage l token).lanes = s.lanes := by
  unfold State.cancelImage
  split
  · rfl
  · split_ifs <;> simp

@[simp] theorem State.setFillState_lanes (s : State) (c : ChanId) (f : FillState) :
    (s.setFillState c f).lanes = s.lanes := by
  simp [State.setFillState]

@[simp] theorem State.evalHeadDown_lanes (s : State) (l : LaneId) : (s.evalHeadDown l).lanes = s.lanes :=
  s.setRaw_lanes _ _ _

end Sys2Proof.Machine
end

section
/-! What a sub-act can do to a lane (R22, R48): its positions stay or both become 0, it comes to rest at 0 only, and
a lane stopped by a jam stays as the jam left it. -/

namespace Sys2Proof.Machine

/- One proof after another: every thread of a parallel elaboration reserves memory, which the check limits. -/
set_option Elab.async false

/-! ### The change of one lane -/

/-- JAMMED, with the belt stopped (R48, R60). -/
structure Lane.Stopped (x : Lane) : Prop where
  state : x.state = .jammed
  speed : x.speed = 0
  target : x.target = 0
  ramp : x.ramp = none

/-- The counter and H are as they were, and the lane rests only if it did; or both are 0. -/
def Lane.Placed (x y : Lane) : Prop :=
  (y.counter = x.counter ∧ y.high = x.high ∧ (y.state.resting = true → x.state.resting = true))
    ∨ (y.counter = 0 ∧ y.high = 0)

/-- What a sub-act can make of the lane `x`. -/
structure Lane.Evolves (x y : Lane) : Prop where
  placed : x.Placed y
  stopped : x.Stopped → y.Stopped ∧ y.lastJam = x.lastJam ∧ y.path = x.path

/-- The fields that `Evolves` speaks of. -/
def Lane.core (x : Lane) : LaneState × Int × Nat × Option JamCause × List Sheet × Nat × Nat × Option Ramp :=
  (x.state, x.counter, x.high, x.lastJam, x.path, x.speed, x.target, x.ramp)

theorem Lane.PositionSound.placed {x y : Lane} (h : x.PositionSound) (k : x.Placed y) : y.PositionSound := by
  obtain ⟨lo, le, hi, rest⟩ := h
  rcases k with ⟨counter, high, resting⟩ | ⟨counter, high⟩
  · refine ⟨by rwa [counter], by rwa [counter, high], by rwa [high], fun r => ?_⟩
    rw [counter, high]
    exact rest (resting r)
  · refine ⟨?_, by simp [counter, high], by simp [high], fun _ => ⟨counter, high⟩⟩
    rw [counter]
    decide

namespace Lane.Evolves

variable {x y z : Lane}

theorem ofCore (h : y.core = x.core) : x.Evolves y := by
  simp only [Lane.core, Prod.mk.injEq] at h
  obtain ⟨state, counter, high, lastJam, path, speed, target, ramp⟩ := h
  refine ⟨.inl ⟨counter, high, fun r => by rwa [← state]⟩, fun k => ⟨⟨?_, ?_, ?_, ?_⟩, lastJam, path⟩⟩
  · rw [state, k.state]
  · rw [speed, k.speed]
  · rw [target, k.target]
  · rw [ramp, k.ramp]

theorem refl (x : Lane) : x.Evolves x := ofCore rfl

theorem trans (h : x.Evolves y) (k : y.Evolves z) : x.Evolves z := by
  refine ⟨?_, fun s => ?_⟩
  · rcases k.placed with ⟨counter, high, rest⟩ | zero
    · rcases h.placed with ⟨counter', high', rest'⟩ | ⟨counter', high'⟩
      · exact .inl ⟨counter.trans counter', high.trans high', fun r => rest' (rest r)⟩
      · exact .inr ⟨counter.trans counter', high.trans high'⟩
    · exact .inr zero
  · obtain ⟨s', jam', path'⟩ := h.stopped s
    obtain ⟨s'', jam'', path''⟩ := k.stopped s'
    exact ⟨s'', jam''.trans jam', path''.trans path'⟩

/-- A lane that is not JAMMED takes a state other than OFF and IDLE. -/
theorem unrested (jam : x.state ≠ .jammed) (rest : y.state.resting = false) (counter : y.counter = x.counter)
    (high : y.high = x.high) : x.Evolves y :=
  ⟨.inl ⟨counter, high, fun r => by simp [rest] at r⟩, fun k => absurd k.state jam⟩

/-- A lane that is not JAMMED sets its counter to 0. -/
theorem zeroed (jam : x.state ≠ .jammed) (counter : y.counter = 0) (high : y.high = 0) : x.Evolves y :=
  ⟨.inr ⟨counter, high⟩, fun k => absurd k.state jam⟩

end Lane.Evolves

/-- Going on from RUNOUT with an empty path list touches the state and the runout timer only (R31). -/
theorem Lane.drained_eq (x : Lane) :
    x.drained = { x with
      state := if x.path = [] then .rampDown else x.state
      runoutTimer := if x.path = [] then none else x.runoutTimer } := by
  unfold Lane.drained
  by_cases h : x.path = [] <;> simp [h]

theorem LaneState.stoppable_not_jammed {x : LaneState} (h : x.stoppable = true) : x ≠ .jammed := by
  rintro rfl
  cases h

theorem LaneState.moving_not_resting {x : LaneState} (h : x.moving = true) : x.resting = false := by
  revert h
  cases x <;> decide

theorem Lane.takePos_state (x : Lane) : x.takePos.state = x.state := by
  unfold Lane.takePos
  split <;> rfl

theorem LaneState.moving_not_jammed {x : LaneState} (h : x.moving = true) : x ≠ .jammed := by
  rintro rfl
  cases h

/-- A stopped lane keeps the target 0, which starts no ramp (R55, R60). -/
theorem Lane.Evolves.retarget (x : Lane) (e slope : Nat) (h : x.state = .jammed → e = 0) :
    x.Evolves (x.retarget e slope) := by
  have frame := x.retarget_keeps e slope
  refine ⟨.inl ⟨by rw [frame], by rw [frame], fun r => ?_⟩, fun k => ?_⟩
  · rwa [frame] at r
  · have same : x.retarget e slope = x := by
      have heading : x.heading = 0 := by simp [Lane.heading, k.ramp, k.speed]
      rw [Lane.retarget, h k.state, heading, if_pos rfl, ← k.target]
    rw [same]
    exact ⟨k, rfl, rfl⟩

/-! ### The change of all lanes -/

/-- Every lane has changed as a sub-act can change it. -/
def LanesEvolve (s t : State) : Prop := ∀ l, (s.lane l).Evolves (t.lane l)

namespace LanesEvolve

variable {s t u : State}

theorem refl (s : State) : LanesEvolve s s := fun _ => .refl _

theorem trans (h : LanesEvolve s t) (k : LanesEvolve t u) : LanesEvolve s u := fun l => (h l).trans (k l)

theorem positions (h : LanesEvolve s t) (sound : PositionsSound s) : PositionsSound t :=
  fun l => (sound l).placed (h l).placed

/-- An update beside the lanes. -/
theorem same (h : LanesEvolve s t) (lanes : u.lanes = t.lanes := by simp) : LanesEvolve s u := by
  refine h.trans fun l => .ofCore ?_
  rw [State.lane, lanes, State.lane]

theorem modLane (h : LanesEvolve s t) (l : LaneId) {f : Lane → Lane}
    (hf : (t.lane l).Evolves (f (t.lane l)) := by exact .ofCore rfl) : LanesEvolve s (t.modLane l f) := by
  refine h.trans fun k => ?_
  by_cases e : l = k
  · subst e
    simpa using hf
  · simpa [e] using Lane.Evolves.refl _

theorem modDfm (h : LanesEvolve s t) (l : LaneId) (f : Dfm → Dfm) : LanesEvolve s (t.modDfm l f) := h.modLane l

theorem modBatch (h : LanesEvolve s t) (l : LaneId) (f : Batch → Batch) : LanesEvolve s (t.modBatch l f) :=
  h.modLane l

theorem foldl {α : Type} (f : State → α → State) (hf : ∀ u x, LanesEvolve s u → LanesEvolve s (f u x))
    (xs : List α) : ∀ {t : State}, LanesEvolve s t → LanesEvolve s (xs.foldl f t) := by
  induction xs with
  | nil => exact fun h => h
  | cons x xs ih => exact fun h => ih (hf _ x h)

/-- One change of every lane. -/
theorem mapped (h : LanesEvolve s t) {f : Lane → Lane} (lanes : u.lanes = t.lanes.map f)
    (hf : ∀ x : Lane, x.Evolves (f x) := by exact fun _ => .ofCore rfl) : LanesEvolve s u := by
  refine h.trans fun l => ?_
  simpa [State.lane, lanes] using hf t.lanes[l]

/-! ### Each operation of the blocks -/

theorem occur (h : LanesEvolve s t) (c : Fin 20) (src : Nat) : LanesEvolve s (t.occur c src) := h.same

theorem setRaw (h : LanesEvolve s t) (c : Fin 20) (src : Nat) (b : Bool) : LanesEvolve s (t.setRaw c src b) := h.same

theorem modPage (h : LanesEvolve s t) (i : Fin 64) (f : Page → Page) : LanesEvolve s (t.modPage i f) := h.same

theorem modToken (h : LanesEvolve s t) (token : Nat) (f : Page → Page) : LanesEvolve s (t.modToken token f) := h.same

theorem freeEntry (h : LanesEvolve s t) (i : Fin 64) : LanesEvolve s (t.freeEntry i) := h.same

theorem evalDrift (h : LanesEvolve s t) (l : LaneId) : LanesEvolve s (t.evalDrift l) := (h.modDfm l _).setRaw _ _ _

theorem openWindow (h : LanesEvolve s t) (l : LaneId) (g : Gen) (token lead : Nat) :
    LanesEvolve s (t.openWindow l g token lead) := h.modDfm l _

theorem enterDegraded (h : LanesEvolve s t) (l : LaneId) : LanesEvolve s (t.enterDegraded l) :=
  ((h.modDfm l _).setRaw _ _ _).evalDrift l

theorem calibrated (h : LanesEvolve s t) (l : LaneId) (sum : Nat) : LanesEvolve s (t.calibrated l sum) :=
  ((h.modDfm l _).setRaw _ _ _).evalDrift l

theorem airSample (h : LanesEvolve s t) (l : LaneId) (a : Nat) : LanesEvolve s (t.airSample l a) := by
  unfold State.airSample
  split
  · unfold State.calibrationSample
    dsimp only
    split_ifs
    · exact h.calibrated l _
    · exact h.modDfm l _
    · exact h.modDfm l _
    · exact (h.modDfm l _).enterDegraded l
  · unfold State.baselineSample
    dsimp only
    split_ifs
    · exact h
    · exact (h.modDfm l _).evalDrift l
    · exact (h.modDfm l _).enterDegraded l
    · exact h.modDfm l _
  · exact h

/-- The pass of the FGC: a JAMMED lane has the target 0, and a lane leaves RAMP_UP for HOLDING (R30, R55). -/
theorem onFgc (h : LanesEvolve s t) : LanesEvolve s (Machine.onFgc t).1 := by
  refine h.trans fun l => ?_
  have targeted : (t.lane l).Evolves ((allLanes.foldl State.retarget t).lane l) := by
    rw [foldl_retarget_lane]
    split
    · exact .refl _
    · exact .retarget _ _ _ fun jammed => by simp [State.targetOf, jammed, LaneState.driven]
  refine targeted.trans ?_
  unfold Machine.onFgc
  rw [foldl_leaveRampUp_lane]
  split
  · rename_i ends
    simp only [Lane.rampUpEnds, Bool.and_eq_true, beq_iff_eq] at ends
    exact .unrested (by simp [ends]) rfl rfl rfl
  · exact .refl _

theorem toRest (h : LanesEvolve s t) (l : LaneId) (jam : (t.lane l).state ≠ .jammed) :
    LanesEvolve s (t.toRest l) := by
  have rested (state : LaneState) := (h.modLane l (f := fun x => { x.zeroCounter with
    state := state, trayEmpty := false }) (.zeroed jam rfl rfl)).modDfm l Dfm.endRun
  unfold State.toRest
  dsimp only
  split
  · exact (rested .idle).occur _ _
  · exact rested .off

theorem drained (h : LanesEvolve s t) (l : LaneId) (runout : (t.lane l).state = .runout) :
    LanesEvolve s (t.modLane l Lane.drained) := by
  refine h.modLane l (.unrested (by simp [runout]) ?_ ?_ ?_)
  · rw [Lane.drained_eq]
    dsimp only
    split
    · rfl
    · rw [runout]; rfl
  · rw [Lane.drained_eq]
  · rw [Lane.drained_eq]

theorem toRunout (h : LanesEvolve s t) (l : LaneId) (jam : (t.lane l).state ≠ .jammed) :
    LanesEvolve s (t.toRunout l) := by
  refine h.modLane l (.unrested jam ?_ ?_ ?_)
  · rw [Lane.drained_eq]
    dsimp only
    split <;> rfl
  · rw [Lane.drained_eq]
  · rw [Lane.drained_eq]

theorem toRampUp (h : LanesEvolve s t) (l : LaneId) (jam : (t.lane l).state ≠ .jammed) :
    LanesEvolve s (t.toRampUp l) :=
  ((h.modLane l (.unrested jam rfl rfl rfl)).modDfm l _).evalDrift l

theorem holdFeeding (h : LanesEvolve s t) (l : LaneId) : LanesEvolve s (t.holdFeeding l) := by
  unfold State.holdFeeding
  split
  · rename_i feeding
    exact h.modLane l (.unrested (by simp [feeding]) rfl rfl rfl)
  · exact h

theorem toFeeding (h : LanesEvolve s t) (l : LaneId) (jam : (t.lane l).state ≠ .jammed) :
    LanesEvolve s (t.toFeeding l) := h.modLane l (.unrested jam rfl rfl rfl)

theorem released_not_jammed {l : LaneId} (h : l ∈ s.released) : (s.lane l).state ≠ .jammed := by
  simp only [State.released, List.mem_filter, Bool.and_eq_true, beq_iff_eq] at h
  simp [h]

/-- The lanes that go to FEEDING were HOLDING. -/
theorem onHolds (h : LanesEvolve s t) : LanesEvolve s (Machine.onHolds t).1 := by
  have held : LanesEvolve s t.holdAll := h.foldl State.holdFeeding (fun _ l k => k.holdFeeding l) allLanes
  unfold Machine.onHolds feedNext
  split
  · rename_i l _ notDue
    refine held.toFeeding l (released_not_jammed (s := t.holdAll) ?_)
    exact List.mem_of_mem_filter (notDue ▸ List.mem_cons_self)
  · exact held
  · rename_i l ls released _
    have taken : LanesEvolve s (t.holdAll.takeOne l ls).2 := held.same
    refine taken.toFeeding _ ?_
    have mem := (t.holdAll.takeOne_spec l ls).1
    rw [State.lane, State.takeOne_lanes]
    exact released_not_jammed (s := t.holdAll) (by rw [released]; exact mem)

theorem allocate (h : LanesEvolve s t) (l : LaneId) (i : Fin 64) (pos : SeqPos) (edge : Option Nat)
    (jam : (t.lane l).state ≠ .jammed) (rest : (t.lane l).state.resting = false) :
    LanesEvolve s (t.allocate l i pos edge) := by
  refine LanesEvolve.modLane (t := t.setEntry i _) (h.same rfl) l (.unrested jam ?_ ?_ ?_)
  · rw [← Lane.takePos_state] at rest
    exact rest
  all_goals
    dsimp only [Lane.takePos]
    split <;> rfl


theorem trayFoundEmpty (h : LanesEvolve s t) (l : LaneId) (jam : (t.lane l).state ≠ .jammed) :
    LanesEvolve s (Machine.trayFoundEmpty l t).1 := by
  unfold Machine.trayFoundEmpty
  split
  · exact h.toRunout l jam
  · exact h.modLane l (.unrested jam rfl rfl rfl)

theorem setGate (h : LanesEvolve s t) (l : LaneId) (sel : Sheet → Bool) (g : GateProgress)
    (jam : (t.lane l).state ≠ .jammed) (rest : (t.lane l).state.resting = false) :
    LanesEvolve s (t.setGate l sel g) := h.modLane l (.unrested jam rest rfl rfl)

theorem leadingEdge (h : LanesEvolve s t) (l : LaneId) (i : Fin 64) (jam : (t.lane l).state ≠ .jammed)
    (rest : (t.lane l).state.resting = false) : LanesEvolve s (t.leadingEdge l i) := by
  refine LanesEvolve.openWindow (LanesEvolve.modLane (t := t.modPage i _) (h.same rfl) l
    (.unrested jam ?_ rfl rfl)) l _ _ _
  dsimp only
  split
  · rfl
  · exact rest

theorem unexpectedSheet (h : LanesEvolve s t) (l : LaneId) (i : Fin 64) (pos : SeqPos)
    (jam : (t.lane l).state ≠ .jammed) (rest : (t.lane l).state.resting = false) :
    LanesEvolve s (t.unexpectedSheet l i pos) := by
  have sheet := ((h.allocate l i pos (some (t.lane l).high) jam rest).modLane l
    (f := fun x => { x with sensor := some (t.tokenOf i) })).openWindow l (t.lane l).gen (t.tokenOf i) (t.lane l).high
  unfold State.unexpectedSheet
  dsimp only
  split
  · rename_i rampDown
    refine sheet.toRunout l ?_
    simp [State.openWindow, State.allocate, Lane.takePos_state, rampDown]
  · exact sheet

theorem trailingEdge (h : LanesEvolve s t) (l : LaneId) (token : Nat) (jam : (t.lane l).state ≠ .jammed)
    (rest : (t.lane l).state.resting = false) : LanesEvolve s (t.trailingEdge l token) := by
  unfold State.trailingEdge
  dsimp only
  split
  · exact ((h.modLane l (.unrested jam rest rfl rfl)).modToken _ _).modToken _ _
  · exact (h.modLane l (.unrested jam rest rfl rfl)).modToken _ _

/-- Entry edges are taken in the moving states only (R24). -/
theorem onEdge (h : LanesEvolve s t) (l : LaneId) : LanesEvolve s (Machine.onEdge l t).1 := by
  unfold Machine.onEdge
  split
  · rename_i moves
    have noted := h.modLane l (f := fun x => { x with lastSensor := x.entryBlocked })
    have jam : ((t.modLane l fun x => { x with lastSensor := x.entryBlocked }).lane l).state ≠ .jammed := by
      simpa using LaneState.moving_not_jammed moves.1
    have rest : ((t.modLane l fun x => { x with lastSensor := x.entryBlocked }).lane l).state.resting = false := by
      simpa using LaneState.moving_not_resting moves.1
    dsimp only
    split
    · unfold leadingEdgeTaken
      split
      · exact noted.leadingEdge l _ jam rest
      · split
        · split
          · exact noted.unexpectedSheet l _ _ jam rest
          · exact noted
        · exact noted
    · unfold trailingEdgeTaken
      split
      · exact noted.trailingEdge l _ jam rest
      · exact noted
  · exact h

/-- A jam stops a moving lane where it stands (R48). -/
theorem onJam (h : LanesEvolve s t) (l : LaneId) (cause : JamCause) : LanesEvolve s (Machine.onJam l cause t).1 := by
  unfold Machine.onJam
  split
  · rename_i moves
    have jammed := (h.modLane l (f := fun x => x.jammed cause)
      (.unrested (LaneState.moving_not_jammed moves) rfl rfl rfl)).evalDrift l
    exact occur (foldl _ (fun _ _ k => k.same) _ (jammed.foldl _ (fun _ _ k => k.modToken _ _) _)) _ _
  · exact h

theorem onPickTest (h : LanesEvolve s t) (l : LaneId) : LanesEvolve s (Machine.onPickTest l t).1 := by
  unfold Machine.onPickTest
  split
  · rename_i due
    have feeding : (t.lane l).state = .feeding := by
      simp only [State.pickDue, Bool.and_eq_true, beq_iff_eq] at due
      exact due.1
    have jam : (t.lane l).state ≠ .jammed := by simp [feeding]
    split
    · split
      · exact (h.allocate l _ _ none jam (by simp [feeding, LaneState.resting])).modLane l
      · exact h.modLane l (.unrested jam rfl rfl rfl)
      · exact h.modLane l (.unrested jam rfl rfl rfl)
    · exact h.trayFoundEmpty l jam
  · exact h

theorem adoptEnabled (h : LanesEvolve s t) (l : LaneId) : LanesEvolve s (t.adoptEnabled l) := by
  have runout (jam : (t.lane l).state ≠ .jammed) :
      LanesEvolve s (if t.laneEnabled l then t else t.toRunout l) := by
    split
    · exact h
    · exact h.toRunout l jam
  unfold State.adoptEnabled
  split
  case h_1 off =>
    split
    · exact h.modLane l (.zeroed (by simp [off]) rfl rfl)
    · exact h
  case h_2 idle =>
    split
    · exact h
    · exact h.modLane l (.zeroed (by simp [idle]) rfl rfl)
  case h_3 e | h_4 e | h_5 e | h_6 e => exact runout (by simp [e])
  case h_7 | h_8 | h_9 => exact h

theorem takePage (h : LanesEvolve s t) (l : LaneId) (i : Fin 64) (p : Page) :
    LanesEvolve s (Machine.takePage l i p t).1 := by
  have taken := h.modBatch l fun b => { b with opened := true }
  unfold Machine.takePage
  dsimp only
  split_ifs
  · exact taken.occur _ _
  · exact taken
  · exact taken

theorem admitCopies (h : LanesEvolve s t) (l : LaneId) (i : Fin 64) (token size : Nat) (cs : List ChanId) :
    LanesEvolve s (t.admitCopies l i token size cs) := by
  have copied : LanesEvolve s (cs.foldl (State.enqueue token size) t) :=
    h.same (foldl_field State.lanes (State.enqueue token size) (fun _ _ => rfl) cs t)
  exact (LanesEvolve.modBatch (copied.same rfl : LanesEvolve s (State.modPage _ i _)) l _).setRaw _ _ _

theorem retireTo (h : LanesEvolve s t) (g : Gen) : LanesEvolve s (t.retireTo g) :=
  h.mapped (f := fun x => { x with adopted := false }) rfl

theorem switchTo (h : LanesEvolve s t) (l : LaneId) (g : Gen) : LanesEvolve s (t.switchTo l g) :=
  (h.modLane l (f := fun x => { x with gen := g, adopted := true, adoptingFrom := some x.gen })).same rfl

/-- Every sub-act. -/
theorem handle (task : Task) (s : State) : LanesEvolve s (Machine.handle task s).1 := by
  have r := refl s
  cases task with
  | fgc => exact r.onFgc
  | holds => exact r.onHolds
  | pickTest l => exact r.onPickTest l
  | edge l => exact r.onEdge l
  | jam l c => exact r.onJam l c
  | adoptLtc l => exact (r.adoptEnabled l).same (State.evalHeadDown_lanes _ l)
  | adoptDfm l => exact (r.modDfm l _).evalDrift l
  | adoptFgc l => exact (r.modLane l (f := fun x => { x with adoptingFrom := none })).onFgc
  | speedCheck l =>
    rw [handle_speedCheck, onSpeedCheck]
    split_ifs with ends rest
    · rw [State.leaveRampUp, if_pos ends]
      simp only [Lane.rampUpEnds, Bool.and_eq_true, beq_iff_eq] at ends
      exact r.modLane l (.unrested (by simp [ends]) rfl rfl rfl)
    · exact r.toRest l (by simp [rest])
    · exact r
  | runoutTest l =>
    rw [handle_runoutTest, onRunoutTest]
    split
    · rename_i runout
      exact r.drained l runout.1
    · exact r
  | enterRunout l =>
    rw [handle_enterRunout, onEnterRunout]
    split
    · rename_i stops
      exact r.toRunout l (LaneState.stoppable_not_jammed stops)
    · exact r
  | assemble token =>
    rw [handle_assemble, onAssemble]
    split
    · exact r
    · split
      · dsimp only
        split
        · exact r.same
        · exact r.same
      · exact r
  | retire =>
    rw [handle_retire, onRetire]
    split
    · split
      · exact r.retireTo _
      · exact r
    · exact r
  | release l =>
    rw [handle_release, onRelease]
    split
    · split
      · exact r.takePage l _ _
      · exact r
    · exact r
    · exact r
  | adoptMoment l =>
    rw [handle_adoptMoment, onAdoptMoment]
    split <;> exact r
  | adopt l =>
    rw [handle_adopt, onAdopt]
    split
    · exact r
    · split
      · exact r
      · exact r.switchTo l _
  | adoptAll ls =>
    rw [handle_adoptAll, onAdoptAll]
    unfold adoptNext
    split
    · exact r
    · exact r
    · exact r.same
  | adoptChannels old =>
    rw [handle_adoptChannels, onAdoptChannels]
    split <;> exact r
  | adoptLsq l =>
    rw [handle_adoptLsq, onAdoptLsq]
    dsimp only
    exact r.modBatch l _
  | adoptEnd => exact r.occur _ _
  | newBatch l token =>
    rw [handle_newBatch, onNewBatch]
    split
    · exact r
    · exact (r.modBatch l _).occur _ _
  | lsqMarks l token action blankDrop =>
    rw [handle_lsqMarks, onLsqMarks]
    split
    · exact r
    · dsimp only
      split
      · exact (r.modBatch l _).freeEntry _
      · dsimp only
        exact r.modBatch l _
  | lsqNumber l token =>
    rw [handle_lsqNumber, onLsqNumber]
    split
    · exact r
    · dsimp only
      split
      · exact ((r.modPage _ _).modBatch l _).occur _ _
      · exact (r.modPage _ _).modBatch l _
  | attempt l token =>
    rw [handle_attempt, onAttempt]
    split
    · exact r
    · split
      · split
        · exact r
        · split
          · exact r.admitCopies l _ _ _ _
          · unfold State.refuse
            split
            · exact r.modBatch l _
            · exact r
      · exact r
  | retries c =>
    rw [handle_retries, onRetries]
    unfold retryNext
    split
    · exact r
    · exact r.same
  | fillEval c =>
    rw [handle_fillEval, onFillEval]
    split
    · exact r
    · exact r.same
  | scheduled l =>
    rw [handle_scheduled, onScheduled]
    split
    · rename_i moves
      have jam := LaneState.moving_not_jammed moves
      have rest := LaneState.moving_not_resting moves
      split
      · exact (r.setGate l _ _ jam rest).same (State.gateOpen_lanes _ l _)
      · split
        · exact (r.setGate l _ _ jam rest).same (State.gateClose_lanes _ l _ _)
        · split
          · exact r.modLane l (.unrested jam rest rfl rfl)
          · exact r
    · exact r
  | gapPick l =>
    rw [handle_gapPick, onGapPick]
    split <;> exact r
  | samples l =>
    rw [handle_samples, onSamples]
    split
    · exact (r.modDfm l _).foldl _ (fun _ _ k => k.modToken _ _) _
    · exact r
  | air l =>
    rw [handle_air, onAir]
    dsimp only
    split_ifs
    · exact (r.modDfm l _).airSample l _
    · exact r.modDfm l _
    · exact r
  | jamChecks l =>
    rw [handle_jamChecks, onJamChecks]
    split_ifs <;> exact r

/-- An agenda. -/
theorem run (n : Nat) (ts : List Task) (s : State) : LanesEvolve s (Machine.run n ts s) :=
  run_keeps (P := LanesEvolve s) (fun t _ k => k.trans (.handle t _)) n ts s (.refl s)

/-- A whole act, from the state it begins with to its transmit slots. -/
theorem settle (m : Move) : LanesEvolve m.1 (Machine.settle m) :=
  (run Config.actFuel m.2 m.1).same (SlotsKept.slots _).paper.1

end LanesEvolve
end Sys2Proof.Machine
end

section
/-! Induction over steps, once: what an invariant of the lanes and the banks must be kept by for every step to keep
it. The invariant of the position counters is one such (R22, R23). -/

namespace Sys2Proof.Machine

/- One proof after another: every thread of a parallel elaboration reserves memory, which the check limits. -/
set_option Elab.async false

/-! ### The induction -/

/-- `P` speaks of the lanes and the banks only, and is kept by every sub-act, by time, by the resets, and by the own
effect of each command that touches a lane or a bank beside its sub-acts. -/
structure KeptByCommands (P : State → Prop) : Prop where
  same : ∀ {s t}, P s → (lanes : t.lanes = s.lanes := by simp) → (banks : t.banks = s.banks := by simp) → P t
  task : ∀ task {s}, P s → P (handle task s).1
  tick : ∀ {s}, P s → P s.tick
  hardReset : ∀ cause {s}, P s → P (s.hardReset cause)
  lineReset : ∀ {s}, P s → P s.lineReset
  forwardStep : ∀ l a {s}, P s → P (forwardStep l a s).1
  reverseStep : ∀ l {s}, P s → P (reverseStep l s).1
  entrySensor : ∀ l b {s}, P s → P (s.modLane l fun x => { x with entryBlocked := b })
  trayChange : ∀ l paper {s}, P s → P (trayChange l paper s).1
  rampPeriod : ∀ l {s}, P s → P (s.modLane l Lane.rampPeriod)
  misfeedExpiry : ∀ l {s}, P s → P (misfeedExpiry l s).1
  retryEnd : ∀ l {s}, P s → P (retryEnd l s).1
  waitExpiry : ∀ l {s}, P s → P (waitExpiry l s).1
  startLane : ∀ l {s}, P s → P (startLane l s).1.1
  clearLane : ∀ l {s}, P s → P (clearLane l s).1.1
  rescanPage : ∀ token n {s}, P s → P (rescanPage token n s).1.1
  cancelSlot : ∀ l pos {s}, P s → P (cancelSlot l pos s).1.1
  loadTable : ∀ table index record {s}, P s → P (loadTable table index record s).1.1
  makePending : ∀ {s}, P s → P s.makePending
  copyComplete : ∀ {s}, P s → P (copyComplete s).1

/-- The outcome, when it is a next state, has the property. -/
def Answers (P : State → Prop) (o : Host.Outcome State Fault Refusal) : Prop := ∀ t, o = .next t → P t

theorem Answers.next {P : State → Prop} {s : State} (h : P s) : Answers P (.next s) := by
  rintro _ ⟨⟩
  exact h

namespace KeptByCommands

variable {P : State → Prop} {s : State}

theorem act (k : KeptByCommands P) {m : Move} (h : P m.1) : Answers P (Machine.act m) := by
  rintro _ ⟨⟩
  exact settle_keeps (fun task _ => k.task task) (fun _ _ slots p => k.same p slots.paper.1 slots.tables.1) m h

/-! ### Links and head cells -/

theorem takeReset (k : KeptByCommands P) (h : P s) (r : Option ResetKind) : P (s.takeReset r) := by
  match r with
  | none => exact h
  | some .full => exact k.hardReset _ h
  | some .line => exact k.lineReset h

theorem portUp (k : KeptByCommands P) (h : P s) (p : Port) : P (s.portUp p) := by
  refine k.same h ?_ ?_
  all_goals
    cases p with
    | head l => simp [State.portUp, State.evalHeadDown]
    | trunk t =>
      simp only [State.portUp, State.trunkUp, State.evalTrunkDown]
      split <;> simp

theorem trunkLoss (k : KeptByCommands P) (h : P s) (t : Trunk) : P (s.trunkLoss t) := by
  have restored (tx : Option TxCell) :
      (s.restoreReport tx).lanes = s.lanes ∧ (s.restoreReport tx).banks = s.banks := by
    unfold State.restoreReport
    split
    · split <;> simp
    · simp
  refine k.same h ?_ ?_
  all_goals
    simp only [State.trunkLoss, State.evalTrunkDown]
    split <;> simp [restored]

theorem headLeavesUp (k : KeptByCommands P) (h : P s) (l : LaneId) : P (headLeavesUp l s).1 := by
  refine k.same h ?_ ?_
  · rw [Machine.headLeavesUp, State.evalHeadDown_lanes]
    exact foldl_field State.lanes (fun s i => s.modPage i Page.closeTruncated) (fun _ _ => rfl) _ s
  · rw [Machine.headLeavesUp, State.evalHeadDown, State.setRaw_banks]
    exact foldl_field State.banks (fun s i => s.modPage i Page.closeTruncated) (fun _ _ => rfl) _ s

theorem goDown (k : KeptByCommands P) (h : P s) (p : Port) (x : Link) : P (goDown p x s).1 := by
  have down : P (s.setLink p x.toDown) := k.same h
  unfold Machine.goDown
  dsimp only
  split
  · cases p with
    | head l =>
      have emptied : P ((s.setLink (.head l) x.toDown).setHead l
          { (s.setLink (.head l) x.toDown).head l with txQueue := [] }) := k.same down
      exact k.headLeavesUp emptied l
    | trunk t => exact k.takeReset (k.trunkLoss down t) _
  · exact down

/-- A delivered cell whose own effect is beside the lanes and the banks. -/
theorem deliver (k : KeptByCommands P) (h : P s) (p : Port) (f : State → Move)
    (hf : ∀ u, (f u).1.lanes = u.lanes ∧ (f u).1.banks = u.banks) : Answers P (Machine.deliver p f s) := by
  have received : P (s.setLink p (s.link p).validCell) := k.same h
  unfold Machine.deliver
  split
  · exact k.act (k.same received (hf _).1 (hf _).2)
  · exact .next received

theorem takeData_frame (l : LaneId) (token : Nat) (payload : List Byte) (s : State) :
    (takeData l token payload s).1.lanes = s.lanes ∧ (takeData l token payload s).1.banks = s.banks := by
  unfold takeData
  split
  · simp [State.staleCell]
  · split_ifs
    · simp
    · simp [State.truncateData]
    · split
      · simp [State.truncateData]
      · simp [State.storeCell]

theorem takeClose_frame (l : LaneId) (token : Nat) (mark : BitVec 4) (blank : Bool) (ticket : Option (List Byte))
    (s : State) : (takeClose l token mark blank ticket s).1.lanes = s.lanes
      ∧ (takeClose l token mark blank ticket s).1.banks = s.banks := by
  unfold takeClose
  split
  · simp [State.staleCell]
  · dsimp only
    split
    · simp [State.truncateData]
    · simp

theorem takeAbort_frame (l : LaneId) (token : Nat) (s : State) :
    (takeAbort l token s).1.lanes = s.lanes ∧ (takeAbort l token s).1.banks = s.banks := by
  unfold takeAbort
  split
  · simp [State.staleCell]
  · simp [State.abortImage]

theorem takeRequest_frame (t : Trunk) (r : Request) (s : State) :
    (takeRequest t r s).1.lanes = s.lanes ∧ (takeRequest t r s).1.banks = s.banks := by
  unfold takeRequest
  split <;> simp

theorem takePause_frame (t : Trunk) (n : Nat) (timer : Option Nat) (s : State) :
    (takePause t n timer s).1.lanes = s.lanes ∧ (takePause t n timer s).1.banks = s.banks := by
  unfold takePause
  split <;> simp

/-! ### Requests -/

/-- Whatever the payload, the body of a request keeps the property. -/
def Body (P : State → Prop) (body : List Byte → State → Answer) : Prop := ∀ bs {s}, P s → P (body bs s).move.1

theorem Body.sized (n : Nat) {body : List Byte → State → Answer} (h : Body P body) : Body P (Machine.sized n body) := by
  intro bs s p
  unfold Machine.sized
  split
  · exact h bs p
  · exact p

theorem Body.lane {f : LaneId → State → Move × Status} (h : ∀ l {s}, P s → P (f l s).1.1) : Body P (bodyLane f) := by
  refine .sized 1 fun bs s p => ?_
  split
  · exact h _ p
  · exact p

theorem Body.resolve (a : Nat) {f : Nat → Nat → State → Move × Status}
    (h : ∀ token n {s}, P s → P (f token n s).1.1) : Body P (bodyResolve a f) := by
  refine .sized 3 fun bs s p => ?_
  split
  · exact h _ _ p
  · exact p

theorem serve (k : KeptByCommands P) (h : P s) (want : Request → Bool) {body : List Byte → State → Answer}
    (hb : Body P body) : Answers P (Machine.serve want body s) := by
  unfold Machine.serve
  split
  · exact .next h
  · rename_i t r _
    split
    · have taken : P (s.takeOff t) := k.same h (by simp [State.takeOff]) (by simp [State.takeOff])
      exact k.act (k.same (hb r.payload taken) (by simp [State.giveReply]) (by simp [State.giveReply]))
    · exact .next h

theorem acceptPage (k : KeptByCommands P) (h : P s) (token : Nat) : P (Machine.acceptPage token s).1.1 := by
  unfold Machine.acceptPage
  split
  · exact h
  · exact k.same h rfl rfl

theorem dropPage (k : KeptByCommands P) (h : P s) (token : Nat) : P (Machine.dropPage token s).1.1 := by
  unfold Machine.dropPage
  split
  · exact h
  · exact k.same h

theorem commitTables (k : KeptByCommands P) (h : P s) (mode : Nat) : P (Machine.commitTables mode s).1.1 := by
  unfold Machine.commitTables
  split
  · exact h
  · split
    · exact h
    · exact h
    · split
      · exact h
      · exact k.makePending h

theorem tableLoad (k : KeptByCommands P) : Body P bodyTableLoad := by
  intro bs s h
  unfold bodyTableLoad
  split
  · exact h
  · exact k.loadTable _ _ _ h

theorem slotCancel (k : KeptByCommands P) : Body P bodySlotCancel := by
  refine .sized 6 fun bs s h => ?_
  split
  · split
    · exact h
    · exact k.cancelSlot _ _ h
  · exact h

theorem eventSet (k : KeptByCommands P) : Body P bodyEventSet := by
  refine .sized 3 fun bs s h => ?_
  split
  · split
    · exact k.same h rfl rfl
    · exact h
  · exact h

theorem eventClear (k : KeptByCommands P) : Body P bodyEventClear := by
  refine .sized 3 fun bs s h => ?_
  split
  · split
    · exact h
    · exact k.same h rfl rfl
  · exact h

/-! ### Each command -/

theorem cellSent (k : KeptByCommands P) (h : P s) (c : ChanId) : P (Machine.cellSent c s).1 := by
  unfold Machine.cellSent
  split
  · exact h
  · have sent : P (s.setChan c { s.chan c with queue := advanceQueue (s.chan c).queue }) := k.same h rfl rfl
    dsimp only
    split
    · unfold State.copyDone
      dsimp only
      split
      · exact sent
      · split
        · exact k.same sent
        · exact k.same sent rfl rfl
    · exact sent

theorem runoutExpiry (k : KeptByCommands P) (h : P s) (l : LaneId) : P (Machine.runoutExpiry l s).1 := by
  unfold Machine.runoutExpiry
  split
  · exact k.task (.jam l .runoutTimeout) h
  · exact h

theorem imageExpiry (k : KeptByCommands P) (h : P s) (token : Nat) : P (Machine.imageExpiry token s).1 := by
  unfold Machine.imageExpiry
  split
  · exact h
  · split
    · exact k.same h (by simp [State.abortImage]) (by simp [State.abortImage])
    · exact h

theorem pauseExpiry (k : KeptByCommands P) (h : P s) (c : ChanId) : P (Machine.pauseExpiry c s).1 := by
  unfold Machine.pauseExpiry
  split
  · exact k.same h
  · exact h

theorem exec (k : KeptByCommands P) (i : Instr) (h : P s) : Answers P (Machine.exec i s) := by
  cases i with
  | powerOn => exact .next (k.hardReset _ h)
  | resetPin => exact .next (k.hardReset _ h)
  | signalDetected p =>
    change Answers P (execSignalDetected p s)
    unfold execSignalDetected
    split
    · exact .next (k.same h)
    · exact .next h
  | lossOfSignal p => exact k.act (k.goDown h p _)
  | idleCellReceived p =>
    change Answers P (execIdleCellReceived p s)
    unfold execIdleCellReceived
    split
    · exact .next h
    · split
      · exact .next (k.same h)
      · exact k.act (k.portUp (k.same h) p)
    · exact .next (k.same h)
  | badCellReceived p =>
    change Answers P (execBadCellReceived p s)
    unfold execBadCellReceived
    split
    · exact .next h
    all_goals
      split
      · exact .next (k.same h)
      · exact k.act (k.goDown h p _)
  | cellDiscarded p => exact .next (k.same h)
  | data l token payload => exact k.deliver h _ _ (takeData_frame l _ payload)
  | close l token mark blank ticket => exact k.deliver h _ _ (takeClose_frame l _ mark blank ticket)
  | abort l token => exact k.deliver h _ _ (takeAbort_frame l _)
  | request t kind tag payload => exact k.deliver h _ _ (takeRequest_frame t _)
  | pauseOn t channel => exact k.deliver h _ _ (takePause_frame t _ _)
  | pauseOff t channel => exact k.deliver h _ _ (takePause_frame t _ _)
  | tableLoad => exact k.serve h _ k.tableLoad
  | tableCommit => exact k.serve h _ (.sized 1 fun _ _ p => k.commitTables p _)
  | tableRead => exact k.serve h _ (.sized 3 fun _ _ p => p)
  | laneStart => exact k.serve h _ (.lane fun l _ p => k.startLane l p)
  | laneStop => exact k.serve h _ (.lane fun l _ p => k.task (.enterRunout l) p)
  | laneHalt => exact k.serve h _ (.lane fun l _ p => k.task (.jam l .halt) p)
  | laneClear => exact k.serve h _ (.lane fun l _ p => k.clearLane l p)
  | pageResolveAccept => exact k.serve h _ (.resolve 0 fun token _ _ p => k.acceptPage p token)
  | pageResolveDrop => exact k.serve h _ (.resolve 1 fun token _ _ p => k.dropPage p token)
  | pageResolveRescan => exact k.serve h _ (.resolve 2 fun token n _ p => k.rescanPage token n p)
  | slotCancel => exact k.serve h _ k.slotCancel
  | statusRead => exact k.serve h _ (.sized 2 fun _ _ p => p)
  | partResetFull =>
    refine k.serve h _ (.sized 1 fun _ _ p => ?_)
    split <;> exact p
  | partResetLine =>
    refine k.serve h _ (.sized 1 fun _ _ p => ?_)
    split <;> exact p
  | eventSet => exact k.serve h _ k.eventSet
  | eventClear => exact k.serve h _ k.eventClear
  | unknownRequest =>
    change Answers P (execUnknownRequest s)
    exact k.serve h _ fun _ _ p => p
  | encoderForwardStep l a => exact k.act (k.forwardStep l a h)
  | encoderReverseStep l => exact k.act (k.reverseStep l h)
  | entrySensorChange l blocked => exact .next (k.entrySensor l blocked h)
  | traySensorChange l paper => exact k.act (k.trayChange l paper h)
  | speedControlPeriod l =>
    change Answers P (execSpeedControlPeriod l s)
    unfold execSpeedControlPeriod
    split
    · exact k.act (k.rampPeriod l h)
    · exact .next h
  | misfeedTimerExpiry l => exact k.act (k.misfeedExpiry l h)
  | retryWaitEnd l => exact k.act (k.retryEnd l h)
  | runoutTimerExpiry l => exact k.act (k.runoutExpiry h l)
  | imageTimerExpiry token => exact k.act (k.imageExpiry h _)
  | pauseTimerExpiry c => exact k.act (k.pauseExpiry h c)
  | waitTimerExpiry l => exact k.act (k.waitExpiry l h)
  | bankCopyComplete => exact k.act (k.copyComplete h)
  | channelCellSent t =>
    have free : P (s.freePath t) := k.same h (by simp [State.freePath]) (by simp [State.freePath])
    change Answers P (execChannelCellSent t s)
    unfold execChannelCellSent
    split
    · exact k.act (k.cellSent free _)
    · exact k.act free
    all_goals exact .next h
  | replySent t =>
    have gone : P ((s.freePath t).setTrunk t { (s.freePath t).trunk t with reply := none }) :=
      k.same h (by simp [State.freePath]) (by simp [State.freePath])
    change Answers P (execReplySent t s)
    unfold execReplySent
    split
    · exact k.act (k.takeReset gone _)
    all_goals exact .next h
  | reportSent t =>
    have free : P (s.freePath t) := k.same h (by simp [State.freePath]) (by simp [State.freePath])
    change Answers P (execReportSent t s)
    unfold execReportSent
    split
    · exact k.act free
    all_goals exact .next h
  | headCellSent l => exact .next (k.same h rfl rfl)

/-- Every step keeps the property. -/
theorem step (k : KeptByCommands P) {t : State} (h : P s) (ran : Machine.step s = .next t) : P t := by
  unfold Machine.step at ran
  split at ran
  · cases ran
    exact k.tick h
  · rename_i c rest _
    exact k.exec c (s := { s with pending := rest }) (k.same h rfl rfl) t ran

end KeptByCommands
end Sys2Proof.Machine
end

section
/-! The position counter and H (R22, R23): every step keeps their ranges, and both are 0 in OFF and IDLE. -/

namespace Sys2Proof.Machine

/- One proof after another: every thread of a parallel elaboration reserves memory, which the check limits. -/
set_option Elab.async false

/-! ### The commands that touch a lane beside their sub-acts -/

namespace LanesEvolve

variable {s t : State}

theorem waitExpiry (l : LaneId) (s : State) : LanesEvolve s (Machine.waitExpiry l s).1 := by
  unfold Machine.waitExpiry
  split
  · split
    · exact .refl s
    · exact ((refl s).modBatch l _).setRaw _ _ _
  · exact .refl s

theorem startLane (l : LaneId) (s : State) : LanesEvolve s (Machine.startLane l s).1.1 := by
  have r := refl s
  unfold Machine.startLane
  split
  · exact r
  · split
    case h_1 idle =>
      refine LanesEvolve.toRampUp (r.modLane l (.zeroed (by simp [idle]) rfl rfl)) l ?_
      simp [Lane.zeroCounter, idle]
    case h_2 runout =>
      dsimp only
      exact r.modLane l (.unrested (by simp [runout]) rfl rfl rfl)
    case h_3 rampDown => exact r.toRampUp l (by simp [rampDown])
    all_goals exact r

theorem rescanPage (token n : Nat) (s : State) : LanesEvolve s (Machine.rescanPage token n s).1.1 := by
  unfold Machine.rescanPage
  split
  · exact .refl s
  · split
    · exact .refl s
    · split
      · exact .refl s
      · dsimp only
        exact ((refl s).freeEntry _).modLane _

theorem cancelSlot (l : LaneId) (pos : SeqPos) (s : State) : LanesEvolve s (Machine.cancelSlot l pos s).1.1 := by
  unfold Machine.cancelSlot
  split
  · dsimp only
    exact (refl s).modLane l
  · exact .refl s

theorem loadTable (table index : Nat) (record : List Byte) (s : State) :
    LanesEvolve s (Machine.loadTable table index record s).1.1 := by
  have r := refl s
  unfold Machine.loadTable
  split
  · exact r
  · split
    · exact r
    · split
      · exact r
      · split
        · exact r
        · exact r
        · exact r.same rfl

theorem copyComplete (s : State) : LanesEvolve s (Machine.copyComplete s).1 := by
  unfold Machine.copyComplete
  split
  · exact (refl s).same (State.occur_lanes _ _ _)
  · exact .refl s

end LanesEvolve

/-! ### The encoder's forward step, by cases (R22, R23) -/

/-- The counter after a forward step: one more, but not past its greatest value. -/
def Lane.nextCounter (x : Lane) : Int := if x.counter < Config.counterMax then x.counter + 1 else x.counter

section
variable {s : State} {l : LaneId} (a : BitVec 10)

/-- In OFF and IDLE the step is not counted. -/
theorem forwardStep_of_resting (rest : (s.lane l).state.resting = true) :
    forwardStep l a s = (s.modLane l fun x => { x with amplitude := a }, []) := by
  simp [forwardStep, rest]

/-- At a position that is not new the counter changes alone. -/
theorem forwardStep_of_not_new (rest : (s.lane l).state.resting = false)
    (old : ¬((s.lane l).high : Int) < (s.lane l).nextCounter) :
    forwardStep l a s = (s.modLane l fun x => { x with amplitude := a, counter := (s.lane l).nextCounter }, []) := by
  unfold Lane.nextCounter at *
  simp only [forwardStep, rest, Bool.false_eq_true, if_false, if_neg old, State.modLane_modLane]

/-- At a new high-water position H rises too, and everything that a position may bring is tested. -/
theorem forwardStep_of_new (rest : (s.lane l).state.resting = false)
    (new : ((s.lane l).high : Int) < (s.lane l).nextCounter) :
    forwardStep l a s = (s.modLane l fun x => { x with
        amplitude := a, counter := (s.lane l).nextCounter, high := (s.lane l).nextCounter.toNat },
      [.edge l, .scheduled l, .gapPick l, .samples l, .air l, .jamChecks l]) := by
  unfold Lane.nextCounter at *
  simp only [forwardStep, rest, Bool.false_eq_true, if_false, if_pos new, State.modLane_modLane]

end

/-! ### Positions through updates that may leave JAMMED -/

/-- Every counter and every H is 0, as after a reset. -/
def State.Zeroed (s : State) : Prop := ∀ l, (s.lane l).counter = 0 ∧ (s.lane l).high = 0

namespace PositionsSound

variable {s t : State}

theorem modLane (h : PositionsSound s) (l : LaneId) {f : Lane → Lane}
    (hf : (f (s.lane l)).PositionSound) : PositionsSound (s.modLane l f) := by
  intro k
  by_cases e : l = k
  · subst e
    simpa using hf
  · simpa [e] using h k

/-- A change that leaves the positions, and the lane's rest if it rests. -/
theorem modPlaced (h : PositionsSound s) (l : LaneId) {f : Lane → Lane} (hf : (s.lane l).Placed (f (s.lane l))) :
    PositionsSound (s.modLane l f) := h.modLane l ((h l).placed hf)

theorem zero (h : s.Zeroed) : PositionsSound s :=
  fun l => Lane.PositionSound.placed (x := Lane.reset)
    ⟨by decide, by decide, by decide, fun _ => ⟨rfl, rfl⟩⟩ (.inr (h l))

theorem same (h : PositionsSound s) (lanes : t.lanes = s.lanes := by simp) : PositionsSound t :=
  ((LanesEvolve.refl s).same lanes).positions h

/-- A page given up leaves its lane's positions and state. -/
theorem giveUpPick (h : PositionsSound s) (l : LaneId) (i : Fin 64) : PositionsSound (s.giveUpPick l i) :=
  (h.modPlaced l (.inl ⟨rfl, rfl, id⟩)).same (State.freeEntry_lanes _ i)

theorem misfeedExhausted (h : PositionsSound s) (l : LaneId) (i : Fin 64) :
    PositionsSound (Machine.misfeedExhausted l i s).1 := by
  have given : PositionsSound ((s.giveUpPick l i).occur Ev.feedFailure l.val) := (h.giveUpPick l i).same
  unfold Machine.misfeedExhausted
  dsimp only
  split_ifs with stops runout
  · exact ((LanesEvolve.refl _).toRunout l (LaneState.stoppable_not_jammed stops)).positions given
  · exact ((LanesEvolve.refl _).drained l runout).positions given
  · exact given

theorem misfeedExpiry (h : PositionsSound s) (l : LaneId) : PositionsSound (Machine.misfeedExpiry l s).1 := by
  unfold Machine.misfeedExpiry
  split
  · split_ifs
    · exact PositionsSound.modPlaced (h.same : PositionsSound (s.modPage _ _)) l (.inl ⟨rfl, rfl, nofun⟩)
    · exact h.misfeedExhausted l _
    · exact h.misfeedExhausted l _
    · exact h
  · exact h

theorem retryEnd (h : PositionsSound s) (l : LaneId) : PositionsSound (Machine.retryEnd l s).1 := by
  unfold Machine.retryEnd
  split
  · rename_i i _ _
    split_ifs with waits paper
    · exact h.modPlaced l (.inl ⟨rfl, rfl, nofun⟩)
    · have state : ((s.giveUpPick l i).lane l).state = .retryWait := by
        rw [State.giveUpPick, State.lane, State.freeEntry_lanes]
        exact (congrArg Lane.state (s.modLane_lane_self l _)).trans waits
      exact ((LanesEvolve.refl _).trayFoundEmpty l (by simp [state])).positions (h.giveUpPick l i)
    · exact h
  · exact h

/-- The counter rises by one below its limit, and H goes with it (R22, R23). -/
theorem forwardStep (h : PositionsSound s) (l : LaneId) (a : BitVec 10) :
    PositionsSound (Machine.forwardStep l a s).1 := by
  obtain ⟨lo, le, hi, _⟩ := h l
  by_cases rest : (s.lane l).state.resting = true
  · rw [forwardStep_of_resting a rest]
    exact h.modPlaced l (.inl ⟨rfl, rfl, id⟩)
  · have range : -(Config.counterMax : Int) - 1 ≤ (s.lane l).nextCounter
        ∧ (s.lane l).nextCounter ≤ Config.counterMax := by
      unfold Lane.nextCounter
      split <;> omega
    by_cases new : ((s.lane l).high : Int) < (s.lane l).nextCounter
    · rw [forwardStep_of_new a (by simpa using rest) new]
      refine h.modLane l ⟨range.1, ?_, ?_, fun r => absurd r rest⟩ <;> dsimp only <;> omega
    · rw [forwardStep_of_not_new a (by simpa using rest) new]
      exact h.modLane l ⟨range.1, by dsimp only; omega, hi, fun r => absurd r rest⟩

/-- The counter falls by one above its limit, and H stays (R22). -/
theorem reverseStep (h : PositionsSound s) (l : LaneId) : PositionsSound (Machine.reverseStep l s).1 := by
  obtain ⟨lo, le, hi, _⟩ := h l
  unfold Machine.reverseStep
  split
  · exact h
  · rename_i rest
    refine h.modLane l ⟨?_, ?_, hi, fun r => absurd r rest⟩
    all_goals
      dsimp only
      split <;> omega

theorem trayChange (h : PositionsSound s) (l : LaneId) (paper : Bool) :
    PositionsSound (Machine.trayChange l paper s).1 := by
  have noted : PositionsSound (s.modLane l fun x => { x with trayPaper := paper }) :=
    h.modPlaced l (.inl ⟨rfl, rfl, id⟩)
  unfold Machine.trayChange
  dsimp only
  split
  · exact noted.modPlaced l (.inl ⟨rfl, rfl, id⟩)
  · exact noted

theorem clearLane (h : PositionsSound s) (l : LaneId) : PositionsSound (Machine.clearLane l s).1.1 := by
  have rested (state : LaneState) : PositionsSound ((s.modLane l fun x => { x.zeroCounter with
      state := state, trayEmpty := false }).modDfm l Dfm.endRun) :=
    (h.modPlaced l (.inr ⟨rfl, rfl⟩)).modPlaced l (.inl ⟨rfl, rfl, id⟩)
  unfold Machine.clearLane State.toRest
  dsimp only
  split
  · refine PositionsSound.modPlaced ?_ l (.inl ⟨rfl, rfl, id⟩)
    split
    · exact (rested .idle).same
    · exact rested .off
  · exact h

theorem rampPeriod (h : PositionsSound s) (l : LaneId) : PositionsSound (s.modLane l Lane.rampPeriod) := by
  refine h.modPlaced l ?_
  unfold Lane.rampPeriod
  split <;> exact .inl ⟨rfl, rfl, id⟩

theorem hardReset (s : State) (cause : ResetCause) : PositionsSound (s.hardReset cause) :=
  .zero fun l => by simp [State.hardReset, State.lane, Lane.hardReset, Lane.reset]

/-- A line reset sets every counter to 0, and what follows in it leaves them (R51). -/
theorem lineReset (s : State) : PositionsSound s.lineReset := by
  have reset (u : State) : State.Zeroed { u with lanes := u.lanes.map Lane.lineReset } := fun l => by
    simp [State.lane, Lane.lineReset, Lane.hardReset, Lane.reset]
  refine PositionsSound.same ?_ (State.occur_lanes _ _ _)
  refine PositionsSound.same ?_ (foldl_field State.lanes State.chanRawsAtReset
    (fun _ _ => by simp [State.chanRawsAtReset]) _ _)
  refine PositionsSound.same ?_ (foldl_field State.lanes State.laneRawsAtReset
    (fun _ _ => by simp [State.laneRawsAtReset]) _ _)
  refine .zero (List.foldlRecOn (motive := State.Zeroed) allLanes State.restAtReset (reset _) fun u zero k _ l => ?_)
  by_cases e : k = l
  · subst e
    simpa [State.restAtReset] using zero k
  · simpa [State.restAtReset, e] using zero l

end PositionsSound

theorem positionsSound_kept : KeptByCommands PositionsSound where
  same h lanes _ := h.same lanes
  task task _ h := (LanesEvolve.handle task _).positions h
  tick h := ((LanesEvolve.refl _).mapped (f := Lane.tick) rfl).positions h
  hardReset _ _ _ := .hardReset _ _
  lineReset _ := .lineReset _
  forwardStep l a _ h := h.forwardStep l a
  reverseStep l _ h := h.reverseStep l
  entrySensor l b _ h := h.modPlaced l (.inl ⟨rfl, rfl, id⟩)
  trayChange l paper _ h := h.trayChange l paper
  rampPeriod l _ h := h.rampPeriod l
  misfeedExpiry l _ h := h.misfeedExpiry l
  retryEnd l _ h := h.retryEnd l
  waitExpiry l s h := (LanesEvolve.waitExpiry l s).positions h
  startLane l s h := (LanesEvolve.startLane l s).positions h
  clearLane l _ h := h.clearLane l
  rescanPage token n s h := (LanesEvolve.rescanPage token n s).positions h
  cancelSlot l pos s h := (LanesEvolve.cancelSlot l pos s).positions h
  loadTable table index record s h := (LanesEvolve.loadTable table index record s).positions h
  makePending h := ((LanesEvolve.refl _).mapped (f := fun x => { x with adopted := false }) rfl).positions h
  copyComplete h := (LanesEvolve.copyComplete _).positions h

/-- Settles O10: the sub-acts leave the positions or set them to 0, and the encoder's own steps keep the ranges. -/
theorem stepKeepsPositions : Obligations.StepKeepsPositions := fun _ _ h ran => positionsSound_kept.step h ran

end Sys2Proof.Machine
end

section
/-! A command that changes one lane: what it answers when its act ends there, and what the act begins with otherwise.
The sensors' commands are such (R24, R37), and so is the encoder's forward step (R22, R23). -/

namespace Sys2Proof.Machine

/- One proof after another: every thread of a parallel elaboration reserves memory, which the check limits. -/
set_option Elab.async false

/-! ### One lane -/

theorem State.modLane_otherLanes (s : State) (l : LaneId) (f : Lane → Lane) : OtherLanes s (s.modLane l f) l :=
  fun _ hk => s.modLane_lane_ne l _ f hk.symm

theorem State.modLane_frame (s : State) (l : LaneId) (f : Lane → Lane) :
    s.modLane l f = { s with lanes := (s.modLane l f).lanes } := rfl

/-- Equal lanes are equal one by one. -/
theorem lane_of_lanes {s t : State} (h : t.lanes = s.lanes) (l : LaneId) : t.lane l = s.lane l := by
  rw [State.lane, h, State.lane]

/-- The slots that an act leaves change no lane. -/
theorem SlotsKept.lane {s t : State} (h : SlotsKept s t) (l : LaneId) : t.lane l = s.lane l :=
  lane_of_lanes h.paper.1 l

/-- A command whose act begins with a change of one lane. -/
theorem begins_modLane {i : Instr} {s : State} {l : LaneId} {f : Lane → Lane} {x : Lane} {ts : List Task}
    (h : exec i s = act (s.modLane l f, ts)) (hx : f (s.lane l) = x) :
    ∃ s1, Begins i s s1 ts ∧ s1.lane l = x ∧ OtherLanes s s1 l ∧ s1 = { s with lanes := s1.lanes } :=
  ⟨_, h, (s.modLane_lane_self l f).trans hx, s.modLane_otherLanes l f, s.modLane_frame l f⟩

/-- A sub-act that changes one lane. -/
theorem handle_modLane {task : Task} {s : State} {l : LaneId} {f : Lane → Lane} {x : Lane} {ts : List Task}
    (h : handle task s = (s.modLane l f, ts)) (hx : f (s.lane l) = x) :
    ∃ t, handle task s = (t, ts) ∧ t.lane l = x ∧ OtherLanes s t l ∧ t = { s with lanes := t.lanes } :=
  ⟨_, h, (s.modLane_lane_self l f).trans hx, s.modLane_otherLanes l f, s.modLane_frame l f⟩

/-- An act that ends with a change of one lane changes nothing else but the trunks' transmit paths. -/
theorem completes_modLane {i : Instr} {s : State} {l : LaneId} {f : Lane → Lane}
    (h : exec i s = act (s.modLane l f, [])) :
    Completes i s fun t => t.lane l = f (s.lane l) ∧ OtherLanes s t l ∧ t.entries = s.entries ∧ t.pool = s.pool
      ∧ t.channels = s.channels ∧ SameTables s t ∧ SameEvents s t ∧ SameLinks s t := by
  have kept := SlotsKept.slots (s.modLane l f)
  obtain ⟨_, entries, pool, _, channels, _⟩ := kept.paper
  refine ⟨_, h, ?_⟩
  rw [settle_nil]
  refine ⟨?_, fun k hk => ?_, entries, pool, channels, kept.tables, kept.events, kept.links⟩
  · rw [kept.lane, State.modLane_lane_self]
  · rw [kept.lane, s.modLane_otherLanes l f k hk]

/-- An act that ends where it begins changes nothing but the trunks' transmit paths. -/
theorem completes_unchanged {i : Instr} {s : State} (h : exec i s = act (s, [])) :
    Completes i s fun t => SamePaper s t ∧ SameTables s t ∧ SameEvents s t ∧ SameLinks s t := by
  have kept := SlotsKept.slots s
  refine ⟨_, h, ?_⟩
  rw [settle_nil]
  exact ⟨kept.paper, kept.tables, kept.events, kept.links⟩

theorem LaneState.resting_iff (x : LaneState) : x.resting = true ↔ x = .off ∨ x = .idle := by
  cases x <;> simp [LaneState.resting]

theorem LaneState.resting_eq_false {x : LaneState} (off : x ≠ .off) (idle : x ≠ .idle) : x.resting = false := by
  rw [Bool.eq_false_iff, Ne, LaneState.resting_iff]
  simp [off, idle]

/-! ### The commands -/

theorem exec_encoderForwardStep (s : State) (l : LaneId) (a : BitVec 10) :
    exec (.encoderForwardStep l a) s = act (forwardStep l a s) := rfl

theorem exec_encoderReverseStep (s : State) (l : LaneId) :
    exec (.encoderReverseStep l) s = act (reverseStep l s) := rfl

theorem exec_traySensorChange (s : State) (l : LaneId) (paper : Bool) :
    exec (.traySensorChange l paper) s = act (trayChange l paper s) := rfl

/-- Paper that ends TRAY_EMPTY (R37). -/
theorem trayChange_of_paper {s : State} {l : LaneId} (empty : (s.lane l).trayEmpty = true)
    (jam : (s.lane l).state ≠ .jammed) :
    trayChange l true s = (s.modLane l fun x => { x with trayPaper := true, trayEmpty := false }, [.holds]) := by
  simp only [trayChange, empty, jam, ne_eq, not_false_eq_true, and_self, if_true, State.modLane_modLane]

/-- A level of the tray sensor that is only noted (R37, R48). -/
theorem trayChange_noted {s : State} {l : LaneId} {paper : Bool}
    (h : paper = false ∨ (s.lane l).trayEmpty = false ∨ (s.lane l).state = .jammed) :
    trayChange l paper s = (s.modLane l fun x => { x with trayPaper := paper }, []) := by
  unfold trayChange
  refine if_neg fun ⟨paper', empty, jam⟩ => ?_
  rcases h with h | h | h
  · simp [h] at paper'
  · simp [h] at empty
  · exact jam h

/-- Settles O17: at rest, at a position that is not new, at a new one, and at the counter's end. -/
theorem forwardStepCounts : Obligations.ForwardStepCounts := by
  intro s l a
  refine ⟨fun rest => ?_, fun off idle below behind => ?_, fun off idle below new => ?_, fun off idle last behind => ?_⟩
  · refine completes_modLane (f := fun x => { x with amplitude := a }) ?_
    rw [exec_encoderForwardStep, forwardStep_of_resting a ((LaneState.resting_iff _).2 rest)]
  · have next : (s.lane l).nextCounter = (s.lane l).counter + 1 := if_pos below
    rw [← next] at behind ⊢
    refine completes_modLane (f := fun x => { x with amplitude := a, counter := (s.lane l).nextCounter }) ?_
    rw [exec_encoderForwardStep, forwardStep_of_not_new a (LaneState.resting_eq_false off idle) (by omega)]
  · have next : (s.lane l).nextCounter = (s.lane l).counter + 1 := if_pos below
    refine begins_modLane (f := fun x => { x with
      amplitude := a, counter := (s.lane l).nextCounter, high := (s.lane l).nextCounter.toNat }) ?_ ?_
    · rw [exec_encoderForwardStep, forwardStep_of_new a (LaneState.resting_eq_false off idle) (by omega)]
    · rw [next, show ((s.lane l).counter + 1).toNat = (s.lane l).high + 1 by omega]
  · have next : (s.lane l).nextCounter = (s.lane l).counter := if_neg (by rw [last]; decide)
    have ended := completes_modLane (i := .encoderForwardStep l a) (s := s) (l := l)
      (f := fun x => { x with amplitude := a, counter := (s.lane l).nextCounter }) (by
        rw [exec_encoderForwardStep, forwardStep_of_not_new a (LaneState.resting_eq_false off idle) (by omega)])
    obtain ⟨t, ran, lane, others, entries, _⟩ := ended
    exact ⟨t, ran, by rw [lane, next], others, entries⟩

/-- Settles O19: the entry sensor's level is one field of its lane; the tray sensor acts by the two cases. -/
theorem sensorsChange : Obligations.SensorsChange := by
  refine ⟨fun s l b => ⟨_, rfl, s.modLane_lane_self l _, s.modLane_otherLanes l _, s.modLane_frame l _⟩,
    fun s l paper => ⟨?_, fun noted => completes_modLane (f := fun x => { x with trayPaper := paper }) ?_⟩⟩
  · rintro rfl empty jam
    refine begins_modLane (f := fun x => { x with trayPaper := true, trayEmpty := false }) ?_ rfl
    rw [exec_traySensorChange, trayChange_of_paper empty jam]
  · rw [exec_traySensorChange, trayChange_noted noted]

end Sys2Proof.Machine
end

section
/-! Writes through the tokens of a path list, one after another (R3, R48, R101), and the CANCEL cells they bring. -/

namespace Sys2Proof.Machine

/- One proof after another: every thread of a parallel elaboration reserves memory, which the check limits. -/
set_option Elab.async false

/-! ### Tokens -/

/-- What a token names depends on the page table only. -/
theorem State.live_congr {s t : State} (h : t.entries = s.entries) (token : Nat) : t.live token = s.live token := by
  unfold State.live State.entry
  rw [h]

theorem entry_of_entries {s t : State} (h : t.entries = s.entries) (i : Fin 64) : t.entry i = s.entry i := by
  rw [State.entry, h, State.entry]

theorem pageAt_of_entries {s t : State} (h : t.entries = s.entries) (i : Fin 64) : t.pageAt i = s.pageAt i := by
  rw [State.pageAt, entry_of_entries h, State.pageAt]

theorem State.modPage_incarnation (s : State) (i j : Fin 64) (f : Page → Page) :
    ((s.modPage i f).entry j).incarnation = (s.entry j).incarnation := by
  by_cases h : i = j
  · subst h
    simp [State.modPage]
  · simp [State.modPage, h]

/-- After a write through a token every token names the entry it named, with the record written. -/
theorem State.modToken_live_eq (s : State) (token other : Nat) (f : Page → Page) :
    (s.modToken token f).live other
      = if other = token then (s.live other).map (fun x => (x.1, f x.2)) else s.live other := by
  cases live : s.live token with
  | none =>
    rw [State.modToken_stale s token f live]
    split
    · rename_i same
      rw [same, live]
      rfl
    · rfl
  | some x =>
    obtain ⟨i, p⟩ := x
    split
    · rename_i same
      rw [same, live, (s.modToken_live token f i p live).2.2.1]
      rfl
    · rename_i differ
      have written : s.modToken token f = s.modPage i f := by
        unfold State.modToken
        rw [live]
      refine Option.ext fun ⟨j, q⟩ => ?_
      rw [written, State.live_eq_some, State.live_eq_some, State.modPage_incarnation]
      refine and_congr_right fun index => and_congr_left fun incarnation => ?_
      rw [State.modPage_pageAt_ne]
      rintro rfl
      obtain ⟨index', _, incarnation'⟩ := State.live_entry live
      rw [eq_tokenIndex_iff] at index index'
      omega

/-- A write through a token leaves the entries that the token does not name. -/
theorem State.modToken_entry {s : State} {token : Nat} (f : Page → Page) {i : Fin 64}
    (h : ∀ p, s.live token ≠ some (i, p)) : (s.modToken token f).entry i = s.entry i := by
  unfold State.modToken
  split
  · rename_i j p live
    refine s.modPage_otherEntries j f i ?_
    rintro rfl
    exact h p live
  · rfl

/-- Writing the same way through each token of a list. -/
def State.modTokens (s : State) (f : Page → Page) (tokens : List Nat) : State :=
  tokens.foldl (fun s token => s.modToken token f) s

/-- Each token of the list has its record written; a token that occurs twice brings nothing more. -/
theorem State.modTokens_live (f : Page → Page) (twice : ∀ p, f (f p) = f p) (tokens : List Nat) (s : State)
    (other : Nat) : (s.modTokens f tokens).live other
      = if other ∈ tokens then (s.live other).map (fun x => (x.1, f x.2)) else s.live other := by
  induction tokens generalizing s with
  | nil => rfl
  | cons token tokens ih =>
    rw [State.modTokens, List.foldl_cons, ← State.modTokens, ih, State.modToken_live_eq]
    by_cases first : other = token <;> by_cases later : other ∈ tokens <;>
      simp [first, later, Function.comp_def, twice]

/-- Entries that no token of the list names are left. -/
theorem State.modTokens_entry (f : Page → Page) {i : Fin 64} (tokens : List Nat) (s : State)
    (h : ∀ token ∈ tokens, ∀ p, s.live token ≠ some (i, p)) : (s.modTokens f tokens).entry i = s.entry i := by
  induction tokens generalizing s with
  | nil => rfl
  | cons token tokens ih =>
    rw [State.modTokens, List.foldl_cons, ← State.modTokens, ih, State.modToken_entry f (h token List.mem_cons_self)]
    intro other later p live
    rw [State.modToken_live_eq] at live
    split at live
    · obtain ⟨⟨j, q⟩, named, same⟩ := Option.map_eq_some_iff.1 live
      cases same
      exact h other (List.mem_cons_of_mem _ later) q named
    · exact h other (List.mem_cons_of_mem _ later) p live

theorem State.modTokens_frame (f : Page → Page) (tokens : List Nat) (s : State) :
    s.modTokens f tokens = { s with entries := (s.modTokens f tokens).entries } := by
  refine List.foldlRecOn (motive := fun u : State => u = { s with entries := u.entries }) tokens _ rfl
    fun u hu token _ => ?_
  rw [State.modToken_frame, hu]

end Sys2Proof.Machine
end

section
/-! Jams (R19, R47, R48, R101): LOST and the closed images on the path, the CANCEL cells, and a jammed lane at the end
of its act. -/

namespace Sys2Proof.Machine

/- One proof after another: every thread of a parallel elaboration reserves memory, which the check limits. -/
set_option Elab.async false

/-! ### The pages of the path list (R19, R101) -/

/-- LOST acts by the state and the release information only, so that adding it again changes nothing. -/
theorem Page.addLost_addLost (p : Page) : p.addLost.addLost = p.addLost := by
  unfold Page.addLost
  cases h : p.state with
  | picked => rfl
  | inPath => rfl
  | held => rfl
  | queued => simp
  | ready =>
    cases r : p.release with
    | none => simp [Page.heldByJam]
    | some r => simp

theorem Page.addLost_flags (p : Page) : p.addLost.flags = { p.flags with lost := true } := by
  unfold Page.addLost
  cases p.state with
  | ready => dsimp only; split <;> rfl
  | _ => rfl

theorem Page.addLost_image (p : Page) : p.addLost.image = p.image := by
  unfold Page.addLost
  cases p.state with
  | ready => dsimp only; split <;> rfl
  | _ => rfl

theorem Page.addLost_close (p : Page) : p.addLost.close = p.close := by
  unfold Page.addLost
  cases p.state with
  | ready => dsimp only; split <;> rfl
  | _ => rfl

/-- A page that LOST makes HELD (R19). -/
theorem Page.addLost_held {p : Page} (h : p.state = .picked ∨ p.state = .inPath ∨ p.state = .held
    ∨ (p.state = .ready ∧ p.release = none)) : p.addLost = { p with
      flags := { p.flags with lost := true }, state := .held, verdict := some .lost, action := some .hold
      holdReason := some .jam } := by
  unfold Page.addLost
  rcases h with h | h | h | ⟨h, r⟩
  · rw [h]; rfl
  · rw [h]; rfl
  · rw [h]; rfl
  · rw [h, r]; rfl

/-- A page that LOST leaves in its state (R19). -/
theorem Page.addLost_released {p : Page} (h : (p.state = .ready ∧ p.release.isSome) ∨ p.state = .queued) :
    p.addLost = { p with flags := { p.flags with lost := true } } := by
  unfold Page.addLost
  rcases h with ⟨h, r⟩ | h
  · rw [h]
    exact if_pos r
  · rw [h]

/-- What a jam does to the image of a page of the path list. -/
def Page.cancelled (p : Page) : Page := if p.image = .opened then p.closeTruncated else p

theorem Page.cancelled_cancelled (p : Page) : p.cancelled.cancelled = p.cancelled := by
  unfold Page.cancelled
  split
  · exact if_neg (by simp [Page.closeTruncated, Page.closeImage, Page.truncate])
  · rfl

theorem Page.cancelled_of_opened {p : Page} (h : p.image = .opened) : p.cancelled = p.closeTruncated := if_pos h

theorem Page.cancelled_of_not_opened {p : Page} (h : p.image ≠ .opened) : p.cancelled = p := if_neg h

theorem Page.cancelled_not_opened (p : Page) : p.cancelled.image ≠ .opened := by
  unfold Page.cancelled
  split
  · nofun
  · assumption

/-- The image of an OPEN page that gets LOST is closed TRUNCATED (R101). -/
theorem Page.addLost_cancelled_of_opened {p : Page} (h : p.image = .opened) : p.addLost.cancelled = { p.addLost with
    image := .closed, close := some (p.close.getD ⟨0, false, none⟩), imageTimer := none
    flags := { p.flags with lost := true, truncated := true } } := by
  rw [Page.cancelled_of_opened (by rw [p.addLost_image, h]), Page.closeTruncated, Page.closeImage, Page.truncate,
    p.addLost_close, p.addLost_flags]
  rfl

theorem Page.addLost_cancelled_of_not_opened {p : Page} (h : p.image ≠ .opened) : p.addLost.cancelled = p.addLost :=
  Page.cancelled_of_not_opened (by rwa [p.addLost_image])

/-! ### The CANCEL cells (R91, R101) -/

/-- A page record that a change leaves as it is, is left. -/
theorem State.modPage_eq_self {s : State} {i : Fin 64} {f : Page → Page} {p : Page} (page : s.pageAt i = some p)
    (h : f p = p) : (s.modPage i f).entries = s.entries := by
  have same : { s.entry i with page := (s.entry i).page.map f } = s.entry i := by
    rw [State.pageAt] at page
    rw [page, Option.map_some, h, ← page]
  rw [State.modPage, same]
  simp [State.setEntry, State.entry]

/-- Two changes that agree on the page in the entry are one. -/
theorem State.modPage_congr {s : State} {i : Fin 64} {f g : Page → Page} {p : Page} (page : s.pageAt i = some p)
    (h : f p = g p) : s.modPage i f = s.modPage i g := by
  rw [State.pageAt] at page
  rw [State.modPage, State.modPage, page, Option.map_some, Option.map_some, h]

theorem State.modToken_of_live {s : State} {token : Nat} {i : Fin 64} {p : Page} (f : Page → Page)
    (live : s.live token = some (i, p)) : s.modToken token f = s.modPage i f := by
  unfold State.modToken
  rw [live]

/-- To the page table, a CANCEL is a write through the token. -/
theorem State.cancelImage_entries (s : State) (l : LaneId) (token : Nat) :
    (s.cancelImage l token).entries = (s.modToken token Page.cancelled).entries := by
  cases live : s.live token with
  | none => rw [State.cancelImage, live, State.modToken_stale s token _ live]
  | some x =>
    obtain ⟨i, p⟩ := x
    have page := (State.live_entry live).2.1
    rw [State.cancelImage, live, State.modToken_of_live _ live]
    dsimp only
    split
    · rename_i opened
      rw [State.sendHead_frame, State.modPage_congr page (Page.cancelled_of_opened opened).symm]
    · rename_i closed
      rw [State.modPage_eq_self page (Page.cancelled_of_not_opened closed)]

theorem State.cancelImage_frame (s : State) (l : LaneId) (token : Nat) : s.cancelImage l token =
    { s with entries := (s.cancelImage l token).entries, heads := (s.cancelImage l token).heads } := by
  unfold State.cancelImage
  split
  · rfl
  · split
    · rw [State.sendHead_frame]
      rfl
    · rfl

/-- CANCEL and the close of one image after another. -/
def State.cancelImages (s : State) (l : LaneId) (tokens : List Nat) : State :=
  tokens.foldl (fun s token => s.cancelImage l token) s

theorem State.modToken_entries_congr {s t : State} (h : t.entries = s.entries) (token : Nat) (f : Page → Page) :
    (t.modToken token f).entries = (s.modToken token f).entries := by
  cases live : s.live token with
  | none =>
    rw [State.modToken_stale s token f live, State.modToken_stale t token f (by rw [State.live_congr h, live]), h]
  | some x =>
    rw [State.modToken_of_live (i := x.1) (p := x.2) f live,
      State.modToken_of_live (i := x.1) (p := x.2) f (by rw [State.live_congr h, live])]
    simp only [State.modPage, State.setEntry, entry_of_entries h, h]

theorem State.modTokens_entries_congr (f : Page → Page) (tokens : List Nat) {s t : State} (h : t.entries = s.entries) :
    (t.modTokens f tokens).entries = (s.modTokens f tokens).entries := by
  induction tokens generalizing s t with
  | nil => exact h
  | cons token tokens ih => exact ih (State.modToken_entries_congr h token f)

/-- To the page table, the CANCEL cells of a list are writes through its tokens. -/
theorem State.cancelImages_entries (l : LaneId) (tokens : List Nat) (s : State) :
    (s.cancelImages l tokens).entries = (s.modTokens Page.cancelled tokens).entries := by
  induction tokens generalizing s with
  | nil => rfl
  | cons token tokens ih =>
    rw [State.cancelImages, List.foldl_cons, ← State.cancelImages, ih]
    exact State.modTokens_entries_congr _ tokens (s.cancelImage_entries l token)

theorem State.cancelImages_frame (l : LaneId) (tokens : List Nat) (s : State) : s.cancelImages l tokens =
    { s with entries := (s.cancelImages l tokens).entries, heads := (s.cancelImages l tokens).heads } := by
  refine List.foldlRecOn (motive := fun u : State => u = { s with entries := u.entries, heads := u.heads }) tokens _ rfl
    fun u hu token _ => ?_
  rw [State.cancelImage_frame, hu]

/-- A cell for a head joins its queue when the link is UP, and is dropped when it is not (R91). -/
theorem State.sendHead_txQueue (s : State) (l : LaneId) (kind : HeadKind) (token : Nat) :
    ((s.sendHead l kind token).head l).txQueue
      = (s.head l).txQueue ++ if s.linkUp (.head l) then [⟨kind, token⟩] else [] := by
  unfold State.sendHead
  split <;> simp

theorem State.sendHead_head_link (s : State) (l : LaneId) (kind : HeadKind) (token : Nat) :
    ((s.sendHead l kind token).head l).link = (s.head l).link := by
  unfold State.sendHead
  split <;> simp

theorem State.sendHead_head_ne (s : State) {l k : LaneId} (kind : HeadKind) (token : Nat) (h : k ≠ l) :
    (s.sendHead l kind token).head k = s.head k := by
  unfold State.sendHead
  split
  · exact s.setHead_head_ne l k _ h.symm
  · rfl

/-- The token names a page with an OPEN image. -/
def State.Opened (s : State) (token : Nat) : Prop := ∃ i p, s.live token = some (i, p) ∧ p.image = .opened

/-- CANCEL goes out for a token with an OPEN image. -/
theorem State.cancelImage_of_opened {s : State} {l : LaneId} {token : Nat} (h : s.Opened token) :
    (s.cancelImage l token).head = (s.sendHead l .cancel token).head := by
  obtain ⟨i, p, live, opened⟩ := h
  rw [State.cancelImage, live]
  simp only [opened, if_true]
  change (if s.linkUp (.head l) then _ else _ : State).head = _
  unfold State.sendHead
  split <;> rfl

/-- Nothing comes of a token without one. -/
theorem State.cancelImage_of_not_opened {s : State} {l : LaneId} {token : Nat} (h : ¬s.Opened token) :
    s.cancelImage l token = s := by
  unfold State.cancelImage
  split
  · rfl
  · rename_i i p live
    exact if_neg fun opened => h ⟨i, p, live, opened⟩

/-- After a CANCEL the images that are OPEN are those of the other tokens. -/
theorem State.cancelImage_opened (s : State) (l : LaneId) (token other : Nat) :
    (s.cancelImage l token).Opened other ↔ other ≠ token ∧ s.Opened other := by
  unfold State.Opened
  rw [State.live_congr (s.cancelImage_entries l token), State.modToken_live_eq]
  split
  · rename_i same
    simp only [same, ne_eq, not_true_eq_false, false_and, iff_false]
    rintro ⟨i, p, named, opened⟩
    obtain ⟨⟨j, q⟩, _, eq⟩ := Option.map_eq_some_iff.1 named
    cases eq
    exact q.cancelled_not_opened opened
  · rename_i differ
    simp [differ]

/-- What the CANCEL cells of a list do to their head port: one cell for each token with an OPEN image, in the order of
the list, on an UP link. -/
theorem State.cancelImages_head (l : LaneId) (tokens : List Nat) (s : State) :
    (∃ out : List Nat, out.Nodup ∧ out.Sublist tokens ∧ (∀ token, token ∈ out ↔ token ∈ tokens ∧ s.Opened token)
        ∧ ((s.cancelImages l tokens).head l).txQueue = (s.head l).txQueue
          ++ if s.linkUp (.head l) then out.map fun token => ⟨.cancel, token⟩ else [])
      ∧ ((s.cancelImages l tokens).head l).link = (s.head l).link
      ∧ ∀ m, m ≠ l → (s.cancelImages l tokens).head m = s.head m := by
  induction tokens generalizing s with
  | nil => exact ⟨⟨[], List.nodup_nil, .slnil, by simp, by simp [State.cancelImages]⟩, rfl, fun _ _ => rfl⟩
  | cons token tokens ih =>
    rw [State.cancelImages, List.foldl_cons, ← State.cancelImages]
    obtain ⟨⟨out, nodup, sublist, mem, queue⟩, link, others⟩ := ih (s.cancelImage l token)
    by_cases opened : s.Opened token
    · have head := State.cancelImage_of_opened (l := l) opened
      rw [queue, link]
      simp only [State.cancelImage_opened] at mem
      have up : (s.cancelImage l token).linkUp (.head l) = s.linkUp (.head l) := by
        simp only [State.linkUp, State.link, head, State.sendHead_head_link]
      refine ⟨⟨token :: out, List.nodup_cons.2 ⟨fun h => ((mem token).1 h).2.1 rfl, nodup⟩,
        sublist.cons_cons token, fun other => ?_, ?_⟩, ?_, fun m hm => ?_⟩
      · rw [List.mem_cons, List.mem_cons, mem]
        by_cases same : other = token
        · simp [same, opened]
        · simp [same]
      · rw [up, head, State.sendHead_txQueue]
        split <;> simp
      · rw [head, State.sendHead_head_link]
      · rw [others m hm, head, State.sendHead_head_ne s _ _ hm]
    · rw [State.cancelImage_of_not_opened opened] at mem queue link others ⊢
      refine ⟨⟨out, nodup, sublist.cons token, fun other => ?_, queue⟩, link, others⟩
      rw [mem, List.mem_cons]
      by_cases same : other = token
      · simp [same, opened]
      · simp [same]

end Sys2Proof.Machine
end

section
/-! Entering JAMMED (R47, R48): what the act does to its lane, to the pages of the path and to the events, and how a
command ends that jams a lane. -/

namespace Sys2Proof.Machine

/- One proof after another: every thread of a parallel elaboration reserves memory, which the check limits. -/
set_option Elab.async false

/-! ### Events and the drift level -/

theorem State.occur_event_ne (s : State) {c d : Fin 20} (src : Nat) (h : d ≠ c) :
    (s.occur c src).event d = s.event d := by
  unfold State.occur
  split
  · exact s.setEvent_event_ne c d _ h.symm
  · rfl

theorem State.setRaw_event_ne (s : State) {c d : Fin 20} (src : Nat) (level : Bool) (h : d ≠ c) :
    (s.setRaw c src level).event d = s.event d := by
  unfold State.setRaw
  split_ifs <;> simp [h.symm]

/-- A lane is a source of each class that has six sources. -/
theorem Ev.lane_source {c : Fin 20} (h : c.val ≤ 12) (l : LaneId) : l.val < Ev.sourceCount c := by
  rw [Ev.sourceCount, if_pos h]
  exact l.isLt

/-- An occurrence sets the latch and puts its source into the set (R193). -/
theorem EventState.occur_sources (e : EventState) {src : Nat} (h : src < 16) :
    (e.occur src).sources.getLsbD src = true := by
  simp [EventState.occur, sourceBit, h]

/-- A drift level changes its lane's monitor and the class SONIC_DRIFT (R80). -/
theorem State.evalDrift_frame (s : State) (l : LaneId) :
    s.evalDrift l = { s with lanes := (s.evalDrift l).lanes, events := (s.evalDrift l).events } := by
  rw [State.evalDrift, State.setRaw_frame]
  rfl

theorem State.evalDrift_lane_self (s : State) (l : LaneId) : (s.evalDrift l).lane l =
    { s.lane l with dfm := { (s.lane l).dfm with driftRaw := (s.lane l).dfm.drift } } := by
  rw [State.evalDrift, lane_of_lanes (State.setRaw_lanes _ _ _ _), State.modDfm_lane_self]

theorem State.evalDrift_lane_ne (s : State) {l k : LaneId} (h : k ≠ l) : (s.evalDrift l).lane k = s.lane k := by
  rw [State.evalDrift, lane_of_lanes (State.setRaw_lanes _ _ _ _), State.modDfm_lane_ne _ _ _ _ h.symm]

theorem State.evalDrift_event_ne (s : State) (l : LaneId) {c : Fin 20} (h : c ≠ Ev.sonicDrift) :
    (s.evalDrift l).event c = s.event c := State.setRaw_event_ne _ _ _ h

/-! ### The act (R48) -/

/-- The lane's part of a jam, its drift level, LOST, the CANCEL cells, and LANE_JAMMED. -/
theorem State.toJammed_eq (s : State) (l : LaneId) (cause : JamCause) : s.toJammed l cause =
    (((((s.modLane l fun x => x.jammed cause).evalDrift l).modTokens Page.addLost (s.lane l).pathTokens).cancelImages l
      (s.lane l).pathTokens).occur Ev.laneJammed l.val) := rfl

theorem State.toJammed_lanes (s : State) (l : LaneId) (cause : JamCause) :
    (s.toJammed l cause).lanes = ((s.modLane l fun x => x.jammed cause).evalDrift l).lanes := by
  rw [State.toJammed_eq, State.occur_lanes, State.cancelImages_frame, State.modTokens_frame]

theorem State.toJammed_lane_self (s : State) (l : LaneId) (cause : JamCause) : (s.toJammed l cause).lane l =
    { (s.lane l).jammed cause with
      dfm := { ((s.lane l).jammed cause).dfm with driftRaw := ((s.lane l).jammed cause).dfm.drift } } := by
  rw [lane_of_lanes (s.toJammed_lanes l cause), State.evalDrift_lane_self, State.modLane_lane_self]

theorem State.toJammed_otherLanes (s : State) (l : LaneId) (cause : JamCause) :
    OtherLanes s (s.toJammed l cause) l := by
  intro k hk
  rw [lane_of_lanes (s.toJammed_lanes l cause), State.evalDrift_lane_ne _ hk, s.modLane_otherLanes l _ k hk]

/-- The belt of a jammed lane stands still, its path list as it was. -/
theorem State.toJammed_stopped (s : State) (l : LaneId) (cause : JamCause) :
    ((s.toJammed l cause).lane l).Stopped ∧ ((s.toJammed l cause).lane l).lastJam = some cause
      ∧ ((s.toJammed l cause).lane l).path = (s.lane l).path := by
  rw [State.toJammed_lane_self]
  exact ⟨⟨rfl, rfl, rfl, rfl⟩, rfl, rfl⟩

/-- The page table after a jam is that of the writes through the path's tokens. -/
theorem State.toJammed_entries (s : State) (l : LaneId) (cause : JamCause) : (s.toJammed l cause).entries =
    ((s.modTokens Page.addLost (s.lane l).pathTokens).modTokens Page.cancelled (s.lane l).pathTokens).entries := by
  rw [State.toJammed_eq, State.occur_frame, State.cancelImages_entries]
  refine State.modTokens_entries_congr _ _ (State.modTokens_entries_congr _ _ ?_)
  rw [State.evalDrift_frame]
  rfl

/-- A page of the path gets LOST and has its OPEN image closed; what no sheet of the path names is left. -/
theorem State.toJammed_live (s : State) (l : LaneId) (cause : JamCause) (token : Nat) :
    (s.toJammed l cause).live token = if token ∈ (s.lane l).pathTokens
      then (s.live token).map (fun x => (x.1, x.2.addLost.cancelled)) else s.live token := by
  rw [State.live_congr (s.toJammed_entries l cause), State.modTokens_live _ Page.cancelled_cancelled,
    State.modTokens_live _ Page.addLost_addLost]
  split
  · rw [Option.map_map]
    rfl
  · rfl

theorem State.toJammed_entry {s : State} {l : LaneId} (cause : JamCause) {i : Fin 64}
    (h : ∀ token ∈ (s.lane l).pathTokens, ∀ p, s.live token ≠ some (i, p)) :
    (s.toJammed l cause).entry i = s.entry i := by
  rw [entry_of_entries (s.toJammed_entries l cause), State.modTokens_entry, State.modTokens_entry _ _ _ h]
  intro token mem p live
  rw [State.modTokens_live _ Page.addLost_addLost, if_pos mem] at live
  obtain ⟨⟨j, q⟩, named, same⟩ := Option.map_eq_some_iff.1 live
  cases same
  exact h token mem q named

/-- The images that LOST meets are OPEN as they were. -/
theorem State.modTokens_addLost_opened (s : State) (tokens : List Nat) (token : Nat) :
    (s.modTokens Page.addLost tokens).Opened token ↔ s.Opened token := by
  unfold State.Opened
  rw [State.modTokens_live _ Page.addLost_addLost]
  split
  · simp [Option.map_eq_some_iff, Page.addLost_image]
  · rfl

theorem State.toJammed_head (s : State) (l : LaneId) (cause : JamCause) :
    (∃ out : List Nat, out.Nodup ∧ out.Sublist (s.lane l).pathTokens
        ∧ (∀ token, token ∈ out ↔ token ∈ (s.lane l).pathTokens ∧ s.Opened token)
        ∧ ((s.toJammed l cause).head l).txQueue = (s.head l).txQueue
          ++ if s.linkUp (.head l) then out.map fun token => ⟨.cancel, token⟩ else [])
      ∧ ((s.toJammed l cause).head l).link = (s.head l).link
      ∧ ∀ m, m ≠ l → (s.toJammed l cause).head m = s.head m := by
  have sent := State.cancelImages_head l (s.lane l).pathTokens
    (((s.modLane l fun x => x.jammed cause).evalDrift l).modTokens Page.addLost (s.lane l).pathTokens)
  have before : (((s.modLane l fun x => x.jammed cause).evalDrift l).modTokens Page.addLost (s.lane l).pathTokens).heads
      = s.heads := by
    rw [State.modTokens_frame, State.evalDrift_frame]
    rfl
  have opened (token : Nat) : (((s.modLane l fun x => x.jammed cause).evalDrift l).modTokens Page.addLost
      (s.lane l).pathTokens).Opened token ↔ s.Opened token := by
    rw [State.modTokens_addLost_opened, State.evalDrift_frame]
    rfl
  simp only [opened, State.linkUp, State.link, State.head, before] at sent
  have after : (s.toJammed l cause).heads = ((((s.modLane l fun x => x.jammed cause).evalDrift l).modTokens Page.addLost
      (s.lane l).pathTokens).cancelImages l (s.lane l).pathTokens).heads := by
    rw [State.toJammed_eq, State.occur_frame]
  simp only [State.linkUp, State.link, State.head, after]
  exact sent

theorem State.toJammed_frame (s : State) (l : LaneId) (cause : JamCause) : s.toJammed l cause =
    { s with lanes := (s.toJammed l cause).lanes, entries := (s.toJammed l cause).entries
             heads := (s.toJammed l cause).heads, events := (s.toJammed l cause).events } := by
  rw [State.toJammed_eq, State.occur_frame, State.cancelImages_frame, State.modTokens_frame, State.evalDrift_frame]
  rfl

/-- A jam is an occurrence of LANE_JAMMED; of the other classes only the drift level may change. -/
theorem State.toJammed_event (s : State) (l : LaneId) (cause : JamCause) :
    (s.toJammed l cause).event Ev.laneJammed = (s.event Ev.laneJammed).occur l.val
      ∧ ∀ c, c ≠ Ev.laneJammed → c ≠ Ev.sonicDrift → (s.toJammed l cause).event c = s.event c := by
  have before (c : Fin 20) (h : c ≠ Ev.sonicDrift) : (((((s.modLane l fun x => x.jammed cause).evalDrift l).modTokens
      Page.addLost (s.lane l).pathTokens).cancelImages l (s.lane l).pathTokens)).event c = s.event c := by
    rw [State.cancelImages_frame, State.modTokens_frame]
    exact State.evalDrift_event_ne (s.modLane l fun x => x.jammed cause) l h
  refine ⟨?_, fun c jammed drift => ?_⟩
  · rw [State.toJammed_eq, State.occur_of_source _ (Ev.lane_source (by decide) l), State.setEvent_event_self,
      before _ (by decide)]
  · rw [State.toJammed_eq, State.occur_event_ne _ _ jammed, before c drift]

/-! ### The sub-acts (R47, R48) -/

theorem Lane.token_mem_pathTokens {x : Lane} {sh : Sheet} (h : sh ∈ x.path) : sh.token ∈ x.pathTokens :=
  List.mem_map_of_mem h


theorem handle_jam_of_moving {s : State} {l : LaneId} (cause : JamCause) (moves : (s.lane l).state.moving = true) :
    handle (.jam l cause) s = (s.toJammed l cause, [.fgc, .retire, .release l]) := by
  rw [handle_jam, onJam, if_pos moves]

theorem handle_jam_of_not_moving {s : State} {l : LaneId} (cause : JamCause) (rests : (s.lane l).state.moving = false) :
    handle (.jam l cause) s = (s, []) := by
  rw [handle_jam, onJam, if_neg (by simp [rests])]

/-- The dwell limit, said of the sheet that covers the sensor (R47). -/
theorem State.dwells_iff (s : State) (l : LaneId) : s.dwells l = true ↔ (s.lane l).sensor ≠ none ∧ ∃ sh p,
    (s.lane l).path.find? (fun x => x.lead.isSome && x.trail.isNone) = some sh ∧ sh.lead = some p
      ∧ p + off (sh.lenMax + 50) sh.pitch < (s.lane l).high := by
  change ((s.lane l).sensor.isSome && ((s.lane l).path.find? fun x => x.lead.isSome && x.trail.isNone).any _) = true ↔ _
  simp only [Bool.and_eq_true, Option.isSome_iff_ne_none, Option.any_eq_true, decide_eq_true_eq]
  simp only [exists_and_left]

/-- Settles O24: what the act does is said of each part of the state above; the tests go by DWELL first. -/
theorem jamHoldsThePath : Obligations.JamHoldsThePath := by
  refine ⟨fun s l cause => ⟨fun moves => ?_, handle_jam_of_not_moving cause⟩,
    fun p => ⟨p.addLost_flags, Page.addLost_held,
    Page.addLost_released⟩, fun s l dwell limit => ?_⟩
  · obtain ⟨jammed, others⟩ := s.toJammed_event l cause
    obtain ⟨⟨out, nodup, sublist, mem, queue⟩, link, heads⟩ := s.toJammed_head l cause
    have lane := s.toJammed_lane_self l cause
    have frame := s.toJammed_frame l cause
    refine ⟨_, handle_jam_of_moving cause moves, ?_⟩
    rw [lane]
    refine ⟨rfl, rfl, rfl, rfl, rfl, rfl, rfl, rfl, rfl, rfl, rfl, rfl, rfl, rfl, rfl, jammed, others,
      fun sh onPath i p live => ?_, fun i unnamed => ?_, ⟨out, nodup, sublist, fun token => ?_, queue⟩, link, heads,
      s.toJammed_otherLanes l cause, by rw [frame], by rw [frame]⟩
    · have named : (s.toJammed l cause).live sh.token = some (i, p.addLost.cancelled) := by
        rw [State.toJammed_live, if_pos (Lane.token_mem_pathTokens onPath), live]
        rfl
      rw [(State.live_entry named).2.1]
      exact ⟨fun opened => by rw [Page.addLost_cancelled_of_opened opened],
        fun closed => by rw [Page.addLost_cancelled_of_not_opened closed]⟩
    · refine State.toJammed_entry cause fun token named p => ?_
      obtain ⟨sh, onPath, rfl⟩ := List.mem_map.1 named
      exact unnamed sh onPath p
    · rw [mem, Lane.pathTokens, List.mem_map, State.Opened]
  · rw [handle_jamChecks, onJamChecks]
    rw [← State.dwells_iff] at limit
    refine ⟨fun moves dwells => ?_, fun moves stays reached => ?_, fun none => ?_⟩
    · rw [if_pos moves, if_pos (limit.1 dwells)]
    · rw [if_pos moves, if_neg (mt limit.2 stays), if_pos (by exact reached)]
    · rcases none with rests | ⟨stays, below⟩
      · rw [if_neg (by simp [rests])]
      · rw [if_neg (mt limit.2 stays), if_neg (show ¬(Config.counterMax : Int) ≤ _ from Int.not_le.2 below), ite_self]

/-! ### How a command ends that jams a lane -/

/-- A lane that is stopped when an agenda begins is stopped when the act has ended (R48). -/
theorem run_stopped (n : Nat) (ts : List Task) {s : State} {l : LaneId} (h : (s.lane l).Stopped) :
    ((run n ts s).slots.lane l).Stopped ∧ ((run n ts s).slots.lane l).lastJam = (s.lane l).lastJam
      ∧ ((run n ts s).slots.lane l).path = (s.lane l).path := by
  rw [(SlotsKept.slots _).lane]
  exact (LanesEvolve.run n ts s l).stopped h

/-- A latch and a source that are set when an agenda begins are set when the act has ended (R193). -/
theorem run_latched (n : Nat) (ts : List Task) {s : State} {c : Fin 20} {src : Nat} (latch : (s.event c).latch = true)
    (source : (s.event c).sources.getLsbD src = true) :
    ((run n ts s).slots.event c).latch = true ∧ ((run n ts s).slots.event c).sources.getLsbD src = true := by
  have grew := (Kept.run n ts s).event c
  obtain ⟨_, latch', sources', _⟩ := (SlotsKept.slots (run n ts s)).events c
  exact ⟨latch'.trans (grew.latch latch), by rw [sources']; exact grew.sources src source⟩

/-- The end of an act in which a lane is jammed: it is stopped, its path list as it was, and LANE_JAMMED is latched
for it (R48). -/
structure Jammed (s : State) (l : LaneId) (cause : JamCause) (t : State) : Prop where
  stopped : (t.lane l).Stopped
  lastJam : (t.lane l).lastJam = some cause
  path : (t.lane l).path = (s.lane l).path
  latch : (t.event Ev.laneJammed).latch = true
  source : (t.event Ev.laneJammed).sources.getLsbD l.val = true

/-- Whatever follows the jam, from a state with the lane and the class as the jam leaves them. -/
theorem run_jammed (n : Nat) (ts : List Task) {s u : State} {l : LaneId} {cause : JamCause}
    (lane : u.lane l = (s.toJammed l cause).lane l)
    (event : u.event Ev.laneJammed = (s.toJammed l cause).event Ev.laneJammed) :
    Jammed s l cause (run n ts u).slots := by
  obtain ⟨stopped, lastJam, path⟩ := s.toJammed_stopped l cause
  rw [(s.toJammed_event l cause).1] at event
  rw [← lane] at stopped lastJam path
  obtain ⟨stopped', lastJam', path'⟩ := run_stopped n ts stopped
  obtain ⟨latch, source⟩ := run_latched n ts (s := u) (c := Ev.laneJammed) (src := l.val) (by rw [event]; rfl)
    (by rw [event]; exact EventState.occur_sources _ (by omega))
  exact ⟨stopped', lastJam'.trans lastJam, path'.trans path, latch, source⟩

/-- An act whose first sub-act jams a moving lane. -/
theorem settle_jam {s : State} {l : LaneId} (cause : JamCause) (ts : List Task)
    (moves : (s.lane l).state.moving = true) : Jammed s l cause (settle (s, .jam l cause :: ts)) := by
  rw [settle_cons, handle_jam_of_moving cause moves]
  exact run_jammed _ _ rfl rfl

/-- An act whose own effect jams a moving lane. -/
theorem settle_onJam {s : State} {l : LaneId} (cause : JamCause) (moves : (s.lane l).state.moving = true) :
    Jammed s l cause (settle (onJam l cause s)) := by
  rw [onJam, if_pos moves]
  exact run_jammed _ _ rfl rfl

/-! ### The encoder's reverse step (R22, R47) -/

/-- The counter after a reverse step: one less, but not below its least value. -/
def Lane.prevCounter (x : Lane) : Int := if -(Config.counterMax : Int) - 1 < x.counter then x.counter - 1 else x.counter

theorem reverseStep_of_resting {s : State} {l : LaneId} (rest : (s.lane l).state.resting = true) :
    reverseStep l s = (s, []) := by
  rw [reverseStep, if_pos rest]

/-- Elsewhere the counter falls, and a moving lane is tested for REVERSE (R47). -/
theorem reverseStep_of_not_resting {s : State} {l : LaneId} (rest : (s.lane l).state.resting = false) :
    reverseStep l s = (s.modLane l fun x => { x with counter := x.prevCounter },
      if (s.lane l).state.moving = true
          ∧ (s.lane l).prevCounter < ((s.lane l).high : Int) - off (s.laneRec l).reverseLimit (s.laneRec l).pitch
        then [.jam l .reverse] else []) := by
  have record : (s.modLane l fun x => { x with counter := x.prevCounter }).laneRec l = s.laneRec l := by
    simp [State.laneRec, State.laneTables]
  rw [reverseStep, if_neg (by simp [rest])]
  change (s.modLane l fun x => { x with counter := x.prevCounter },
    if _ && State.reversed (s.modLane l fun x => { x with counter := x.prevCounter }) l then _ else _) = _
  simp only [State.reversed, State.modLane_lane_self, record, Bool.and_eq_true, decide_eq_true_eq]

theorem LaneState.moving_eq_false {x : LaneState} (rest : x.resting = false) : x.moving = false ↔ x = .jammed := by
  revert rest
  cases x <;> decide

/-- Settles O18: the counter by the two cases of its least value, the jam by the REVERSE test. -/
theorem reverseStepCounts : Obligations.ReverseStepCounts := by
  refine fun s l => ⟨fun rest => ?_, fun c hc least => ?_⟩
  · obtain ⟨t, ran, paper, _⟩ := completes_unchanged (i := .encoderReverseStep l) (s := s) (by
      rw [exec_encoderReverseStep, reverseStep_of_resting ((LaneState.resting_iff _).2 rest)])
    exact ⟨t, ran, paper.1, paper.2.1⟩
  · have counter : (s.lane l).prevCounter = c := by
      rw [hc, Lane.prevCounter]
      dsimp only [Config.counterMax]
      split_ifs <;> omega
    refine ⟨fun off idle stays => ?_, fun moves below => ?_⟩
    · rw [← counter] at stays ⊢
      refine completes_modLane (f := fun x => { x with counter := x.prevCounter }) ?_
      have rest := LaneState.resting_eq_false off idle
      rw [exec_encoderReverseStep, reverseStep_of_not_resting rest, if_neg]
      rintro ⟨moves, below⟩
      rcases stays with jammed | above
      · rw [(LaneState.moving_eq_false rest).2 jammed] at moves
        cases moves
      · omega
    · rw [← counter] at below ⊢
      have ran : exec (.encoderReverseStep l) s
          = act (s.modLane l fun x => { x with counter := x.prevCounter }, [.jam l .reverse]) := by
        rw [exec_encoderReverseStep, reverseStep_of_not_resting (LaneState.moving_not_resting moves),
          if_pos ⟨moves, below⟩]
      have ended := settle_jam (s := s.modLane l fun x => { x with counter := x.prevCounter }) (l := l) .reverse []
        (by simpa using moves)
      exact ⟨begins_modLane ran rfl, _, ran, ended.stopped.state, ended.lastJam, ended.stopped.speed, ended.latch,
        ended.source⟩

/-! ### RUNOUT (R31, R32) -/

/-- Entering RUNOUT changes its lane only. -/
def Lane.toRunout (x : Lane) (runoutMs : Nat) (misfeed : Option Nat) : Lane :=
  { x with
    state := if x.path = [] then .rampDown else .runout
    runoutTimer := if x.path = [] then none else some runoutMs
    retryWait := none
    misfeedTimer := if x.retryWait.isSome then misfeed else x.misfeedTimer }

theorem State.toRunout_eq (s : State) (l : LaneId) : s.toRunout l =
    s.modLane l fun x => x.toRunout (s.laneRec l).runoutMs ((s.pickedSheet l).map Sheet.pickToEntry) := by
  unfold State.toRunout
  congr 1
  funext x
  rw [Lane.drained_eq]
  rfl

theorem LaneState.stoppable_iff (x : LaneState) :
    x.stoppable = true ↔ x = .rampUp ∨ x = .feeding ∨ x = .holding ∨ x = .retryWait := by
  cases x <;> simp [LaneState.stoppable]

theorem LaneState.stoppable_eq_false (x : LaneState) :
    x.stoppable = false ↔ x = .runout ∨ x = .rampDown ∨ x = .off ∨ x = .idle ∨ x = .jammed := by
  cases x <;> simp [LaneState.stoppable]

theorem onEnterRunout_of_stoppable {s : State} {l : LaneId} (stops : (s.lane l).state.stoppable = true) :
    onEnterRunout l s = (s.toRunout l, [.fgc]) := by
  rw [onEnterRunout, if_pos stops]

theorem onEnterRunout_of_not_stoppable {s : State} {l : LaneId} (runs : (s.lane l).state.stoppable = false) :
    onEnterRunout l s = (s, []) := by
  rw [onEnterRunout, if_neg (by simp [runs])]

/-- Settles O22: the four states that a stop reaches and the five others; the expiry is a jam. -/
theorem runoutEnteredAndTimed : Obligations.RunoutEnteredAndTimed := by
  refine ⟨fun s l => ⟨fun stops => ?_, fun runs => ?_⟩, fun s l n timer runout path => ?_⟩
  · refine handle_modLane (f := fun x => x.toRunout (s.laneRec l).runoutMs ((s.pickedSheet l).map Sheet.pickToEntry))
      ?_ rfl
    rw [handle_enterRunout, onEnterRunout_of_stoppable ((LaneState.stoppable_iff _).2 stops), State.toRunout_eq]
  · rw [handle_enterRunout, onEnterRunout_of_not_stoppable ((LaneState.stoppable_eq_false _).2 runs)]
  · have ran : exec (.runoutTimerExpiry l) s = act (onJam l .runoutTimeout s) := by
      change act (runoutExpiry l s) = _
      rw [runoutExpiry, if_pos ⟨by simp [timer], runout, path⟩]
    have ended := settle_onJam (s := s) (l := l) .runoutTimeout (by rw [runout]; rfl)
    exact ⟨_, ran, ended.stopped.state, ended.lastJam, ended.stopped.speed, ended.stopped.ramp, ended.path, ended.latch,
      ended.source⟩

end Sys2Proof.Machine
end

section
/-! The lane requests (R27, R28, R29, R49): what carrying one out replies and leaves, and what each lane state makes
of it. -/

namespace Sys2Proof.Machine

/- One proof after another: every thread of a parallel elaboration reserves memory, which the check limits. -/
set_option Elab.async false

/-! ### Taking a request off and replying (R185, R186) -/

/-- The reply to a request that carries no record. -/
def State.answered (s : State) (k : Trunk) (r : Request) (st : Status) : State :=
  s.giveReply k ⟨r.kind, r.tag, st, [], none⟩

@[simp] theorem State.takeOff_lane (s : State) (k : Trunk) (l : LaneId) : (s.takeOff k).lane l = s.lane l := by
  cases k <;> rfl

@[simp] theorem State.takeOff_laneRec (s : State) (k : Trunk) (l : LaneId) : (s.takeOff k).laneRec l = s.laneRec l := by
  cases k <;> rfl

@[simp] theorem State.takeOff_laneEnabled (s : State) (k : Trunk) (l : LaneId) :
    (s.takeOff k).laneEnabled l = s.laneEnabled l := by
  cases k <;> rfl

@[simp] theorem State.takeOff_pickedSheet (s : State) (k : Trunk) (l : LaneId) :
    (s.takeOff k).pickedSheet l = s.pickedSheet l := by
  cases k <;> rfl

@[simp] theorem State.takeOff_entries (s : State) (k : Trunk) : (s.takeOff k).entries = s.entries := by
  cases k <;> rfl

@[simp] theorem State.takeOff_event (s : State) (k : Trunk) (c : Fin 20) : (s.takeOff k).event c = s.event c := by
  cases k <;> rfl

@[simp] theorem State.answered_lane (s : State) (k : Trunk) (r : Request) (st : Status) (l : LaneId) :
    (s.answered k r st).lane l = s.lane l := by
  cases k <;> rfl

@[simp] theorem State.answered_entries (s : State) (k : Trunk) (r : Request) (st : Status) :
    (s.answered k r st).entries = s.entries := by
  cases k <;> rfl

@[simp] theorem State.answered_event (s : State) (k : Trunk) (r : Request) (st : Status) (c : Fin 20) :
    (s.answered k r st).event c = s.event c := by
  cases k <;> rfl

@[simp] theorem State.takeOff_lastServed (s : State) (k : Trunk) : (s.takeOff k).lastServed = k := by
  cases k <;> rfl

@[simp] theorem State.answered_lastServed (s : State) (k : Trunk) (r : Request) (st : Status) :
    (s.answered k r st).lastServed = s.lastServed := by
  cases k <;> rfl

/-- Every lane but one is as it was before the request was taken off, and stays so under the reply. -/
theorem answered_otherLanes {s u : State} {l : LaneId} (k : Trunk) (r : Request) (st : Status)
    (h : OtherLanes (s.takeOff k) u l) : OtherLanes s (u.answered k r st) l := by
  intro m hm
  rw [State.answered_lane, h m hm, State.takeOff_lane]

/-- An act that keeps what every sub-act keeps answers the request with its status (R186). -/
theorem settle_replied {s u : State} {k : Trunk} {r : Request} {st : Status} {ts : List Task}
    (kept : Kept (s.takeOff k) u) : Replied s (settle (u.answered k r st, ts)) k r st [] := by
  have port := (settle_settled (u.answered k r st, ts)).port
  have served := (settle_settled (u.answered k r st, ts)).lastServed
  have other : k ≠ otherTrunk k := by cases k <;> decide
  have same : (u.answered k r st).trunk (otherTrunk k) = s.trunk (otherTrunk k) := by
    rw [State.answered, State.giveReply, State.setTrunk_trunk_ne _ _ _ _ other, kept.trunk,
      State.takeOff_trunk_ne _ _ _ other]
  obtain ⟨_, requests, _, reply, _⟩ := port k
  obtain ⟨_, requests', _, reply', _⟩ := port (otherTrunk k)
  refine ⟨reply.trans ?_, requests.trans ?_, served.trans ?_, requests'.trans (by rw [same]),
    reply'.trans (by rw [same])⟩
  · rw [State.answered, State.giveReply_trunk]
  · rw [State.answered, State.giveReply_trunk, kept.trunk, State.takeOff_trunk]
  · rw [State.answered_lastServed, kept.lastServed, State.takeOff_lastServed]

/-- Nothing but the trunks and the transmit slots has changed. -/
def Untouched (s t : State) : Prop := SamePaper s t ∧ SameTables s t ∧ SameEvents s t ∧ SameLinks s t

/-- An act in which the request has no effect changes nothing but its trunk. -/
theorem settle_answered_untouched (s : State) (k : Trunk) (r : Request) (st : Status) :
    Untouched s (settle ((s.takeOff k).answered k r st, [])) := by
  rw [settle_nil]
  have kept := SlotsKept.slots ((s.takeOff k).answered k r st)
  obtain ⟨link, mgmt, cause, pending⟩ := kept.links
  refine ⟨?_, ?_, ?_, fun p => (link p).trans ?_, mgmt.trans ?_, cause.trans ?_, pending.trans ?_⟩
  · cases k <;> exact kept.paper
  · cases k <;> exact kept.tables
  · intro c
    simpa using kept.events c
  · cases p with
    | head l => cases k <;> rfl
    | trunk t => cases k <;> cases t <;> rfl
  all_goals cases k <;> rfl

/-- A command that answers its request with an act completes with what the act leaves. -/
theorem completes_answered {i : Instr} {s u : State} {k : Trunk} {r : Request} {st : Status} {ts : List Task}
    {P : State → Prop} (ran : exec i s = act (u.answered k r st, ts)) (kept : Kept (s.takeOff k) u)
    (h : P (settle (u.answered k r st, ts))) : Completes i s fun t => Replied s t k r st [] ∧ P t :=
  ⟨_, ran, settle_replied kept, h⟩

/-- A command whose request has no effect replies, and leaves the rest alone. -/
theorem completes_untouched {i : Instr} {s : State} {k : Trunk} {r : Request} {st : Status}
    (ran : exec i s = act ((s.takeOff k).answered k r st, [])) :
    Completes i s fun t => Replied s t k r st [] ∧ Untouched s t :=
  completes_answered ran (Kept.refl _) (settle_answered_untouched s k r st)

/-! ### The operand (R26) -/

/-- The operand byte of a lane request names its lane. -/
theorem laneOf_operand (l : LaneId) : laneOf (field [BitVec.ofNat 8 l.val] 0 1) = some l := by
  fin_cases l <;> rfl

theorem bodyLane_laneRequest (f : LaneId → State → Move × Status) (kind tag : Byte) (l : LaneId) (s : State) :
    bodyLane f (laneRequest kind tag l).payload s = .plain (f l s) := by
  rw [bodyLane, sized, if_pos (by rfl), laneRequest, laneOf_operand]

/-- A lane request is carried out on its lane, and the reply has the status that this gives. -/
theorem serve_laneRequest {f : LaneId → State → Move × Status} {s u : State} {k : Trunk} {kind tag : Byte} {l : LaneId}
    {ts : List Task} {st : Status} (h : s.nextRequest = some (k, laneRequest kind tag l))
    (hf : f l (s.takeOff k) = ((u, ts), st)) :
    serve (Request.isKind kind.toNat) (bodyLane f) s = act (u.answered k (laneRequest kind tag l) st, ts) := by
  rw [serve_act h (by simp [Request.isKind, laneRequest]), bodyLane_laneRequest, hf]
  rfl

/-! ### The states a lane request leads to -/

/-- The LANE record of a lane is that of its generation, and so is left by other changes. -/
theorem State.modLane_laneRec (s : State) (l k : LaneId) {f : Lane → Lane} (gen : (f (s.lane l)).gen = (s.lane l).gen) :
    (s.modLane l f).laneRec k = s.laneRec k := by
  have same : ((s.modLane l f).lane k).gen = (s.lane k).gen := by
    by_cases e : l = k
    · subst e
      rw [State.modLane_lane_self, gen]
    · rw [State.modLane_lane_ne s l k f e]
  rw [State.laneRec, State.laneTables, same]
  rfl

/-- The monitor at the begin of a calibration (R75). -/
def Dfm.begun (d : Dfm) (sonicEnabled : Bool) : Dfm :=
  { d with calibration := if sonicEnabled then .running 0 0 else .none }

/-- Going to RAMP_UP changes its lane's state, gap state and monitor (R27, R36, R75). -/
theorem State.toRampUp_lane_self (s : State) (l : LaneId) : (s.toRampUp l).lane l =
    { s.lane l with
      state := .rampUp
      gap := .clear
      dfm := { (s.lane l).dfm.begun (s.laneRec l).sonicEnabled with
        driftRaw := ((s.lane l).dfm.begun (s.laneRec l).sonicEnabled).drift } } := by
  rw [State.toRampUp, State.beginCalibration, State.evalDrift_lane_self, State.modDfm_lane_self,
    State.modLane_lane_self, State.modLane_laneRec s l l rfl]
  rfl

theorem State.toRampUp_otherLanes (s : State) (l : LaneId) : OtherLanes s (s.toRampUp l) l := by
  intro k hk
  rw [State.toRampUp, State.beginCalibration, State.evalDrift_lane_ne _ hk, State.modDfm_lane_ne _ _ _ _ hk.symm,
    s.modLane_otherLanes l _ k hk]

/-- Coming to rest changes its lane (R22, R33). -/
theorem State.toRest_lane_self (s : State) (l : LaneId) : (s.toRest l).lane l =
    { (s.lane l).zeroCounter with
      state := if s.laneEnabled l then .idle else .off
      trayEmpty := false
      dfm := (s.lane l).zeroCounter.dfm.endRun } := by
  unfold State.toRest
  dsimp only
  split <;> simp [lane_of_lanes (State.occur_lanes _ _ _)]

theorem State.toRest_otherLanes (s : State) (l : LaneId) : OtherLanes s (s.toRest l) l := by
  intro k hk
  unfold State.toRest
  dsimp only
  split <;> simp [lane_of_lanes (State.occur_lanes _ _ _), hk.symm]

theorem State.toRest_frame (s : State) (l : LaneId) :
    s.toRest l = { s with lanes := (s.toRest l).lanes, events := (s.toRest l).events } := by
  unfold State.toRest
  dsimp only
  split
  · rw [State.occur_frame]
    rfl
  · rfl

/-- An enabled lane that comes to rest latches LANE_IDLE, and nothing else is latched (R33). -/
theorem State.toRest_laneIdle {s : State} {l : LaneId} (enabled : s.laneEnabled l = true) :
    (s.toRest l).event Ev.laneIdle = (s.event Ev.laneIdle).occur l.val := by
  unfold State.toRest
  dsimp only
  rw [if_pos enabled, State.occur_of_source _ (Ev.lane_source (by decide) l), State.setEvent_event_self]
  rfl

theorem State.toRest_events {s : State} {l : LaneId} (disabled : s.laneEnabled l = false) :
    (s.toRest l).events = s.events := by
  unfold State.toRest
  dsimp only
  rw [if_neg (by simp [disabled])]
  rfl

theorem State.toRest_event_ne (s : State) (l : LaneId) {c : Fin 20} (h : c ≠ Ev.laneIdle) :
    (s.toRest l).event c = s.event c := by
  unfold State.toRest
  dsimp only
  split
  · rw [State.occur_event_ne _ _ h]
    rfl
  · rfl

/-- A counter and an H that are 0 when an act begins are 0 at its end. -/
theorem settle_zero {m : Move} {l : LaneId} (counter : (m.1.lane l).counter = 0) (high : (m.1.lane l).high = 0) :
    ((settle m).lane l).counter = 0 ∧ ((settle m).lane l).high = 0 := by
  rcases (LanesEvolve.settle m l).placed with ⟨counter', high', _⟩ | zero
  · exact ⟨counter'.trans counter, high'.trans high⟩
  · exact zero

/-! ### LANE_START (R27) -/

theorem startLane_refused {s : State} {l : LaneId}
    (h : s.laneEnabled l = false ∨ (s.lane l).state = .off ∨ (s.lane l).state = .jammed) :
    startLane l s = ((s, []), .state) := by
  unfold startLane
  split
  · rfl
  · rename_i enabled
    rcases h with h | h | h
    · simp [h] at enabled
    · rw [h]
    · rw [h]

theorem startLane_runs {s : State} {l : LaneId} (enabled : s.laneEnabled l = true)
    (h : (s.lane l).state = .rampUp ∨ (s.lane l).state = .feeding ∨ (s.lane l).state = .holding
      ∨ (s.lane l).state = .retryWait) : startLane l s = ((s, []), .ok) := by
  rw [startLane, if_neg (by simp [enabled])]
  rcases h with h | h | h | h <;> rw [h]

theorem startLane_idle {s : State} {l : LaneId} (enabled : s.laneEnabled l = true) (h : (s.lane l).state = .idle) :
    startLane l s = (((s.modLane l Lane.zeroCounter).toRampUp l, [.fgc]), .ok) := by
  rw [startLane, if_neg (by simp [enabled]), h]

theorem startLane_runout {s : State} {l : LaneId} (enabled : s.laneEnabled l = true) (h : (s.lane l).state = .runout) :
    startLane l s = ((s.modLane l fun x => { x with state := .holding, runoutTimer := none }, [.fgc]), .ok) := by
  rw [startLane, if_neg (by simp [enabled]), h]

theorem startLane_rampDown {s : State} {l : LaneId} (enabled : s.laneEnabled l = true)
    (h : (s.lane l).state = .rampDown) : startLane l s = ((s.toRampUp l, [.fgc]), .ok) := by
  rw [startLane, if_neg (by simp [enabled]), h]


end Sys2Proof.Machine
end

section
/-! The obligations about the lane requests (R27, R28, R29, R31, R48, R49). -/

namespace Sys2Proof.Machine

/- One proof after another: every thread of a parallel elaboration reserves memory, which the check limits. -/
set_option Elab.async false

theorem exec_laneStart {s u : State} {k : Trunk} {tag : Byte} {l : LaneId} {ts : List Task} {st : Status}
    (h : s.nextRequest = some (k, laneRequest 3 tag l)) (hf : startLane l (s.takeOff k) = ((u, ts), st)) :
    exec .laneStart s = act (u.answered k (laneRequest 3 tag l) st, ts) := serve_laneRequest h hf

/-- Settles O26: each of the five cases of R27 gives the act, its reply and its begin. -/
theorem laneStartActsByState : Obligations.LaneStartActsByState := by
  intro s k tag l next
  have kept := Kept.refl (s.takeOff k)
  refine ⟨fun refused => ?_, fun enabled runs => ?_, fun enabled idle => ?_, fun enabled runout => ?_,
    fun enabled rampDown => ?_⟩
  · exact completes_untouched (exec_laneStart next (startLane_refused (by simpa using refused)))
  · exact completes_untouched (exec_laneStart next (startLane_runs (by simpa using enabled) (by simpa using runs)))
  · have ran := exec_laneStart next (startLane_idle (by simpa using enabled) (by simpa using idle))
    have lane := ((s.takeOff k).modLane l Lane.zeroCounter).toRampUp_lane_self l
    rw [State.modLane_lane_self, State.modLane_laneRec _ l l rfl, State.takeOff_laneRec, State.takeOff_lane] at lane
    have others : OtherLanes (s.takeOff k) (((s.takeOff k).modLane l Lane.zeroCounter).toRampUp l) l := fun m hm =>
      (State.toRampUp_otherLanes _ l m hm).trans (State.modLane_otherLanes _ l _ m hm)
    refine ⟨⟨_, ran, ?_⟩, completes_answered ran
      (Kept.toRampUp (kept.modLane l _ (by exact fun _ => ⟨rfl, rfl, rfl⟩)) l) (settle_zero ?_ ?_)⟩
    · rw [State.answered_lane, lane]
      exact ⟨rfl, rfl, rfl, rfl, rfl, rfl, rfl, rfl, rfl, rfl, answered_otherLanes k _ _ others⟩
    · rw [State.answered_lane, lane]
      rfl
    · rw [State.answered_lane, lane]
      rfl
  · have ran := exec_laneStart next (startLane_runout (by simpa using enabled) (by simpa using runout))
    refine ⟨⟨_, ran, ?_, answered_otherLanes k _ _ (State.modLane_otherLanes _ l _)⟩, _, ran,
      settle_replied (kept.modLane l _ (by exact fun _ => ⟨rfl, rfl, rfl⟩))⟩
    rw [State.answered_lane, State.modLane_lane_self, State.takeOff_lane]
  · have ran := exec_laneStart next (startLane_rampDown (by simpa using enabled) (by simpa using rampDown))
    have lane := (s.takeOff k).toRampUp_lane_self l
    rw [State.takeOff_laneRec, State.takeOff_lane] at lane
    refine ⟨⟨_, ran, ?_⟩, _, ran, settle_replied (kept.toRampUp l)⟩
    rw [State.answered_lane, lane]
    exact ⟨rfl, rfl, rfl, rfl, rfl, rfl, answered_otherLanes k _ _ (State.toRampUp_otherLanes _ l)⟩

theorem exec_laneStop {s : State} {k : Trunk} {tag : Byte} {l : LaneId}
    (h : s.nextRequest = some (k, laneRequest 4 tag l)) : exec .laneStop s =
      act ((onEnterRunout l (s.takeOff k)).1.answered k (laneRequest 4 tag l) .ok, (onEnterRunout l (s.takeOff k)).2) :=
  serve_laneRequest (f := stopLane) h rfl

theorem exec_laneHalt {s : State} {k : Trunk} {tag : Byte} {l : LaneId}
    (h : s.nextRequest = some (k, laneRequest 5 tag l)) : exec .laneHalt s =
      act ((handle (.jam l .halt) (s.takeOff k)).1.answered k (laneRequest 5 tag l) .ok,
        (handle (.jam l .halt) (s.takeOff k)).2) :=
  serve_laneRequest (f := haltLane) h rfl

/-- Settles O27: a stop is the cause of R31, a halt the jam of R48, and both answer OK. -/
theorem laneStopAndHaltActByState : Obligations.LaneStopAndHaltActByState := by
  refine ⟨fun s k tag l next => ⟨fun stops => ?_, ?_⟩, fun s k tag l next => ?_⟩
  · have ran := exec_laneStop next
    rw [onEnterRunout_of_stoppable (by simpa using (LaneState.stoppable_iff _).2 stops), State.toRunout_eq] at ran
    refine ⟨_, ran, ?_, answered_otherLanes k _ _ (State.modLane_otherLanes _ l _), ?_⟩
    · rw [State.answered_lane, State.modLane_lane_self, State.takeOff_laneRec, State.takeOff_pickedSheet,
        State.takeOff_lane]
      rfl
    · cases k <;> exact ⟨rfl, rfl, rfl, rfl, ⟨rfl, rfl, rfl, rfl, rfl, rfl⟩, rfl⟩
  · refine completes_answered (exec_laneStop next) (Kept.handle (.enterRunout l) _) fun runs => ?_
    have stays : ((s.takeOff k).lane l).state.stoppable = false := by
      rw [State.takeOff_lane, LaneState.stoppable_eq_false]
      tauto
    rw [onEnterRunout_of_not_stoppable stays]
    exact settle_answered_untouched s k _ _
  · refine completes_answered (exec_laneHalt next) (Kept.handle (.jam l .halt) _)
      ⟨fun moves => ⟨exec_laneHalt next, ?_⟩, fun rests => ?_⟩
    · rw [handle_jam_of_moving .halt (by simpa using moves)]
      have ended := run_jammed Config.actFuel [.fgc, .retire, .release l] (s := s.takeOff k)
        (u := ((s.takeOff k).toJammed l .halt).answered k (laneRequest 5 tag l) .ok) (l := l) (cause := .halt)
        (State.answered_lane _ k _ _ l) (State.answered_event _ k _ _ _)
      exact ⟨ended.stopped.state, ended.lastJam, ended.stopped.speed, ended.stopped.target, ended.stopped.ramp,
        ended.path.trans (by rw [State.takeOff_lane]), ended.latch, ended.source⟩
    · rw [handle_jam_of_not_moving .halt (by simpa using rests)]
      exact settle_answered_untouched s k _ _

theorem clearLane_jammed {s : State} {l : LaneId} (h : (s.lane l).state = .jammed) : clearLane l s =
    (((s.toRest l).modLane l fun x => { x with path := [], sensor := none, gap := .clear }, [.fgc, .adoptMoment l]),
      .ok) := by
  rw [clearLane, if_pos h]

theorem clearLane_refused {s : State} {l : LaneId} (h : (s.lane l).state ≠ .jammed) :
    clearLane l s = ((s, []), .state) := by
  rw [clearLane, if_neg h]

theorem exec_laneClear {s u : State} {k : Trunk} {tag : Byte} {l : LaneId} {ts : List Task} {st : Status}
    (h : s.nextRequest = some (k, laneRequest 6 tag l)) (hf : clearLane l (s.takeOff k) = ((u, ts), st)) :
    exec .laneClear s = act (u.answered k (laneRequest 6 tag l) st, ts) := serve_laneRequest h hf

/-- Settles O28: the rest of R33 with an empty path list, or a refusal. -/
theorem laneClearEndsJam : Obligations.LaneClearEndsJam := by
  intro s k tag l next
  refine ⟨fun jammed => ?_, fun runs => ?_⟩
  · have ran := exec_laneClear next (clearLane_jammed (by simpa using jammed))
    have lane := (s.takeOff k).toRest_lane_self l
    rw [State.takeOff_laneEnabled, State.takeOff_lane] at lane
    have kept := Kept.modLane ((Kept.refl (s.takeOff k)).toRest l) l
      (fun x => { x with path := [], sensor := none, gap := .clear }) (by exact fun _ => ⟨rfl, rfl, rfl⟩)
    refine ⟨⟨_, ran, ?_⟩, completes_answered ran kept (settle_zero ?_ ?_)⟩
    · rw [State.answered_lane, State.modLane_lane_self, lane, State.answered_event, State.modLane_event]
      refine ⟨rfl, rfl, rfl, rfl, rfl, rfl, rfl, rfl, rfl, rfl, ?_, answered_otherLanes k _ _ fun m hm => ?_,
        fun enabled => ?_, fun disabled => ?_⟩
      · rw [State.answered_entries, State.modLane_entries, State.toRest_frame]
        exact s.takeOff_entries k
      · rw [State.modLane_lane_ne _ l m _ hm.symm, State.toRest_otherLanes _ l m hm]
      · rw [State.toRest_laneIdle (by simpa using enabled), State.takeOff_event]
      · rw [State.event, State.toRest_events (by simpa using disabled)]
        exact s.takeOff_event k _
    · rw [State.answered_lane, State.modLane_lane_self, lane]
      rfl
    · rw [State.answered_lane, State.modLane_lane_self, lane]
      rfl
  · exact completes_untouched (exec_laneClear next (clearLane_refused (by simpa using runs)))

end Sys2Proof.Machine
end

section
/-! The speeds of the lanes (R30, R33, R52-R62): ramps, targets, in-use sets and the ends of RAMP_UP and RAMP_DOWN. -/

namespace Sys2Proof.Machine

/- One proof after another: every thread of a parallel elaboration reserves memory, which the check limits. -/
set_option Elab.async false

/-! ### Ramps (R56, R57) -/

theorem Lane.speedReached_iff (x : Lane) : x.speedReached = true ↔ x.ramp = none ∧ x.speed = x.target := by
  simp [Lane.speedReached]

theorem Dfm.calibrationFinished_iff (d : Dfm) :
    d.calibrationFinished = true ↔ ∀ n sum, d.calibration = .running n sum → d.degraded = true := by
  unfold Dfm.calibrationFinished
  cases d.calibration <;> simp

theorem Lane.rampUpEnds_iff (x : Lane) : x.rampUpEnds = true ↔ x.state = .rampUp ∧ x.ramp = none ∧ x.speed = x.target
    ∧ ∀ n sum, x.dfm.calibration = .running n sum → x.dfm.degraded = true := by
  rw [Lane.rampUpEnds, Bool.and_eq_true, Bool.and_eq_true, Lane.speedReached_iff, Dfm.calibrationFinished_iff,
    beq_iff_eq, and_assoc, and_assoc]

/-- RAMP_UP goes on while one of its conditions fails. -/
theorem Lane.rampUpEnds_eq_false {x : Lane} (h : x.state ≠ .rampUp ∨ x.ramp ≠ none ∨ x.speed ≠ x.target
    ∨ (x.dfm.degraded = false ∧ ∃ n sum, x.dfm.calibration = .running n sum)) : x.rampUpEnds = false := by
  rw [Bool.eq_false_iff, ne_eq, Lane.rampUpEnds_iff]
  rintro ⟨state, ramp, speed, finished⟩
  rcases h with h | h | h | ⟨sound, n, sum, running⟩
  · exact h state
  · exact h ramp
  · exact h speed
  · simp [finished n sum running] at sound

/-- A ramp is at its target speed after its last period. -/
theorem Ramp.speedAt_slope {r : Ramp} (h : 0 < r.slope) : r.speedAt r.slope = r.target := by
  have slope : (r.slope : Int) ≠ 0 := by omega
  rw [Ramp.speedAt, Int.mul_tdiv_cancel _ slope, add_sub_cancel, Int.toNat_natCast]

theorem Lane.rampPeriod_of_running {x : Lane} {r : Ramp} (ramp : x.ramp = some r) (h : r.elapsed + 1 < r.slope) :
    x.rampPeriod = { x with speed := r.speedAt (r.elapsed + 1), ramp := some { r with elapsed := r.elapsed + 1 } } := by
  rw [Lane.rampPeriod, ramp]
  dsimp only
  rw [if_neg (by omega)]

theorem Lane.rampPeriod_of_last {x : Lane} {r : Ramp} (ramp : x.ramp = some r) (h : r.elapsed + 1 = r.slope) :
    x.rampPeriod = { x with speed := r.target, ramp := none } := by
  rw [Lane.rampPeriod, ramp]
  dsimp only
  rw [if_pos (by omega), h, Ramp.speedAt_slope (by omega)]

theorem exec_speedControlPeriod_of_ramp {s : State} {l : LaneId} {r : Ramp} (ramp : (s.lane l).ramp = some r) :
    exec (.speedControlPeriod l) s = act (s.modLane l Lane.rampPeriod, [.speedCheck l]) := by
  change execSpeedControlPeriod l s = _
  rw [execSpeedControlPeriod, ramp]

theorem exec_speedControlPeriod_of_no_ramp {s : State} {l : LaneId} (ramp : (s.lane l).ramp = none) :
    exec (.speedControlPeriod l) s = .next s := by
  change execSpeedControlPeriod l s = _
  rw [execSpeedControlPeriod, ramp]

theorem Lane.heading_eq_iff (x : Lane) (e : Nat) :
    e = x.heading ↔ (∀ r, x.ramp = some r → r.target = e) ∧ (x.ramp = none → x.speed = e) := by
  unfold Lane.heading
  cases x.ramp <;> simp [eq_comm]

/-! ### Speed checks (R30, R33) -/

theorem onSpeedCheck_of_rampUpEnds {s : State} {l : LaneId} (h : (s.lane l).rampUpEnds = true) :
    handle (.speedCheck l) s = (s.modLane l fun x => { x with state := .holding }, [.holds]) := by
  rw [handle_speedCheck, onSpeedCheck, if_pos h, State.leaveRampUp, if_pos h]

theorem onSpeedCheck_of_rampDown {s : State} {l : LaneId} (state : (s.lane l).state = .rampDown)
    (speed : (s.lane l).speed = 0) (ramp : (s.lane l).ramp = none) :
    handle (.speedCheck l) s = (s.toRest l, [.fgc, .adoptMoment l]) := by
  have up : (s.lane l).rampUpEnds = false := Lane.rampUpEnds_eq_false (.inl (by simp [state]))
  rw [handle_speedCheck, onSpeedCheck, if_neg (by simp [up]), if_pos ⟨state, speed, ramp⟩]

theorem onSpeedCheck_idle {s : State} {l : LaneId} (up : (s.lane l).rampUpEnds = false)
    (down : (s.lane l).state ≠ .rampDown ∨ (s.lane l).speed ≠ 0 ∨ (s.lane l).ramp ≠ none) :
    handle (.speedCheck l) s = (s, []) := by
  rw [handle_speedCheck, onSpeedCheck, if_neg (by simp [up]), if_neg (by tauto)]

/-- A speed check does nothing while the ramp goes on. -/
theorem onSpeedCheck_of_ramp {s : State} {l : LaneId} (ramp : (s.lane l).ramp ≠ none) :
    handle (.speedCheck l) s = (s, []) :=
  onSpeedCheck_idle (Lane.rampUpEnds_eq_false (.inr (.inl ramp))) (.inr (.inr ramp))

/-- What is left of a calibration when its run ends (R75). -/
def Calibration.ended : Calibration → Calibration
  | .running _ _ => .none
  | c => c

theorem Dfm.endRun_eq (d : Dfm) : d.endRun = { d with calibration := d.calibration.ended } := by
  cases d with
  | mk degraded calibration => cases calibration <;> rfl

/-! ### In-use sets and targets (R53, R55) -/

theorem State.mem_inUse (s : State) (l : LaneId) (c : ChanId) : c ∈ s.inUse (s.groupOf l) ↔
    ∃ m : LaneId, s.groupOf m = s.groupOf l ∧ (s.lane m).state ≠ .off ∧ (s.lane m).state ≠ .idle
      ∧ (c = ((s.feedTables m).cls[(s.lane m).batch.cls]).primary
        ∨ ((s.feedTables m).cls[(s.lane m).batch.cls]).mirror = some c) := by
  have running : ∀ x : LaneState, x.resting = false ↔ x ≠ .off ∧ x ≠ .idle := by
    intro x
    cases x <;> simp [LaneState.resting]
  simp [State.inUse, mem_allLanes, State.classChannels, ClassRec.mem_channels, running, and_assoc]

theorem State.nearInUse_iff (s : State) (l : LaneId) :
    s.nearInUse l = true ↔ ∃ c ∈ s.inUse (s.groupOf l), (s.chan c).fillState ≠ .opened := by
  simp [State.nearInUse]

theorem State.targetOf_of_not_driven {s : State} {l : LaneId} (h : (s.lane l).state.driven = false) :
    s.targetOf l = 0 := by
  rw [State.targetOf, if_neg (by simp [h])]

theorem State.targetOf_of_near {s : State} {l : LaneId} (h : (s.lane l).state.driven = true)
    (near : s.nearInUse l = true) : s.targetOf l = (s.groupRec l).throttleSpeed := by
  rw [State.targetOf, if_pos h, if_pos near]

theorem State.targetOf_of_not_near {s : State} {l : LaneId} (h : (s.lane l).state.driven = true)
    (near : s.nearInUse l = false) : s.targetOf l = (s.groupRec l).targetSpeed := by
  rw [State.targetOf, if_pos h, if_neg (by simp [near])]

/-! ### The pass of the FGC (R55, R59) -/

/-- A pass in which each turn changes lanes only changes lanes only. -/
theorem foldl_lanes_frame {α : Type} (f : State → α → State) (hf : ∀ u x, f u x = { u with lanes := (f u x).lanes })
    (xs : List α) : ∀ s, xs.foldl f s = { s with lanes := (xs.foldl f s).lanes } := by
  induction xs with
  | nil => exact fun _ => rfl
  | cons x xs ih =>
    intro s
    rw [List.foldl_cons, ih (f s x)]
    rw [hf s x]

theorem State.retarget_frame (s : State) (l : LaneId) : s.retarget l = { s with lanes := (s.retarget l).lanes } := rfl

theorem State.leaveRampUp_frame (s : State) (l : LaneId) :
    s.leaveRampUp l = { s with lanes := (s.leaveRampUp l).lanes } := by
  unfold State.leaveRampUp
  split <;> rfl

/-- The pass of the FGC over the lanes. -/
def State.fgcPass (s : State) : State := allLanes.foldl State.leaveRampUp (allLanes.foldl State.retarget s)

theorem handle_fgc_pass (s : State) :
    handle .fgc s = (s.fgcPass, ([0, 1, 2, 3, 4, 5] : List LaneId).map Task.speedCheck ++ [.holds]) := by
  have six : allLanes = [0, 1, 2, 3, 4, 5] := by unfold allLanes; rfl
  rw [handle_fgc, onFgc, State.fgcPass, six]

theorem State.fgcPass_frame (s : State) : s.fgcPass = { s with lanes := s.fgcPass.lanes } := by
  rw [State.fgcPass, foldl_lanes_frame _ State.leaveRampUp_frame, foldl_lanes_frame _ State.retarget_frame]

/-- A lane that the FGC has given its target, unless it is adopting. -/
theorem State.fgcPass_lane {s : State} {l : LaneId} {x : Lane}
    (h : x = (if (s.lane l).adoptingFrom = none then (s.lane l).retarget (s.targetOf l) (s.groupRec l).slopeMs
      else s.lane l)) : s.fgcPass.lane l = if x.rampUpEnds then { x with state := .holding } else x := by
  have target : (allLanes.foldl State.retarget s).lane l = x := by
    rw [foldl_retarget_lane, h]
    cases (s.lane l).adoptingFrom <;> simp
  rw [State.fgcPass, foldl_leaveRampUp_lane, target]

/-! ### The obligation -/

/-- Settles O30: the ramps, the targets, the pass of the FGC and the speed checks, each by its lemmas. -/
theorem speedsFollowRamps : Obligations.SpeedsFollowRamps := by
  refine ⟨fun s l => ⟨fun r ramp runs => ?_, fun r ramp last => ?_, fun ramp => ?_⟩,
    fun x e slope => ⟨fun target speed => ?_, fun target speed => ?_⟩,
    fun s l => ⟨fun stands => ?_, fun drives => ?_, ?_⟩,
    fun s => ⟨_, handle_fgc_pass s, fun l x hx => ⟨?_, fun goes => ?_⟩, s.fgcPass_frame⟩,
    fun s l x hx => ⟨fun state ramp speed finished => ?_, fun state speed ramp => ?_, fun goes => ?_⟩⟩
  · have period := exec_speedControlPeriod_of_ramp ramp
    have goes : ((s.modLane l Lane.rampPeriod).lane l).ramp ≠ none := by
      rw [State.modLane_lane_self, Lane.rampPeriod_of_running ramp runs]
      simp
    have ended : act (s.modLane l Lane.rampPeriod, [.speedCheck l]) = act (s.modLane l Lane.rampPeriod, []) := by
      rw [act, act, settle_cons, onSpeedCheck_of_ramp goes, List.append_nil, run_nil, settle_nil]
    obtain ⟨t, ran, lane, others, entries, _, _, tables, _, links⟩ := completes_modLane (period.trans ended)
    refine ⟨t, ran, ?_, others, entries, tables, links⟩
    rw [lane, Lane.rampPeriod_of_running ramp runs, Ramp.speedAt]
    push_cast
    rfl
  · exact begins_modLane (exec_speedControlPeriod_of_ramp ramp) (Lane.rampPeriod_of_last ramp last)
  · exact ⟨s, exec_speedControlPeriod_of_no_ramp ramp, rfl⟩
  · rw [Lane.retarget, if_pos ((x.heading_eq_iff e).2 ⟨target, speed⟩)]
  · have moved : e ≠ x.heading := by
      unfold Lane.heading
      cases h : x.ramp with
      | none => exact (speed h).symm
      | some r => exact (target r h).symm
    rw [Lane.retarget, if_neg moved]
    refine ⟨fun flat => if_pos flat, fun steep same => ?_, fun steep other => ?_⟩
    · rw [if_neg steep, if_pos same.symm]
    · rw [if_neg steep, if_neg (Ne.symm other)]
  · refine State.targetOf_of_not_driven ?_
    rcases stands with h | h | h | h <;> rw [h] <;> rfl
  · have driven : (s.lane l).state.driven = true := by
      rcases drives with h | h | h | h | h <;> rw [h] <;> rfl
    refine ⟨?_, fun clear => State.targetOf_of_not_near driven ?_⟩
    · rintro ⟨m, r, rfl, group, off, idle, fill⟩
      refine State.targetOf_of_near driven ((s.nearInUse_iff l).2 ?_)
      rcases fill with fill | ⟨c, mirror, fill⟩
      · exact ⟨_, (s.mem_inUse l _).2 ⟨m, group, off, idle, .inl rfl⟩, fill⟩
      · exact ⟨c, (s.mem_inUse l _).2 ⟨m, group, off, idle, .inr mirror⟩, fill⟩
    · rw [Bool.eq_false_iff, ne_eq, State.nearInUse_iff]
      rintro ⟨c, used, fill⟩
      obtain ⟨m, group, off, idle, names⟩ := (s.mem_inUse l c).1 used
      obtain ⟨primary, mirror⟩ := clear m _ rfl group off idle
      rcases names with rfl | names
      · exact fill primary
      · exact fill (mirror c names)
  · refine ⟨rfl, rfl, fun h => ?_, fun g h => ?_⟩
    · rw [State.feedTables, State.feedGen, h]
      rfl
    · rw [State.feedTables, State.feedGen, h]
      rfl
  · intro state ramp speed finished
    rw [State.fgcPass_lane hx, if_pos (x.rampUpEnds_iff.2 ⟨state, ramp, speed, finished⟩)]
  · rw [State.fgcPass_lane hx, if_neg (by simp [Lane.rampUpEnds_eq_false goes])]
  · subst hx
    exact handle_modLane (onSpeedCheck_of_rampUpEnds ((Lane.rampUpEnds_iff _).2 ⟨state, ramp, speed, finished⟩)) rfl
  · subst hx
    refine ⟨_, onSpeedCheck_of_rampDown state speed ramp, ?_, State.toRest_laneIdle, State.toRest_events,
      fun c hc => s.toRest_event_ne l hc, s.toRest_otherLanes l, s.toRest_frame l⟩
    rw [State.toRest_lane_self, Dfm.endRun_eq]
    rfl
  · subst hx
    rcases goes with ⟨up, down⟩ | ⟨up, goes⟩ | ⟨down, goes⟩
    · exact onSpeedCheck_idle (Lane.rampUpEnds_eq_false (.inl up)) (.inl down)
    · exact onSpeedCheck_idle (Lane.rampUpEnds_eq_false (.inr goes)) (.inl (by simp [up]))
    · exact onSpeedCheck_idle (Lane.rampUpEnds_eq_false (.inl (by simp [down]))) (.inr goes)

end Sys2Proof.Machine
end

section
/-! Picks (R34-R38): when one is due, what it allocates, the holding reasons and what they make of the lanes. -/

namespace Sys2Proof.Machine

/- One proof after another: every thread of a parallel elaboration reserves memory, which the check limits. -/
set_option Elab.async false

/-! ### Positions and allocation (R4, R38) -/

theorem Lane.takePos_eq (x : Lane) : x.takePos =
    { x with slots := x.slots.tail, nextSeq := if x.slots = [] then x.nextSeq + 1 else x.nextSeq } := by
  unfold Lane.takePos
  split <;> simp [*]

/-- The position taken is the oldest open slot, which is consumed, or else the next number. -/
theorem Lane.nextPos_spec {x : Lane} {pos : SeqPos} (h : x.nextPos = some pos) :
    (∀ q rest, x.slots = q :: rest → pos = q ∧ x.takePos.slots = rest ∧ x.takePos.nextSeq = x.nextSeq)
      ∧ (x.slots = [] → pos = ⟨x.nextSeq, 0⟩ ∧ x.takePos.slots = [] ∧ x.takePos.nextSeq = x.nextSeq + 1) := by
  rw [Lane.takePos_eq]
  unfold Lane.nextPos at h
  refine ⟨fun q rest slots => ?_, fun slots => ?_⟩
  · rw [slots] at h
    cases h
    simp [slots]
  · rw [slots] at h
    dsimp only at h
    split at h
    · cases h
      simp [slots]
    · cases h

theorem State.allocate_lane_self (s : State) (l : LaneId) (i : Fin 64) (pos : SeqPos) (edge : Option Nat) :
    (s.allocate l i pos edge).lane l = { (s.lane l).takePos with
      path := (s.lane l).path ++ [s.newSheet l (s.lane l).gen (s.tokenOf i) edge], gap := .wait } := by
  rw [State.allocate, State.modLane_lane_self, State.setEntry_lane]

theorem State.allocate_otherEntries (s : State) (l : LaneId) (i : Fin 64) (pos : SeqPos) (edge : Option Nat) :
    OtherEntries s (s.allocate l i pos edge) i := by
  intro j hj
  rw [State.allocate, State.modLane_entry, State.setEntry_entry_ne _ _ _ _ hj.symm]

theorem State.allocate_incarnation (s : State) (l : LaneId) (i : Fin 64) (pos : SeqPos) (edge : Option Nat) :
    ((s.allocate l i pos edge).entry i).incarnation = (s.entry i).incarnation := by
  rw [State.allocate, State.modLane_entry, State.setEntry_entry_self]

/-- The lane of a granted pick (R38, R121). -/
theorem State.pick_lane_self (s : State) (l : LaneId) (i : Fin 64) (pos : SeqPos) : (s.pick l i pos).lane l =
    { (s.allocate l i pos none).lane l with
      loan := (s.lane l).slots.head?
      clutchPulses := ((s.allocate l i pos none).lane l).clutchPulses + 1
      misfeedTimer := some (s.laneRec l).pickToEntry } := by
  rw [State.pick, State.modLane_lane_self]

theorem State.pick_otherLanes (s : State) (l : LaneId) (i : Fin 64) (pos : SeqPos) :
    OtherLanes s (s.pick l i pos) l := by
  intro k hk
  rw [State.pick, State.modLane_lane_ne _ _ _ _ hk.symm, State.allocate_lane_ne _ _ _ _ hk.symm]

/-! ### When a pick is due (R35, R36) -/

theorem State.gapHolds_iff (s : State) (l : LaneId) : s.gapHolds l = true ↔ (s.lane l).gap = .clear
    ∨ ∃ p, (s.lane l).gap = .since p ∧ p + off (s.laneRec l).gapMm (s.laneRec l).pitch ≤ (s.lane l).high := by
  unfold State.gapHolds
  cases (s.lane l).gap <;> simp

theorem State.pickDue_iff (s : State) (l : LaneId) : s.pickDue l = true ↔
    (s.lane l).state = .feeding ∧ (s.lane l).path.length < 4
      ∧ (∀ i p, s.pageAt i = some p → p.lane = l → p.state ≠ .picked)
      ∧ ((s.lane l).gap = .clear
        ∨ ∃ p, (s.lane l).gap = .since p ∧ p + off (s.laneRec l).gapMm (s.laneRec l).pitch ≤ (s.lane l).high) := by
  rw [State.pickDue, State.pickReady, Bool.and_eq_true, Bool.and_eq_true, Bool.and_eq_true, beq_iff_eq,
    decide_eq_true_iff, Option.isNone_iff_eq_none, State.pickedEntry_none, State.gapHolds_iff, and_assoc]

theorem onPickTest_not_due {s : State} {l : LaneId} (h : s.pickDue l = false) : handle (.pickTest l) s = (s, []) := by
  rw [handle_pickTest, onPickTest, if_neg (by simp [h])]

theorem onPickTest_granted {s : State} {l : LaneId} {i : Fin 64} {pos : SeqPos} (due : s.pickDue l = true)
    (paper : (s.lane l).trayPaper = true) (next : (s.lane l).nextPos = some pos) (granted : s.grantedEntry l = some i) :
    handle (.pickTest l) s = (s.pick l i pos, [.holds]) := by
  rw [handle_pickTest, onPickTest, if_pos due, if_pos paper, next, granted]

theorem onPickTest_not_granted {s : State} {l : LaneId} (due : s.pickDue l = true)
    (paper : (s.lane l).trayPaper = true) (granted : s.grantedEntry l = none) :
    handle (.pickTest l) s = (s.modLane l fun x => { x with state := .holding }, []) := by
  rw [handle_pickTest, onPickTest, if_pos due, if_pos paper, granted]
  cases (s.lane l).nextPos <;> rfl

theorem onPickTest_empty {s : State} {l : LaneId} (due : s.pickDue l = true) (paper : (s.lane l).trayPaper = false) :
    handle (.pickTest l) s = trayFoundEmpty l s := by
  rw [handle_pickTest, onPickTest, if_pos due, if_neg (by simp [paper])]

theorem trayFoundEmpty_autostop {s : State} {l : LaneId} (h : (s.laneRec l).autostop = true) :
    trayFoundEmpty l s = (s.toRunout l, [.fgc]) := by
  rw [trayFoundEmpty, if_pos h]

theorem trayFoundEmpty_holds {s : State} {l : LaneId} (h : (s.laneRec l).autostop = false) :
    trayFoundEmpty l s = (s.modLane l fun x => { x with state := .holding, trayEmpty := true }, []) := by
  rw [trayFoundEmpty, if_neg (by simp [h])]

/-! ### The holding reasons (R34) -/

theorem State.fullInUse_iff (s : State) (l : LaneId) :
    s.fullInUse l = true ↔ ∃ c ∈ s.inUse (s.groupOf l), (s.chan c).fillState = .full := by
  simp [State.fullInUse]

theorem State.lowestFree_eq_none (s : State) : s.lowestFree = none ↔ ∀ i, s.pageAt i ≠ none := by
  simp [State.lowestFree, mem_allEntries]

theorem Holding.any_iff (h : Holding) : h.any = true ↔ h.holdLimit = true ∨ h.queueFull = true ∨ h.tableFull = true
    ∨ h.poolLow = true ∨ h.trayEmpty = true ∨ h.seqLimit = true := by
  simp only [Holding.any, Bool.or_eq_true, or_assoc]

/-- `t` is `s` with other lane states, of which the same are at rest. -/
structure Restated (s t : State) : Prop where
  frame : t = { s with lanes := t.lanes }
  lane : ∀ m, t.lane m = { s.lane m with state := (t.lane m).state }
  resting : ∀ m, (t.lane m).state.resting = (s.lane m).state.resting

/-- The holding reasons of a lane depend on which lanes are at rest only. -/
theorem Restated.holding {s t : State} (h : Restated s t) (l : LaneId) : t.holding l = s.holding l := by
  have gen : ∀ m, (t.lane m).gen = (s.lane m).gen := fun m => by rw [h.lane m]
  have leaving : ∀ m, (t.lane m).adoptingFrom = (s.lane m).adoptingFrom := fun m => by rw [h.lane m]
  have batch : ∀ m, (t.lane m).batch = (s.lane m).batch := fun m => by rw [h.lane m]
  have tables : ∀ g, t.tablesOf g = s.tablesOf g := fun g => by rw [h.frame]; rfl
  have feed : ∀ m, t.feedTables m = s.feedTables m := fun m => by
    simp [State.feedTables, State.feedGen, tables, gen, leaving]
  have used : t.fullInUse l = s.fullInUse l := by
    have chan : ∀ c, t.chan c = s.chan c := fun c => by rw [h.frame]; rfl
    simp [State.fullInUse, State.inUse, State.groupOf, State.classChannels, feed, batch, h.resting, chan]
  have record : t.laneRec l = s.laneRec l := by simp [State.laneRec, State.laneTables, tables, gen]
  have entries : t.entries = s.entries := by rw [h.frame]
  have count : ∀ f, t.countPages f = s.countPages f := fun f => by rw [State.countPages, entries, State.countPages]
  have free : t.lowestFree = s.lowestFree := by
    rw [State.lowestFree, funext (pageAt_of_entries entries), State.lowestFree]
  have pool : t.pool = s.pool := by rw [h.frame]
  rw [State.holding, State.holding, used, record, free, pool, State.heldCount, State.heldCount, State.laneNonFree,
    State.laneNonFree, count, count, h.lane l]

/-- R34 for one lane: FEEDING with a set that is not empty goes to HOLDING. -/
def Lane.held (x : Lane) (reasons : Holding) : Lane :=
  { x with state := if x.state = .feeding ∧ reasons.any = true then .holding else x.state }

theorem State.holdFeeding_lane_self (s : State) (l : LaneId) :
    (s.holdFeeding l).lane l = (s.lane l).held (s.holding l) := by
  unfold State.holdFeeding Lane.held
  split <;> simp

theorem State.holdFeeding_lane_ne (s : State) {l m : LaneId} (h : m ≠ l) : (s.holdFeeding l).lane m = s.lane m := by
  unfold State.holdFeeding
  split <;> simp [h.symm]

theorem State.holdFeeding_frame (s : State) (l : LaneId) :
    s.holdFeeding l = { s with lanes := (s.holdFeeding l).lanes } := by
  unfold State.holdFeeding
  split <;> rfl

theorem Lane.held_resting (x : Lane) (reasons : Holding) : (x.held reasons).state.resting = x.state.resting := by
  unfold Lane.held
  split
  · rename_i h
    rw [h.1]
    rfl
  · rfl

theorem State.holdFeeding_restated (s : State) (l : LaneId) : Restated s (s.holdFeeding l) := by
  refine ⟨s.holdFeeding_frame l, fun m => ?_, fun m => ?_⟩ <;> by_cases hm : m = l
  · rw [hm, State.holdFeeding_lane_self]
    rfl
  · rw [State.holdFeeding_lane_ne s hm]
  · rw [hm, State.holdFeeding_lane_self, Lane.held_resting]
  · rw [State.holdFeeding_lane_ne s hm]

theorem State.holdAll_frame (s : State) : s.holdAll = { s with lanes := s.holdAll.lanes } :=
  foldl_lanes_frame State.holdFeeding State.holdFeeding_frame allLanes s

theorem State.holdAll_lane (s : State) (l : LaneId) : s.holdAll.lane l = (s.lane l).held (s.holding l) :=
  foldl_allLanes_lane s l State.holdFeeding (fun u k x => x.held (u.holding k)) State.holdFeeding_lane_self
    (fun u _ _ h => u.holdFeeding_lane_ne h) fun u k m x _ => by rw [(u.holdFeeding_restated k).holding m]

theorem State.holdAll_restated (s : State) : Restated s s.holdAll :=
  ⟨s.holdAll_frame, fun m => by rw [State.holdAll_lane]; rfl,
    fun m => by rw [State.holdAll_lane, Lane.held_resting]⟩

/-- The lanes released are those that were HOLDING with an empty set (R34). -/
theorem State.mem_holdAll_released (s : State) (l : LaneId) :
    l ∈ s.holdAll.released ↔ (s.lane l).state = .holding ∧ (s.holding l).any = false := by
  simp only [State.released, List.mem_filter, mem_allLanes, true_and, Bool.and_eq_true, beq_iff_eq, Bool.not_eq_true',
    s.holdAll_restated.holding l, State.holdAll_lane, Lane.held]
  constructor
  · rintro ⟨state, empty⟩
    rw [empty] at state
    exact ⟨by simpa using state, empty⟩
  · rintro ⟨state, empty⟩
    simp [state, empty]

/-- Of several lanes one goes to FEEDING; which one is free (R5, R34; log 7). -/
theorem feedNext_some {s : State} {released notDue : List LaneId} (sub : ∀ l ∈ notDue, l ∈ released)
    (nonempty : released ≠ []) : ∃ (l : LaneId) (u : State), l ∈ released ∧ u = { s with freeDraws := u.freeDraws }
      ∧ feedNext s released notDue = (u.toFeeding l, [.pickTest l, .holds]) := by
  cases notDue with
  | cons m rest => exact ⟨m, s, sub m List.mem_cons_self, rfl, by cases released <;> rfl⟩
  | nil =>
    cases released with
    | nil => exact absurd rfl nonempty
    | cons m rest =>
      obtain ⟨chosen, frame⟩ := s.takeOne_spec m rest
      exact ⟨_, _, chosen, frame, rfl⟩

/-! ### The obligation -/

/-- Settles O21: the pick test by its cases, the six reasons, and the pass over the lanes that they hold. -/
theorem duePickTaken : Obligations.DuePickTaken := by
  refine ⟨fun s l => ⟨s.pickDue_iff l, onPickTest_not_due, fun p gap => ?_, fun gap => ?_⟩,
    fun s l i pos due paper next granted => ⟨_, onPickTest_granted due paper next granted, ?_⟩,
    fun s l due => ⟨fun paper keeps => ?_, fun paper stops => ?_, fun paper granted => ?_⟩,
    fun s l => ⟨by simp [State.holding], ?_, ?_, by simp [State.holding], by simp [State.holding], ?_,
      Holding.any_iff _⟩,
    fun s after hafter => ?_⟩
  · rw [handle_gapPick, onGapPick, gap]
  · rw [handle_gapPick, onGapPick]
    rcases gap with gap | gap <;> rw [gap]
  · obtain ⟨slot, number⟩ := Lane.nextPos_spec next
    have page := s.allocate_pageAt l i i pos none
    rw [if_pos rfl] at page
    have state := ((s.pickDue_iff l).1 due).1
    rw [State.pick_lane_self, State.allocate_lane_self]
    refine ⟨⟨_, page, rfl, rfl, rfl, rfl, rfl, rfl, rfl, rfl, rfl, rfl, rfl⟩, s.allocate_incarnation l i pos none,
      s.allocate_otherEntries l i pos none, fun q rest slots => ?_, fun slots => ?_, ?_, rfl, rfl, ?_,
      ⟨_, rfl, rfl, rfl, rfl, rfl⟩, s.pick_otherLanes l i pos, rfl, rfl⟩
    · obtain ⟨pos', slots', seq⟩ := slot q rest slots
      exact ⟨pos', slots', by rw [slots]; rfl, seq⟩
    · obtain ⟨pos', slots', seq⟩ := number slots
      exact ⟨pos', slots', by rw [slots]; rfl, seq⟩
    · rw [Lane.takePos_eq]
    · rw [Lane.takePos_eq, ← state]
  · exact handle_modLane ((onPickTest_empty due paper).trans (trayFoundEmpty_holds keeps)) rfl
  · exact (onPickTest_empty due paper).trans (trayFoundEmpty_autostop stops)
  · exact handle_modLane (onPickTest_not_granted due paper granted) rfl
  · change s.fullInUse l = true ↔ _
    rw [State.fullInUse_iff]
    simp only [State.mem_inUse]
    constructor
    · rintro ⟨c, ⟨m, group, off, idle, names⟩, full⟩
      exact ⟨m, group, off, idle, c, names, full⟩
    · rintro ⟨m, group, off, idle, c, names, full⟩
      exact ⟨c, ⟨m, group, off, idle, names⟩, full⟩
  · simp [State.holding, State.lowestFree_eq_none]
  · rw [State.holding, Bool.and_eq_true, decide_eq_true_iff, List.isEmpty_iff]
    rfl
  · have lanes : ∀ l, s.holdAll.lane l = after l := fun l => (s.holdAll_lane l).trans (hafter l).symm
    rw [handle_holds_next]
    refine ⟨fun held => ?_, fun ⟨l, state, empty⟩ => ?_⟩
    · have unreleased : s.holdAll.released = [] := by
        refine List.eq_nil_iff_forall_not_mem.2 fun l hl => ?_
        obtain ⟨state, empty⟩ := (s.mem_holdAll_released l).1 hl
        simp [held l state] at empty
      rw [unreleased]
      exact ⟨_, rfl, lanes, s.holdAll_frame⟩
    · have nonempty := List.ne_nil_of_mem ((s.mem_holdAll_released l).2 ⟨state, empty⟩)
      obtain ⟨m, u, chosen, frame, fed⟩ := feedNext_some (s := s.holdAll)
        (notDue := s.holdAll.released.filter fun l => !s.holdAll.pickReady l) (fun _ h => List.mem_of_mem_filter h)
        nonempty
      obtain ⟨state', empty'⟩ := (s.mem_holdAll_released m).1 chosen
      have same : ∀ k, u.lane k = after k := fun k => by
        rw [← lanes k]
        exact lane_of_lanes (by rw [frame]) k
      refine ⟨m, _, state', empty', fed, ?_, fun k hk => ?_, ?_⟩
      · rw [State.toFeeding, State.modLane_lane_self, same, hafter]
      · rw [State.toFeeding, State.modLane_lane_ne _ _ _ _ hk.symm, same]
      · rw [State.toFeeding, State.modLane_frame, frame, s.holdAll_frame]

end Sys2Proof.Machine
end

section
/-! The pick timers (R39, R40, R41): the retry wait, the re-pulse, and the page given up. -/

namespace Sys2Proof.Machine

/- One proof after another: every thread of a parallel elaboration reserves memory, which the check limits. -/
set_option Elab.async false

/-! ### The page given up (R41) -/

/-- A lane whose PICKED page is given up (R41). -/
def Lane.gaveUp (x : Lane) (token : Nat) : Lane :=
  { x with
    path := x.path.eraseP (Sheet.awaits token)
    slots := match x.loan with
      | some q => insertSlot q x.slots
      | none => x.slots
    loan := none
    gap := .clear
    misfeedTimer := none
    retryWait := none }

theorem State.giveUpPick_eq (s : State) (l : LaneId) (i : Fin 64) :
    s.giveUpPick l i = (s.modLane l fun x => x.gaveUp (s.tokenOf i)).freeEntry i := rfl

theorem State.giveUpPick_lane_self (s : State) (l : LaneId) (i : Fin 64) :
    (s.giveUpPick l i).lane l = (s.lane l).gaveUp (s.tokenOf i) := by
  rw [State.giveUpPick_eq, lane_of_lanes (State.freeEntry_lanes _ i), State.modLane_lane_self]

theorem State.giveUpPick_otherLanes (s : State) (l : LaneId) (i : Fin 64) : OtherLanes s (s.giveUpPick l i) l := by
  intro k hk
  rw [State.giveUpPick_eq, lane_of_lanes (State.freeEntry_lanes _ i), State.modLane_lane_ne _ _ _ _ hk.symm]

theorem State.giveUpPick_pageAt (s : State) (l : LaneId) (i : Fin 64) : (s.giveUpPick l i).pageAt i = none := by
  rw [State.giveUpPick_eq, State.freeEntry_pageAt_self]

theorem State.giveUpPick_otherEntries (s : State) (l : LaneId) (i : Fin 64) :
    OtherEntries s (s.giveUpPick l i) i := by
  intro j hj
  rw [State.giveUpPick_eq, State.freeEntry_otherEntries _ i j hj, State.modLane_entry]

theorem State.giveUpPick_pool {s : State} (l : LaneId) {i : Fin 64} {p : Page} (page : s.pageAt i = some p) :
    FreeList.cells (s.giveUpPick l i).pool = FreeList.cells s.pool ++ p.cells := by
  rw [State.giveUpPick_eq, State.freeEntry_pool_cells (by simpa using page), State.modLane_pool]

theorem State.giveUpPick_frame (s : State) (l : LaneId) (i : Fin 64) : s.giveUpPick l i =
    { s with lanes := (s.giveUpPick l i).lanes, entries := (s.giveUpPick l i).entries
             pool := (s.giveUpPick l i).pool } := by
  rw [State.giveUpPick_eq, State.freeEntry_frame]
  rfl

/-! ### Exhaustion (R39, R41) -/

/-- A lane that gives up its page and stops, with the runout timer `timer` (R31, R41). -/
def Lane.exhausted (x : Lane) (token : Nat) (timer : Option Nat) : Lane :=
  { x.gaveUp token with
    state := if (x.gaveUp token).path = [] then .rampDown else .runout
    runoutTimer := timer }

/-- Exhaustion latches FEED_FAILURE and changes its lane, as a stop does. -/
theorem misfeedExhausted_eq {s : State} {l : LaneId} (i : Fin 64)
    (h : (s.lane l).state.stoppable = true ∨ (s.lane l).state = .runout) : ∃ f timer,
    misfeedExhausted l i s
        = (((s.giveUpPick l i).occur Ev.feedFailure l.val).modLane l f, .fgc :: freedTasks l true)
      ∧ f ((s.lane l).gaveUp (s.tokenOf i)) = (s.lane l).exhausted (s.tokenOf i) timer := by
  have lane : ((s.giveUpPick l i).occur Ev.feedFailure l.val).lane l = (s.lane l).gaveUp (s.tokenOf i) :=
    (lane_of_lanes (State.occur_lanes _ _ _) l).trans (s.giveUpPick_lane_self l i)
  unfold misfeedExhausted
  dsimp only
  rw [lane]
  rcases h with stops | runout
  · have stops' : ((s.lane l).gaveUp (s.tokenOf i)).state.stoppable = true := stops
    rw [if_pos stops', State.toRunout_eq]
    exact ⟨_, _, rfl, rfl⟩
  · have runout' : ((s.lane l).gaveUp (s.tokenOf i)).state = .runout := runout
    rw [if_neg (by rw [runout']; decide), if_pos runout']
    refine ⟨_, ((s.lane l).gaveUp (s.tokenOf i)).drained.runoutTimer, rfl, ?_⟩
    rw [Lane.drained_eq, runout']
    rfl

/-- The state in which exhaustion leaves the part, and the latch. -/
theorem misfeedExhausted_spec {s : State} {l : LaneId} {i : Fin 64}
    (h : (s.lane l).state.stoppable = true ∨ (s.lane l).state = .runout) : ∃ u timer,
    misfeedExhausted l i s = (u, .fgc :: freedTasks l true)
      ∧ u.lane l = (s.lane l).exhausted (s.tokenOf i) timer ∧ OtherLanes s u l
      ∧ u.entries = (s.giveUpPick l i).entries ∧ u.pool = (s.giveUpPick l i).pool
      ∧ u.event Ev.feedFailure = ((s.giveUpPick l i).event Ev.feedFailure).occur l.val := by
  obtain ⟨f, timer, moved, lane⟩ := misfeedExhausted_eq i h
  refine ⟨_, timer, moved, ?_, fun k hk => ?_, ?_, ?_, ?_⟩
  · rw [State.modLane_lane_self, lane_of_lanes (State.occur_lanes _ _ _), State.giveUpPick_lane_self, lane]
  · rw [State.modLane_lane_ne _ _ _ _ hk.symm, lane_of_lanes (State.occur_lanes _ _ _),
      State.giveUpPick_otherLanes s l i k hk]
  · rw [State.modLane_entries, State.occur_frame]
  · rw [State.modLane_pool, State.occur_frame]
  · rw [State.modLane_event, State.occur_of_source _ (Ev.lane_source (by decide) l), State.setEvent_event_self]

/-! ### The two expiries (R39, R40) -/

theorem exec_misfeedTimerExpiry (s : State) (l : LaneId) :
    exec (.misfeedTimerExpiry l) s = act (misfeedExpiry l s) := rfl

theorem exec_retryWaitEnd (s : State) (l : LaneId) : exec (.retryWaitEnd l) s = act (retryEnd l s) := rfl

theorem misfeedExpiry_of_no_timer {s : State} {l : LaneId} (h : (s.lane l).misfeedTimer = none) :
    misfeedExpiry l s = (s, []) := by
  rw [misfeedExpiry, h]

theorem State.retriesRemain_iff {s : State} {l : LaneId} {i : Fin 64} {p : Page} {sh : Sheet}
    (page : s.pageAt i = some p) (sheet : s.pickedSheet l = some sh) :
    s.retriesRemain l i = true ↔ p.attempts ≤ sh.pickRetries := by
  rw [State.retriesRemain, page, sheet, decide_eq_true_iff]

theorem misfeedExpiry_retries {s : State} {l : LaneId} {n : Nat} {i : Fin 64} (timer : (s.lane l).misfeedTimer = some n)
    (picked : s.pickedEntry l = some i) (state : (s.lane l).state = .feeding ∨ (s.lane l).state = .holding)
    (remain : s.retriesRemain l i = true) : misfeedExpiry l s = (s.toRetryWait l i, [.fgc]) := by
  rw [misfeedExpiry, timer, picked]
  dsimp only
  rw [if_pos state, if_pos remain]

theorem misfeedExpiry_exhausted {s : State} {l : LaneId} {n : Nat} {i : Fin 64}
    (timer : (s.lane l).misfeedTimer = some n) (picked : s.pickedEntry l = some i)
    (h : ((s.lane l).state = .feeding ∨ (s.lane l).state = .holding) ∧ s.retriesRemain l i = false
      ∨ (s.lane l).state = .runout) : misfeedExpiry l s = misfeedExhausted l i s := by
  rw [misfeedExpiry, timer, picked]
  dsimp only
  rcases h with ⟨state, spent⟩ | runout
  · rw [if_pos state, if_neg (by simp [spent])]
  · rw [if_neg (by simp [runout]), if_pos runout]

theorem retryEnd_repulses {s : State} {l : LaneId} {n : Nat} {i : Fin 64} (wait : (s.lane l).retryWait = some n)
    (picked : s.pickedEntry l = some i) (state : (s.lane l).state = .retryWait) (paper : (s.lane l).trayPaper = true) :
    retryEnd l s = (s.repulse l, [.fgc]) := by
  rw [retryEnd, wait, picked]
  dsimp only
  rw [if_pos state, if_pos paper]

theorem retryEnd_gives_up {s : State} {l : LaneId} {n : Nat} {i : Fin 64} (wait : (s.lane l).retryWait = some n)
    (picked : s.pickedEntry l = some i) (state : (s.lane l).state = .retryWait)
    (paper : (s.lane l).trayPaper = false) :
    retryEnd l s = ((trayFoundEmpty l (s.giveUpPick l i)).1, .fgc :: freedTasks l true) := by
  rw [retryEnd, wait, picked]
  dsimp only
  rw [if_pos state, if_neg (by simp [paper])]

/-- A tray found empty changes its lane only: the lane stops or holds (R37). -/
theorem trayFoundEmpty_lane (s : State) (l : LaneId) : ∃ f, (trayFoundEmpty l s).1 = s.modLane l f
    ∧ ((s.laneRec l).autostop = false → ∀ x, f x = { x with state := .holding, trayEmpty := true })
    ∧ ((s.laneRec l).autostop = true → ∃ n m, ∀ x, f x = x.toRunout n m) := by
  cases h : (s.laneRec l).autostop with
  | false =>
    rw [trayFoundEmpty_holds h]
    exact ⟨_, rfl, fun _ _ => rfl, fun h => (by cases h)⟩
  | true =>
    rw [trayFoundEmpty_autostop h, State.toRunout_eq]
    exact ⟨_, rfl, fun h => (by cases h), fun _ => ⟨_, _, fun _ => rfl⟩⟩

/-- Settles O23: the retry, the exhaustion, the re-pulse and the page given up at an empty tray. -/
theorem pickTimersExpire : Obligations.PickTimersExpire := by
  refine ⟨fun s l => ⟨fun n i p sh timer picked page sheet => ⟨fun state retries => ?_, fun spent => ?_⟩,
    fun stale => ?_⟩,
    fun s l n i sh state wait picked sheet => ⟨fun paper => ?_, fun paper => ?_⟩⟩
  · have expired := misfeedExpiry_retries timer picked state ((State.retriesRemain_iff page sheet).2 retries)
    refine ⟨_, (exec_misfeedTimerExpiry s l).trans (congrArg act expired), ?_, ?_, fun j hj => ?_, fun k hk => ?_, rfl⟩
    · rw [State.toRetryWait, State.modLane_lane_self]
      rfl
    · rw [State.toRetryWait, State.modLane_pageAt, State.modPage_pageAt_self, page]
      rfl
    · rw [State.toRetryWait, State.modLane_entry, State.modPage_otherEntries _ _ _ j hj]
    · rw [State.toRetryWait, State.modLane_lane_ne _ _ _ _ hk.symm]
      rfl
  · have exhausted := misfeedExpiry_exhausted timer picked (by
      rcases spent with ⟨state, spent⟩ | runout
      · exact .inl ⟨state, by rw [Bool.eq_false_iff, ne_eq, State.retriesRemain_iff page sheet]; omega⟩
      · exact .inr runout)
    obtain ⟨u, t, moved, lane, others, entries, pool, event⟩ := misfeedExhausted_spec (s := s) (l := l) (i := i) (by
      rcases spent with ⟨state, _⟩ | runout
      · exact .inl ((LaneState.stoppable_iff _).2 (by tauto))
      · exact .inr runout)
    have ran := (exec_misfeedTimerExpiry s l).trans (congrArg act (exhausted.trans moved))
    refine ⟨⟨u, ran, ?_, fun j hj => ?_, ?_⟩, _, ran,
      run_latched _ _ (by rw [event]; rfl) (by rw [event]; exact EventState.occur_sources _ (by omega))⟩
    · rw [pageAt_of_entries entries, State.giveUpPick_pageAt]
    · rw [entry_of_entries entries, s.giveUpPick_otherEntries l i j hj]
    · rw [lane, pool]
      exact ⟨rfl, rfl, rfl, rfl, rfl, rfl, rfl, State.giveUpPick_pool l page, others⟩
  · obtain ⟨t, ran, paper, _, events, _⟩ := completes_unchanged
      ((exec_misfeedTimerExpiry s l).trans (congrArg act (misfeedExpiry_of_no_timer stale)))
    obtain ⟨lanes, entries, _⟩ := paper
    exact ⟨t, ran, lanes, entries, events⟩
  · refine begins_modLane
      ((exec_retryWaitEnd s l).trans (congrArg act (retryEnd_repulses wait picked state paper))) ?_
    rw [sheet]
    rfl
  · obtain ⟨f, empty, keeps, stops⟩ := trayFoundEmpty_lane (s.giveUpPick l i) l
    have same : (s.giveUpPick l i).laneRec l = s.laneRec l := by
      have gen : ((s.giveUpPick l i).lane l).gen = (s.lane l).gen := by rw [State.giveUpPick_lane_self]; rfl
      rw [State.laneRec, State.laneTables, gen, State.giveUpPick_frame]
      rfl
    rw [same] at keeps stops
    have ran := (exec_retryWaitEnd s l).trans (congrArg act (retryEnd_gives_up wait picked state paper))
    rw [empty] at ran
    refine ⟨_, ran, ?_, fun j hj => ?_, ?_, ?_⟩
    · rw [State.modLane_pageAt, State.giveUpPick_pageAt]
    · rw [State.modLane_entry, s.giveUpPick_otherEntries l i j hj]
    · rw [State.giveUpPick_frame]
      rfl
    · have others : OtherLanes s ((s.giveUpPick l i).modLane l f) l := fun k hk =>
        (State.modLane_otherLanes _ l f k hk).trans (s.giveUpPick_otherLanes l i k hk)
      rw [State.modLane_lane_self, State.giveUpPick_lane_self]
      cases stop : (s.laneRec l).autostop with
      | false =>
        rw [keeps stop]
        exact ⟨rfl, rfl, rfl, rfl, others, fun _ => ⟨rfl, rfl⟩, fun h => (by cases h)⟩
      | true =>
        obtain ⟨n, m, lane⟩ := stops stop
        rw [lane]
        exact ⟨rfl, rfl, rfl, rfl, others, fun h => (by cases h), fun _ => rfl⟩

end Sys2Proof.Machine
end

section
/-! The scheduled events of a lane (R45, R46, R93, R94): gate openings, gate closings and exits. -/

namespace Sys2Proof.Machine

/- One proof after another: every thread of a parallel elaboration reserves memory, which the check limits. -/
set_option Elab.async false

/-! ### When a sheet's events are due -/

theorem Sheet.opens_iff (h : Nat) (x : Sheet) :
    x.opens h = true ↔ x.gate = .none ∧ ∃ p, x.lead = some p ∧ p + off x.dImage x.pitch ≤ h := by
  unfold Sheet.opens
  cases x.lead <;> simp

theorem Sheet.closes_iff (h : Nat) (x : Sheet) :
    x.closes h = true ↔ x.gate = .opened ∧ ∃ p, x.trail = some p ∧ p + off x.dImage x.pitch ≤ h := by
  unfold Sheet.closes
  cases x.trail <;> simp

theorem Sheet.exits_iff (h : Nat) (x : Sheet) :
    x.exits h = true ↔ ∃ p, x.trail = some p ∧ p + off x.dExit x.pitch ≤ h := by
  unfold Sheet.exits
  cases x.trail <;> simp

/-- The oldest sheet that is due. -/
theorem find_first {sel : Sheet → Bool} {xs pre : List Sheet} {sh : Sheet} {post : List Sheet}
    (path : xs = pre ++ sh :: post) (before : ∀ x ∈ pre, sel x = false) (due : sel sh = true) :
    xs.find? sel = some sh :=
  List.find?_eq_some_iff_append.2 ⟨due, pre, post, path, fun x hx => by rw [before x hx]; rfl⟩

theorem find_none {sel : Sheet → Bool} {xs : List Sheet} (h : ∀ x ∈ xs, sel x = false) : xs.find? sel = none :=
  List.find?_eq_none.2 fun x hx => by simp [h x hx]

/-! ### Gate cells (R93, R94) -/

/-- What a gate event for a token does: `f` to the page it names, and a cell for the head; nothing when the token is
stale. -/
structure GateCell (s t : State) (l : LaneId) (token : Nat) (kind : HeadKind) (f : Page → Page) : Prop where
  live : ∀ i p, s.live token = some (i, p) → t.pageAt i = some (f p) ∧ OtherEntries s t i
    ∧ (t.head l).txQueue = (s.head l).txQueue ++ if s.linkUp (.head l) then [⟨kind, token⟩] else []
  stale : s.live token = none → t.entries = s.entries ∧ t.heads = s.heads
  link : (t.head l).link = (s.head l).link
  heads : ∀ m, m ≠ l → t.head m = s.head m
  events : t.events = s.events
  pool : t.pool = s.pool

theorem gateCell_of {s t : State} {l : LaneId} {token : Nat} {kind : HeadKind} {f : Page → Page}
    (stale : s.live token = none → t = s)
    (live : ∀ i p, s.live token = some (i, p) → t = (s.modPage i f).sendHead l kind token) :
    GateCell s t l token kind f := by
  cases named : s.live token with
  | none =>
    obtain rfl := stale named
    exact ⟨fun i p h => (by rw [named] at h; cases h), fun _ => ⟨rfl, rfl⟩, rfl, fun _ _ => rfl, rfl, rfl⟩
  | some x =>
    obtain ⟨i, p⟩ := x
    obtain rfl := live i p named
    refine ⟨fun j q h => ?_, fun h => ?_, State.sendHead_head_link _ l kind token,
      fun m hm => State.sendHead_head_ne _ kind token hm, by rw [State.sendHead_frame]; rfl,
      by rw [State.sendHead_frame]; rfl⟩
    · rw [named] at h
      cases h
      have entries : ((s.modPage i f).sendHead l kind token).entries = (s.modPage i f).entries := by
        rw [State.sendHead_frame]
      refine ⟨?_, fun j hj => ?_, State.sendHead_txQueue _ l kind token⟩
      · rw [pageAt_of_entries entries, State.modPage_pageAt_self, (State.live_entry named).2.1, Option.map_some]
      · rw [entry_of_entries entries, State.modPage_otherEntries s i f j hj]
    · rw [named] at h
      cases h

/-- The page of a gate that opens (R93). -/
def Page.gateOpened (up : Bool) (p : Page) : Page :=
  if p.image = .notOpen then if up then { p with image := .opened, cells := [] } else p.closeTruncated else p

/-- The page of a gate that closes (R94). -/
def Page.gateClosed (timeout : Nat) (p : Page) : Page :=
  if p.image = .opened then { p with imageTimer := some timeout } else p

/-- A change that leaves the page in an entry as it is changes nothing. -/
theorem State.modPage_self {s : State} {i : Fin 64} {f : Page → Page} {p : Page} (page : s.pageAt i = some p)
    (h : f p = p) : s.modPage i f = s := by
  change { s with entries := (s.modPage i f).entries } = s
  rw [State.modPage_eq_self page h]

theorem State.gateOpen_cell (s : State) (l : LaneId) (token : Nat) :
    GateCell s (s.gateOpen l token) l token .gateOpen (Page.gateOpened (s.linkUp (.head l))) := by
  refine gateCell_of (fun stale => by rw [State.gateOpen, stale]) fun i p live => ?_
  have page := (State.live_entry live).2.1
  rw [State.gateOpen, live]
  dsimp only
  congr 1
  split
  · rename_i notOpen
    split
    · rename_i up
      exact State.modPage_congr page (by rw [Page.gateOpened, if_pos notOpen, if_pos up])
    · rename_i down
      exact State.modPage_congr page (by rw [Page.gateOpened, if_pos notOpen, if_neg down])
  · rename_i differs
    exact (State.modPage_self page (by rw [Page.gateOpened, if_neg differs])).symm

theorem State.gateClose_cell (s : State) (l : LaneId) (token timeout : Nat) :
    GateCell s (s.gateClose l token timeout) l token .gateClose (Page.gateClosed timeout) := by
  refine gateCell_of (fun stale => by rw [State.gateClose, stale]) fun i p live => ?_
  have page := (State.live_entry live).2.1
  rw [State.gateClose, live]
  dsimp only
  congr 1
  split
  · rename_i opened
    exact State.modPage_congr page (by rw [Page.gateClosed, if_pos opened])
  · rename_i differs
    exact (State.modPage_self page (by rw [Page.gateClosed, if_neg differs])).symm

/-- A gate event after a change of a lane. -/
theorem GateCell.of_modLane {s t : State} {l k : LaneId} {g : Lane → Lane} {token : Nat} {kind : HeadKind}
    {f : Page → Page} (h : GateCell (s.modLane k g) t l token kind f) : GateCell s t l token kind f :=
  ⟨h.live, h.stale, h.link, h.heads, h.events, h.pool⟩

theorem State.setGate_gateOpen_cell (s : State) (l : LaneId) (sel : Sheet → Bool) (g : GateProgress) (token : Nat) :
    GateCell s ((s.setGate l sel g).gateOpen l token) l token .gateOpen (Page.gateOpened (s.linkUp (.head l))) :=
  (State.gateOpen_cell (s.setGate l sel g) l token).of_modLane

/-! ### The events at a new high-water position (R45, R46) -/

/-- The lane when the gate of one of its sheets advances. -/
theorem State.setGate_lane_self {s : State} {l : LaneId} {sel : Sheet → Bool} (g : GateProgress) {pre : List Sheet}
    {sh : Sheet} {post : List Sheet} (path : (s.lane l).path = pre ++ sh :: post)
    (before : ∀ x ∈ pre, sel x = false) (due : sel sh = true) :
    (s.setGate l sel g).lane l = { s.lane l with path := pre ++ { sh with gate := g } :: post } := by
  rw [State.setGate, State.modLane_lane_self, path, modSheet_append _ _ _ _ _ before due]

theorem handle_scheduled_opens {s : State} {l : LaneId} {sh : Sheet} (moves : (s.lane l).state.moving = true)
    (opens : (s.lane l).path.find? (Sheet.opens (s.lane l).high) = some sh) : handle (.scheduled l) s =
      ((s.setGate l (Sheet.opens (s.lane l).high) .opened).gateOpen l sh.token,
        [.assemble sh.token, .scheduled l]) := by
  rw [handle_scheduled, onScheduled]
  rw [if_pos moves, opens]

theorem handle_scheduled_closes {s : State} {l : LaneId} {sh : Sheet} (moves : (s.lane l).state.moving = true)
    (opens : (s.lane l).path.find? (Sheet.opens (s.lane l).high) = none)
    (closes : (s.lane l).path.find? (Sheet.closes (s.lane l).high) = some sh) : handle (.scheduled l) s =
      ((s.setGate l (Sheet.closes (s.lane l).high) .closed).gateClose l sh.token sh.imageTimeout, [.scheduled l]) := by
  rw [handle_scheduled, onScheduled]
  rw [if_pos moves, opens]
  dsimp only
  rw [closes]

theorem handle_scheduled_exits {s : State} {l : LaneId} (moves : (s.lane l).state.moving = true)
    (opens : (s.lane l).path.find? (Sheet.opens (s.lane l).high) = none)
    (closes : (s.lane l).path.find? (Sheet.closes (s.lane l).high) = none) : handle (.scheduled l) s =
      if (s.lane l).path.any (Sheet.exits (s.lane l).high) then
        (s.modLane l fun x => { x with path := x.path.eraseP (Sheet.exits (s.lane l).high) },
          [.runoutTest l, .pickTest l, .scheduled l])
      else (s, []) := by
  rw [handle_scheduled, onScheduled]
  rw [if_pos moves, opens]
  dsimp only
  rw [closes]

theorem handle_scheduled_still {s : State} {l : LaneId} (h : (s.lane l).state.moving = false) :
    handle (.scheduled l) s = (s, []) := by
  rw [handle_scheduled, onScheduled]
  rw [if_neg (by simp [h])]

/-- Settles O25: the three kinds of events in their order, and the test of RUNOUT. -/
theorem gateOpensAtImagingLine : Obligations.GateOpensAtImagingLine := by
  refine ⟨fun h x => ⟨x.opens_iff h, x.closes_iff h, x.exits_iff h⟩, fun s l h moves high => ?_,
    fun s l => ⟨handle_scheduled_still, fun runout path => ?_, fun stays => ?_⟩⟩
  · subst high
    refine ⟨fun pre sh post path before due => ?_, fun pre sh post path shut before due => ?_,
      fun pre sh post path quiet before due => ?_, fun quiet => ?_⟩
    · have cell := s.setGate_gateOpen_cell l (Sheet.opens (s.lane l).high) .opened sh.token
      refine ⟨_, handle_scheduled_opens moves (find_first path before due), ?_, fun k hk => ?_, fun i p live => ?_,
        cell.stale, cell.link, cell.heads, cell.events, cell.pool⟩
      · rw [lane_of_lanes (State.gateOpen_lanes _ _ _), State.setGate_lane_self _ path before due]
      · rw [lane_of_lanes (State.gateOpen_lanes _ _ _), State.setGate, State.modLane_lane_ne _ _ _ _ hk.symm]
      · obtain ⟨page, others, queue⟩ := cell.live i p live
        refine ⟨fun image up => ?_, fun image down => ?_, fun image => ?_, others, queue⟩
        · rw [page, Page.gateOpened, if_pos image, if_pos up]
        · rw [page, Page.gateOpened, if_pos image, if_neg (by simp [down])]
          rfl
        · rw [page, Page.gateOpened, if_neg image]
    · have cell := ((s.setGate l (Sheet.closes (s.lane l).high) .closed).gateClose_cell l sh.token
        sh.imageTimeout).of_modLane
      refine ⟨_, handle_scheduled_closes moves (find_none shut) (find_first path before due), ?_, fun k hk => ?_,
        fun i p live => ?_, cell.stale, cell.link, cell.heads, cell.events, cell.pool⟩
      · rw [lane_of_lanes (State.gateClose_lanes _ _ _ _), State.setGate_lane_self _ path before due]
      · rw [lane_of_lanes (State.gateClose_lanes _ _ _ _), State.setGate, State.modLane_lane_ne _ _ _ _ hk.symm]
      · obtain ⟨page, others, queue⟩ := cell.live i p live
        refine ⟨fun image => ?_, fun image => ?_, others, queue⟩
        · rw [page, Page.gateClosed, if_pos image]
        · rw [page, Page.gateClosed, if_neg image]
    · have exits := handle_scheduled_exits moves (find_none fun x hx => (quiet x hx).1)
        (find_none fun x hx => (quiet x hx).2)
      rw [if_pos (List.any_eq_true.2 ⟨sh, by simp [path], due⟩)] at exits
      refine handle_modLane exits ?_
      rw [path, List.eraseP_append_right _ (fun x hx => by simp [before x hx]), List.eraseP_cons_of_pos due]
    · rw [handle_scheduled_exits moves (find_none fun x hx => (quiet x hx).1)
        (find_none fun x hx => (quiet x hx).2.1), if_neg]
      rw [List.any_eq_true]
      rintro ⟨x, hx, due⟩
      simp [(quiet x hx).2.2] at due
  · refine handle_modLane (f := Lane.drained) (l := l) ?_ ?_
    · rw [handle_runoutTest, onRunoutTest, if_pos ⟨runout, path⟩]
    · rw [Lane.drained_eq, if_pos path, if_pos path]
  · rw [handle_runoutTest, onRunoutTest, if_neg (by tauto)]

end Sys2Proof.Machine
end

section
/-! The entry edges (R24, R42, R43, R44): leading edges with and without a page PICKED, and trailing edges. -/

namespace Sys2Proof.Machine

/- One proof after another: every thread of a parallel elaboration reserves memory, which the check limits. -/
set_option Elab.async false

/-! ### The sensor notes the edge (R24) -/

/-- The lane has noted the level of its entry sensor. -/
def State.edgeNoted (s : State) (l : LaneId) : State := s.modLane l fun x => { x with lastSensor := x.entryBlocked }

theorem State.edgeNoted_lane_self (s : State) (l : LaneId) :
    (s.edgeNoted l).lane l = { s.lane l with lastSensor := (s.lane l).entryBlocked } := by
  rw [State.edgeNoted, State.modLane_lane_self]

theorem State.edgeNoted_otherLanes (s : State) (l : LaneId) : OtherLanes s (s.edgeNoted l) l :=
  s.modLane_otherLanes l _

theorem handle_edge_leading {s : State} {l : LaneId} (moves : (s.lane l).state.moving = true)
    (blocked : (s.lane l).entryBlocked = true) (last : (s.lane l).lastSensor = false) :
    handle (.edge l) s = leadingEdgeTaken l (s.edgeNoted l) := by
  rw [handle_edge, onEdge, if_pos ⟨moves, by rw [blocked, last]; decide⟩]
  dsimp only
  rw [if_pos blocked, State.edgeNoted]

theorem handle_edge_trailing {s : State} {l : LaneId} (moves : (s.lane l).state.moving = true)
    (free : (s.lane l).entryBlocked = false) (last : (s.lane l).lastSensor = true) :
    handle (.edge l) s = trailingEdgeTaken l (s.edgeNoted l) := by
  rw [handle_edge, onEdge, if_pos ⟨moves, by rw [free, last]; decide⟩]
  dsimp only
  rw [if_neg (by simp [free]), State.edgeNoted]

theorem leadingEdgeTaken_picked {s : State} {l : LaneId} {i : Fin 64} (picked : s.pickedEntry l = some i) :
    leadingEdgeTaken l s = (s.leadingEdge l i, [.fgc]) := by
  rw [leadingEdgeTaken, picked]

theorem leadingEdgeTaken_unexpected {s : State} {l : LaneId} {i : Fin 64} {pos : SeqPos}
    (picked : s.pickedEntry l = none) (next : (s.lane l).nextPos = some pos) (granted : s.grantedEntry l = some i)
    (few : (s.lane l).path.length < 4) : leadingEdgeTaken l s = (s.unexpectedSheet l i pos, [.fgc]) := by
  rw [leadingEdgeTaken, picked, next, granted]
  exact if_pos few

theorem leadingEdgeTaken_overrun {s : State} {l : LaneId} (picked : s.pickedEntry l = none)
    (full : (s.lane l).nextPos = none ∨ s.grantedEntry l = none ∨ 4 ≤ (s.lane l).path.length) :
    leadingEdgeTaken l s = (s, [.jam l .overrun]) := by
  rw [leadingEdgeTaken, picked]
  cases next : (s.lane l).nextPos with
  | none => rfl
  | some pos =>
    cases granted : s.grantedEntry l with
    | none => rfl
    | some i => exact if_neg (by simp [next, granted] at full; omega)

theorem trailingEdgeTaken_ignored {s : State} {l : LaneId} (h : (s.lane l).sensor = none) :
    trailingEdgeTaken l s = (s, []) := by
  rw [trailingEdgeTaken, h]

theorem trailingEdgeTaken_taken {s : State} {l : LaneId} {token : Nat} (h : (s.lane l).sensor = some token) :
    trailingEdgeTaken l s = (s.trailingEdge l token, [.assemble token, .pickTest l]) := by
  rw [trailingEdgeTaken, h]

/-! ### A leading edge with a page PICKED (R42) -/

/-- The lane when the sheet of its PICKED page reaches the sensor, and the window `w` opens. -/
def Lane.reached (x : Lane) (token : Nat) (w : Window) : Lane :=
  { x with
    path := modSheet (Sheet.awaits token) (fun sh => { sh with lead := some x.high }) x.path
    loan := none
    misfeedTimer := none
    retryWait := none
    sensor := some token
    state := if x.state = .retryWait then .holding else x.state
    dfm := { x.dfm with windows := x.dfm.windows ++ [w] } }

theorem State.leadingEdge_lane_self (s : State) (l : LaneId) (i : Fin 64) : ∃ g, (s.leadingEdge l i).lane l =
    (s.lane l).reached (s.tokenOf i) (Machine.openWindow (s.tablesOf g) l (s.tokenOf i) (s.lane l).high) := by
  refine ⟨((s.pageAt i).map Page.genPick).getD (s.lane l).gen, ?_⟩
  rw [State.leadingEdge, State.openWindow, State.modDfm_lane_self, State.modLane_lane_self, State.modPage_lane]
  rfl

theorem State.leadingEdge_otherLanes (s : State) (l : LaneId) (i : Fin 64) : OtherLanes s (s.leadingEdge l i) l := by
  intro k hk
  rw [State.leadingEdge, State.openWindow, State.modDfm_lane_ne _ _ _ _ hk.symm, State.modLane_lane_ne _ _ _ _ hk.symm,
    State.modPage_lane]

/-- The page of a sheet that reaches the sensor (R42). -/
def Page.reached (p : Page) (high : Nat) : Page := { p with state := .inPath, lead := some (p.lead.getD high) }

theorem State.leadingEdge_entries (s : State) (l : LaneId) (i : Fin 64) :
    (s.leadingEdge l i).entries = (s.modPage i fun p => p.reached (s.lane l).high).entries := rfl

/-- A path list in which the first sheet that awaits its lead gets it. -/
theorem modSheet_awaits {token lead : Nat} {xs pre : List Sheet} {sh : Sheet} {post : List Sheet}
    (path : xs = pre ++ sh :: post) (named : sh.token = token) (waits : sh.lead = none)
    (before : ∀ x ∈ pre, x.token ≠ token ∨ x.lead ≠ none) :
    modSheet (Sheet.awaits token) (fun sh => { sh with lead := some lead }) xs
      = pre ++ { sh with lead := some lead } :: post := by
  rw [path, modSheet_append]
  · intro x hx
    rw [Bool.eq_false_iff, Sheet.awaits, ne_eq, Bool.and_eq_true, beq_iff_eq, Option.isNone_iff_eq_none]
    rcases before x hx with h | h <;> tauto
  · simp [Sheet.awaits, named, waits]

/-! ### An unexpected sheet (R43) -/

/-- The lane when an unexpected sheet `sh` reaches the sensor, and the window `w` opens. -/
def Lane.tookSheet (x : Lane) (sh : Sheet) (w : Window) : Lane :=
  { x with
    slots := x.slots.tail
    nextSeq := if x.slots = [] then x.nextSeq + 1 else x.nextSeq
    path := x.path ++ [sh]
    gap := .wait
    sensor := some sh.token
    dfm := { x.dfm with windows := x.dfm.windows ++ [w] } }

/-- An unexpected sheet is allocated, covers the sensor and gets its window. -/
def State.sheetTaken (s : State) (l : LaneId) (i : Fin 64) (pos : SeqPos) : State :=
  ((s.allocate l i pos (some (s.lane l).high)).modLane l fun x => { x with sensor := some (s.tokenOf i) }).openWindow l
    (s.lane l).gen (s.tokenOf i) (s.lane l).high

theorem State.sheetTaken_lane_self (s : State) (l : LaneId) (i : Fin 64) (pos : SeqPos) : ∃ sh w,
    (s.sheetTaken l i pos).lane l = (s.lane l).tookSheet sh w
      ∧ sh = s.newSheet l (s.lane l).gen (s.tokenOf i) (some (s.lane l).high)
      ∧ w.token = s.tokenOf i ∧ w.lead = (s.lane l).high ∧ w.next = 0 := by
  refine ⟨_, Machine.openWindow (s.tablesOf (s.lane l).gen) l (s.tokenOf i) (s.lane l).high, ?_, rfl, rfl, rfl, rfl⟩
  rw [State.sheetTaken, State.openWindow, State.modDfm_lane_self, State.modLane_lane_self, State.allocate_lane_self,
    Lane.tookSheet, Lane.takePos_eq]
  rfl

theorem State.sheetTaken_otherLanes (s : State) (l : LaneId) (i : Fin 64) (pos : SeqPos) :
    OtherLanes s (s.sheetTaken l i pos) l := by
  intro k hk
  rw [State.sheetTaken, State.openWindow, State.modDfm_lane_ne _ _ _ _ hk.symm, State.modLane_lane_ne _ _ _ _ hk.symm,
    State.allocate_lane_ne _ _ _ _ hk.symm]

theorem State.sheetTaken_entries (s : State) (l : LaneId) (i : Fin 64) (pos : SeqPos) :
    (s.sheetTaken l i pos).entries = (s.allocate l i pos (some (s.lane l).high)).entries := rfl

theorem State.sheetTaken_pageAt (s : State) (l : LaneId) (i : Fin 64) (pos : SeqPos) :
    (s.sheetTaken l i pos).pageAt i = some (Page.allocated l pos (s.lane l).gen (some (s.lane l).high)) := by
  rw [pageAt_of_entries (s.sheetTaken_entries l i pos), State.allocate_pageAt, if_pos rfl]

/-- The change that takes a lane in RAMP_DOWN back to RUNOUT, with the timers that it leaves (R43). -/
theorem State.unexpectedSheet_eq (s : State) (l : LaneId) (i : Fin 64) (pos : SeqPos) : ∃ f misfeed wait,
    s.unexpectedSheet l i pos = (s.sheetTaken l i pos).modLane l f
      ∧ f ((s.sheetTaken l i pos).lane l) = { (s.sheetTaken l i pos).lane l with
          state := if (s.lane l).state = .rampDown then .runout else (s.lane l).state
          runoutTimer := if (s.lane l).state = .rampDown then some (s.laneRec l).runoutMs else (s.lane l).runoutTimer
          misfeedTimer := misfeed
          retryWait := wait }
      ∧ ((s.lane l).state ≠ .rampDown ∨ (s.lane l).retryWait = none → misfeed = (s.lane l).misfeedTimer) := by
  obtain ⟨sh, w, lane, _⟩ := s.sheetTaken_lane_self l i pos
  have unexpected : s.unexpectedSheet l i pos =
      if (s.lane l).state = .rampDown then (s.sheetTaken l i pos).toRunout l else s.sheetTaken l i pos := rfl
  rw [lane, unexpected]
  by_cases rampDown : (s.lane l).state = .rampDown
  · have record : (s.sheetTaken l i pos).laneRec l = s.laneRec l := by
      rw [State.laneRec, State.laneTables, lane]
      rfl
    rw [if_pos rampDown, if_pos rampDown, if_pos rampDown, State.toRunout_eq, record]
    generalize ((s.sheetTaken l i pos).pickedSheet l).map Sheet.pickToEntry = afresh
    refine ⟨_, if (s.lane l).retryWait.isSome then afresh else (s.lane l).misfeedTimer, none, rfl, ?_, fun h => ?_⟩
    · have path : ((s.lane l).tookSheet sh w).path ≠ [] := by simp [Lane.tookSheet]
      rw [Lane.toRunout, if_neg path, if_neg path]
      rfl
    · have none' : (s.lane l).retryWait = none := by tauto
      rw [none']
      rfl
  · rw [if_neg rampDown, if_neg rampDown, if_neg rampDown]
    exact ⟨id, (s.lane l).misfeedTimer, (s.lane l).retryWait, by simp [State.modLane, State.setLane, State.lane], rfl,
      fun _ => rfl⟩

/-! ### A trailing edge (R44) -/

/-- The lane when the sheet with the token leaves the sensor. -/
def Lane.passed (x : Lane) (token : Nat) : Lane :=
  { x with
    path := modSheet Sheet.onSensor (fun sh => { sh with trail := some x.high }) x.path
    sensor := none
    gap := .since x.high
    dfm := { x.dfm with windows := x.dfm.windows.map fun w =>
      if w.token == token && w.trail.isNone then w.atTrail x.high else w } }

/-- A path list in which the first sheet on the sensor gets its trail. -/
theorem modSheet_onSensor {high : Nat} {xs pre : List Sheet} {sh : Sheet} {post : List Sheet}
    (path : xs = pre ++ sh :: post) (lead : sh.lead ≠ none) (trail : sh.trail = none)
    (before : ∀ x ∈ pre, x.lead = none ∨ x.trail ≠ none) :
    modSheet Sheet.onSensor (fun sh => { sh with trail := some high }) xs
      = pre ++ { sh with trail := some high } :: post := by
  rw [path, modSheet_append]
  · intro x hx
    rw [Bool.eq_false_iff, Sheet.onSensor, ne_eq, Bool.and_eq_true, Option.isNone_iff_eq_none,
      Option.isSome_iff_ne_none]
    rcases before x hx with h | h <;> tauto
  · simp [Sheet.onSensor, Option.isSome_iff_ne_none, lead, trail]

/-- The page whose trail is written, with its length and sonic part when its window `w` is found (R44, R72, R86). -/
def Page.passed (p : Page) (high : Nat) (w : Window) : Page :=
  let q := { p with trail := some (p.trail.getD high) }.withLength (Machine.lengthMm (high - w.lead) w.pitch)
    w.lenMin w.lenMax
  if w.sonicEnabled then q else q.sonicUnverified

theorem State.trailingEdge_lanes (s : State) (l : LaneId) (token : Nat) :
    (s.trailingEdge l token).lanes = (s.modLane l fun x => x.passed token).lanes := by
  unfold State.trailingEdge
  dsimp only
  split
  · rw [State.modToken_lanes, State.modToken_lanes]
    rfl
  · rw [State.modToken_lanes]
    rfl

theorem State.trailingEdge_frame (s : State) (l : LaneId) (token : Nat) : s.trailingEdge l token =
    { s with lanes := (s.trailingEdge l token).lanes, entries := (s.trailingEdge l token).entries } := by
  unfold State.trailingEdge
  dsimp only
  split
  · rw [State.modToken_frame, State.modToken_frame]
    rfl
  · rw [State.modToken_frame]
    rfl

theorem State.trailingEdge_stale {s : State} (l : LaneId) {token : Nat} (stale : s.live token = none) :
    (s.trailingEdge l token).entries = s.entries := by
  have stale' : ∀ f, (s.modLane l f).live token = none := fun _ => stale
  unfold State.trailingEdge
  dsimp only
  split
  · rw [State.modToken_stale _ token _ (stale' _), State.modToken_stale _ token _ (stale' _)]
    rfl
  · rw [State.modToken_stale _ token _ (stale' _)]
    rfl

/-- Two writes through a live token. -/
theorem State.modToken_twice {s : State} {token : Nat} {i : Fin 64} {p : Page} (live : s.live token = some (i, p))
    (f g : Page → Page) : ((s.modToken token f).modToken token g).pageAt i = some (g (f p))
      ∧ OtherEntries s ((s.modToken token f).modToken token g) i := by
  obtain ⟨_, others, live', _⟩ := s.modToken_live token f i p live
  obtain ⟨page, others', _⟩ := (s.modToken token f).modToken_live token g i _ live'
  exact ⟨page, fun j hj => (others' j hj).trans (others j hj)⟩

theorem State.trailingEdge_page {s : State} {l : LaneId} {token : Nat} {i : Fin 64} {p : Page} {w : Window}
    (live : s.live token = some (i, p))
    (window : (s.lane l).dfm.windows.find? (fun w => w.token == token && w.trail.isNone) = some w) :
    (s.trailingEdge l token).pageAt i = some (p.passed (s.lane l).high w)
      ∧ OtherEntries s (s.trailingEdge l token) i := by
  unfold State.trailingEdge
  dsimp only
  rw [window]
  dsimp only
  have live' : ∀ f, (s.modLane l f).live token = some (i, p) := fun _ => live
  exact State.modToken_twice (live' _) _ _

/-- The length and the flags of a page that had neither trail nor length (R86). -/
theorem Page.passed_of_new {p : Page} {high len : Nat} {w : Window} (trail : p.trail = none)
    (length : p.lengthMm = none) (hlen : len = Machine.lengthMm (high - w.lead) w.pitch) :
    (w.sonicEnabled = true ∨ p.sonic ≠ .pending → p.passed high w = { p with
        trail := some high, lengthMm := some len
        flags := { p.flags with
          long := p.flags.long || decide (w.lenMax < len), short := p.flags.short || decide (len < w.lenMin) } })
      ∧ (w.sonicEnabled = false → p.sonic = .pending → p.passed high w = { p with
        trail := some high, lengthMm := some len, sonic := .unverified
        flags := { p.flags with
          long := p.flags.long || decide (w.lenMax < len), short := p.flags.short || decide (len < w.lenMin)
          unverified := true } }) := by
  have sized : ({ p with trail := some (p.trail.getD high) } : Page).withLength
      (Machine.lengthMm (high - w.lead) w.pitch) w.lenMin w.lenMax = { p with
        trail := some high, lengthMm := some len
        flags := { p.flags with
          long := p.flags.long || decide (w.lenMax < len), short := p.flags.short || decide (len < w.lenMin) } } := by
    rw [Page.withLength, if_neg (by simp [length]), trail, ← hlen]
    rfl
  rw [Page.passed, sized]
  refine ⟨fun measured => ?_, fun unmeasured pending => ?_⟩
  · by_cases sonic : w.sonicEnabled = true
    · exact if_pos sonic
    · rw [if_neg sonic]
      exact if_neg (measured.resolve_left sonic)
  · rw [if_neg (by simp [unmeasured])]
    exact if_pos pending

/-! ### The obligation -/

/-- Settles O20: leading edges with a page PICKED and without, and trailing edges, after the edge is noted. -/
theorem leadingEdgeOfPickedPage : Obligations.LeadingEdgeOfPickedPage := by
  refine ⟨fun s l i p moves blocked last picked page => ?_, fun s l moves blocked last picked => ⟨?_, fun full => ?_⟩,
    fun s l moves free last => ⟨fun sensor => ?_, fun tok sensor => ?_⟩⟩
  · have taken := (handle_edge_leading moves blocked last).trans (leadingEdgeTaken_picked picked)
    obtain ⟨g, lane⟩ := (s.edgeNoted l).leadingEdge_lane_self l i
    have entries := (s.edgeNoted l).leadingEdge_entries l i
    rw [State.edgeNoted_lane_self] at lane entries
    refine ⟨_, taken, ?_, fun j hj => ?_, ?_⟩
    · rw [pageAt_of_entries entries, State.modPage_pageAt_self]
      exact congrArg _ page
    · rw [entry_of_entries entries, State.modPage_otherEntries _ _ _ j hj]
      rfl
    · rw [lane]
      exact ⟨blocked, rfl, rfl, rfl, rfl, rfl, rfl, rfl, rfl, modSheet_length _ _ _,
        ⟨_, rfl, rfl, rfl, rfl, rfl, rfl, rfl⟩,
        fun pre sh post path named waits before => modSheet_awaits path named waits before,
        fun k hk => ((s.edgeNoted l).leadingEdge_otherLanes l i k hk).trans (s.edgeNoted_otherLanes l k hk), rfl, rfl⟩
  · intro i pos next granted few
    have noted := s.edgeNoted_lane_self l
    have taken := (handle_edge_leading moves blocked last).trans (leadingEdgeTaken_unexpected (i := i) (pos := pos)
      picked (by rw [noted]; exact next) granted (by rw [noted]; exact few))
    obtain ⟨slot, number⟩ := Lane.nextPos_spec next
    rw [Lane.takePos_eq] at slot number
    obtain ⟨f, misfeed, wait, moved, lane, timer⟩ := (s.edgeNoted l).unexpectedSheet_eq l i pos
    obtain ⟨sh, w, sheetLane, sheet, token, lead, fresh⟩ := (s.edgeNoted l).sheetTaken_lane_self l i pos
    have page := (s.edgeNoted l).sheetTaken_pageAt l i pos
    rw [noted] at page
    rw [sheetLane] at lane
    rw [noted] at lane timer sheet lead
    have record : (s.edgeNoted l).laneRec l = s.laneRec l := State.modLane_laneRec s l l rfl
    rw [moved] at taken
    refine ⟨_, taken, ⟨_, (State.modLane_pageAt _ l f i).trans page, rfl, rfl, rfl, rfl, rfl, rfl, rfl, rfl, rfl, rfl, rfl,
      rfl, rfl, rfl, rfl⟩,
      (s.edgeNoted l).allocate_incarnation l i pos _, (s.edgeNoted l).allocate_otherEntries l i pos _, ?_⟩
    rw [State.modLane_lane_self, sheetLane, noted, lane, record]
    subst sheet
    refine ⟨⟨_, rfl, rfl, rfl, rfl, rfl, rfl⟩, rfl, rfl, blocked, rfl, rfl, slot, number, ⟨w, rfl, token, lead, fresh⟩,
      rfl, rfl, timer, fun k hk => ?_, rfl, rfl⟩
    rw [State.modLane_lane_ne _ _ _ _ hk.symm, State.sheetTaken_otherLanes _ l i pos k hk,
      s.edgeNoted_otherLanes l k hk]
  · have taken := (handle_edge_leading moves blocked last).trans (leadingEdgeTaken_overrun picked (by
      rw [State.edgeNoted_lane_self]
      exact full))
    refine ⟨_, taken, ?_, s.edgeNoted_otherLanes l, rfl⟩
    rw [State.edgeNoted_lane_self, blocked]
  · have taken := (handle_edge_trailing moves free last).trans (trailingEdgeTaken_ignored (by
      rw [State.edgeNoted_lane_self]
      exact sensor))
    refine ⟨_, taken, ?_, s.edgeNoted_otherLanes l, rfl⟩
    rw [State.edgeNoted_lane_self, free]
  · have taken := (handle_edge_trailing moves free last).trans (trailingEdgeTaken_taken (token := tok) (by
      rw [State.edgeNoted_lane_self]
      exact sensor))
    have lanes := lane_of_lanes ((s.edgeNoted l).trailingEdge_lanes l tok)
    have lane := lanes l
    rw [State.modLane_lane_self, State.edgeNoted_lane_self] at lane
    refine ⟨_, taken, ?_⟩
    rw [lane]
    refine ⟨free, rfl, rfl, rfl, rfl, rfl, rfl, fun pre sh post path lead trail before => ?_, ?_,
      fun stale => (s.edgeNoted l).trailingEdge_stale l stale, fun i p w live trail length window len hlen => ?_,
      fun k hk => ?_, ?_, ?_⟩
    · exact modSheet_onSensor path lead trail before
    · have windows : (fun w : Window =>
          if (w.token == tok && w.trail.isNone) = true then w.atTrail (s.lane l).high else w)
          = fun w => if w.token = tok ∧ w.trail = none then w.atTrail (s.lane l).high else w := by
        funext w
        simp only [Bool.and_eq_true, beq_iff_eq, Option.isNone_iff_eq_none]
      rw [Lane.passed, windows]
      rfl
    · obtain ⟨written, others⟩ := (s.edgeNoted l).trailingEdge_page (l := l) (live : (s.edgeNoted l).live tok = _) (by
        rw [State.edgeNoted_lane_self]
        exact window)
      rw [State.edgeNoted_lane_self] at written
      obtain ⟨measured, unmeasured⟩ := Page.passed_of_new trail length hlen
      exact ⟨fun h => written.trans (congrArg _ (measured h)), fun h k => written.trans (congrArg _ (unmeasured h k)),
        fun j hj => others j hj⟩
    · rw [lanes, State.modLane_lane_ne _ _ _ _ hk.symm, s.edgeNoted_otherLanes l k hk]
    · rw [State.trailingEdge_frame]
      rfl
    · rw [State.trailingEdge_frame]
      rfl

end Sys2Proof.Machine
end

section
/-! The motor code of a speed, the number of samples of a page and its length (R62, R70, R86). -/

namespace Sys2Proof.Machine

/- One proof after another: every thread of a parallel elaboration reserves memory, which the check limits. -/
set_option Elab.async false

/-- One mm/s more is a motor code higher by 2 or 3 (R62). -/
theorem motorCode_succ (v : Nat) : motorCode v + 2 ≤ motorCode (v + 1) ∧ motorCode (v + 1) ≤ motorCode v + 3 := by
  unfold motorCode
  omega

theorem motorCode_mono : Monotone motorCode :=
  monotone_nat_of_le_succ fun v => (Nat.le_add_right _ 2).trans (motorCode_succ v).1

/-- Sample k of a page exists exactly when its position lies before the page's length of 8 x L (R70). -/
theorem lt_sampleCount_iff {pitch : Nat} (h : 0 < pitch) (counts k : Nat) :
    k < sampleCount counts pitch ↔ k * pitch < 8 * counts := by
  rw [sampleCount, ← Nat.succ_le_iff, Nat.le_div_iff_mul_le h, Nat.succ_mul]
  omega

/-- A length below the limit is the quotient of R86, whose bounds are those of a division. -/
theorem lengthMm_bounds {counts pitch m : Nat} (h : 0 < pitch) (len : lengthMm counts pitch = m) (below : m < 4095) :
    2 * m * pitch ≤ 16 * counts + pitch ∧ 16 * counts + pitch < 2 * (m + 1) * pitch := by
  have quotient : (16 * counts + pitch) / (2 * pitch) = m := by
    unfold lengthMm at len
    omega
  rw [Nat.mul_right_comm 2 m, Nat.mul_right_comm 2 (m + 1), ← quotient]
  exact ⟨Nat.mul_div_le _ _, Nat.lt_mul_div_succ _ (by omega)⟩

/-- Settles O31: the motor code by its step of 2 or 3, the count and the length by the division that defines each. -/
theorem codesAndLengths : Obligations.CodesAndLengths := by
  refine ⟨⟨fun _ => rfl, rfl, rfl, motorCode_succ, fun _ _ h => motorCode_mono h, fun v h => ?_⟩,
    fun counts pitch h => ⟨lt_sampleCount_iff h counts, rfl, fun m _ len => lengthMm_bounds h len.1 len.2⟩⟩
  calc motorCode v ≤ motorCode 1500 := motorCode_mono h
    _ = 4095 := rfl

end Sys2Proof.Machine
end

section
/-! One lane's speed (R57, R60, R61): what a ramp, a new target and a jam make of it, and what leaves it sound. -/

namespace Sys2Proof.Machine

/- One proof after another: every thread of a parallel elaboration reserves memory, which the check limits. -/
set_option Elab.async false

/-! ### Ramps (R56, R57) -/

/-- A ramp whose ends are at most `b` stays at most `b` up to its last period. -/
theorem Ramp.speedAt_le {r : Ramp} {k b : Nat} (origin : r.origin ≤ b) (target : r.target ≤ b) (slope : 0 < r.slope)
    (hk : k ≤ r.slope) : r.speedAt k ≤ b := by
  have rise : ((r.target : Int) - r.origin) * k ≤ ((b : Int) - r.origin) * r.slope := by
    calc ((r.target : Int) - r.origin) * k ≤ ((b : Int) - r.origin) * k :=
          Int.mul_le_mul_of_nonneg_right (by omega) (by omega)
      _ ≤ ((b : Int) - r.origin) * r.slope := Int.mul_le_mul_of_nonneg_left (by omega) (by omega)
  have quotient := Int.tdiv_le_tdiv (c := r.slope) (by omega) rise
  rw [Int.mul_tdiv_cancel _ (by omega)] at quotient
  unfold Ramp.speedAt
  omega

/-! ### What leaves a lane's speed sound -/

/-- The speed and the ramp are as they were, and the lane is in OFF, IDLE or JAMMED only if it was. -/
def Lane.Steady (x y : Lane) : Prop :=
  y.speed = x.speed ∧ y.ramp = x.ramp ∧ (y.state.still = true → x.state.still = true)

theorem LaneState.still_of_ite {c : Prop} [Decidable c] {a b : LaneState} (moves : a.still = false)
    (h : (if c then a else b).still = true) : b.still = true := by
  split at h
  · simp [moves] at h
  · exact h

theorem Lane.Steady.moves {x y : Lane} (speed : y.speed = x.speed) (ramp : y.ramp = x.ramp)
    (state : y.state.still = false) : x.Steady y :=
  ⟨speed, ramp, fun r => by simp [state] at r⟩

theorem Lane.Steady.trans {x y z : Lane} (h : x.Steady y) (k : y.Steady z) : x.Steady z := by
  obtain ⟨speed, ramp, still⟩ := h
  obtain ⟨speed', ramp', still'⟩ := k
  exact ⟨speed'.trans speed, ramp'.trans ramp, fun r => still (still' r)⟩

theorem Lane.Steady.drained (x : Lane) : x.Steady x.drained := by
  rw [Lane.drained_eq]
  exact ⟨rfl, rfl, LaneState.still_of_ite rfl⟩

theorem Lane.Steady.takePos (x : Lane) : x.Steady x.takePos := by
  rw [Lane.takePos_eq]
  exact ⟨rfl, rfl, id⟩

namespace Lane.SpeedSound

variable {x y : Lane}

theorem steady (h : x.SpeedSound) (k : x.Steady y) : y.SpeedSound := by
  obtain ⟨range, ends, still⟩ := h
  obtain ⟨speed, ramp, stands⟩ := k
  rw [Lane.SpeedSound, speed, ramp]
  exact ⟨range, ends, fun r => still (stands r)⟩

/-- A belt that stands without a ramp may be in any state. -/
theorem standing (speed : y.speed = 0) (ramp : y.ramp = none) : y.SpeedSound := by
  simp [Lane.SpeedSound, speed, ramp]

/-- A new target in range leaves the speed or sets it to the target, and a ramp starts at the speed (R55, R56). -/
theorem retarget (h : x.SpeedSound) {e : Nat} (slope : Nat) (range : e ≤ 1500)
    (still : x.state.still = true → e = 0) : (x.retarget e slope).SpeedSound := by
  obtain ⟨speed, ends, stands⟩ := h
  unfold Lane.retarget
  split
  · exact ⟨speed, ends, stands⟩
  · rename_i moved
    have moves : ¬ x.state.still = true := fun r => moved <| by
      simp [Lane.heading, stands r, still r]
    split
    · exact ⟨range, nofun, fun r => absurd r moves⟩
    · split
      · exact ⟨speed, nofun, fun r => absurd r moves⟩
      · rename_i steep _
        refine ⟨speed, ?_, fun r => absurd r moves⟩
        rintro _ ⟨⟩
        exact ⟨speed, range, Nat.pos_of_ne_zero steep⟩

/-- A speed control period keeps the speed between the ends of its ramp (R57). -/
theorem rampPeriod (h : x.SpeedSound) : x.rampPeriod.SpeedSound := by
  obtain ⟨speed, ends, still⟩ := h
  cases ramp : x.ramp with
  | none =>
    have same : x.rampPeriod = x := by rw [Lane.rampPeriod, ramp]
    rw [same]
    exact ⟨speed, ends, still⟩
  | some r =>
    obtain ⟨origin, target, runs⟩ := ends r ramp
    have moves : ¬ x.state.still = true := fun rest => by simp [still rest] at ramp
    rcases Nat.lt_or_eq_of_le (Nat.succ_le_of_lt runs) with runs | last
    · rw [Lane.rampPeriod_of_running ramp runs]
      refine ⟨Ramp.speedAt_le origin target (by omega) runs.le, ?_, fun r => absurd r moves⟩
      rintro _ ⟨⟩
      exact ⟨origin, target, runs⟩
    · rw [Lane.rampPeriod_of_last ramp last]
      exact ⟨target, nofun, fun r => absurd r moves⟩

end Lane.SpeedSound

/-! ### The target speeds of the banks (R174) -/

theorem GroupRec.load_speeds (bs : List Byte) :
    (GroupRec.load bs).1.targetSpeed ≤ 1500 ∧ (GroupRec.load bs).1.throttleSpeed ≤ 1500 := by
  simp only [GroupRec.load, clamp]
  omega

theorem Tables.zeroed_speedsInRange : Tables.zeroed.SpeedsInRange := fun g => by
  simp [Tables.zeroed, GroupRec.zeroed]

/-- Only a GROUP record changes the target speeds, and its fields are clamped (R174). -/
theorem Tables.load_speedsInRange {t u : Tables} {id : TableId} {i : Nat} {bs : List Byte} {c : Bool}
    (h : t.SpeedsInRange) (loaded : t.load id i bs = some (u, c)) : u.SpeedsInRange := by
  cases id with
  | group =>
    simp only [Tables.load] at loaded
    split at loaded
    · cases loaded
      intro g
      by_cases e : i = g.val
      · subst e
        simpa using GroupRec.load_speeds bs
      · simpa [Vector.getElem_set_ne, e] using h g
    · cases loaded
  | lane | cls | channel =>
    simp only [Tables.load] at loaded
    split at loaded
    · cases loaded
      exact h
    · cases loaded
  | profile | markmap =>
    simp only [Tables.load] at loaded
    split at loaded
    · obtain ⟨_, _, k⟩ := Option.map_eq_some_iff.1 loaded
      cases k
      exact h
    · cases loaded

end Sys2Proof.Machine
end

section
/-! The speeds of all lanes (R61): every step keeps them in 0-1,500, and 0 in OFF, IDLE and JAMMED. -/

namespace Sys2Proof.Machine

/- One proof after another: every thread of a parallel elaboration reserves memory, which the check limits. -/
set_option Elab.async false

/-! ### Frames of the banks -/

@[simp] theorem State.sendHead_banks (s : State) (l : LaneId) (kind : HeadKind) (token : Nat) :
    (s.sendHead l kind token).banks = s.banks := by
  rw [State.sendHead_frame]

@[simp] theorem State.modToken_banks (s : State) (token : Nat) (f : Page → Page) :
    (s.modToken token f).banks = s.banks := by
  rw [State.modToken_frame]

@[simp] theorem State.takeOne_banks (s : State) (l : LaneId) (ls : List LaneId) :
    (s.takeOne l ls).2.banks = s.banks := by
  rw [(s.takeOne_spec l ls).2]

@[simp] theorem State.gateOpen_banks (s : State) (l : LaneId) (token : Nat) : (s.gateOpen l token).banks = s.banks :=
  ((Kept.refl s).gateOpen l token).banks

@[simp] theorem State.gateClose_banks (s : State) (l : LaneId) (token timeout : Nat) :
    (s.gateClose l token timeout).banks = s.banks :=
  ((Kept.refl s).gateClose l token timeout).banks

@[simp] theorem State.setFillState_banks (s : State) (c : ChanId) (f : FillState) :
    (s.setFillState c f).banks = s.banks :=
  ((Kept.refl s).setFillState c f).banks

/-! ### Updates -/

namespace SpeedsSound

variable {s t : State}

/-- An update beside the lanes and the banks. -/
theorem same (h : SpeedsSound s) (lanes : t.lanes = s.lanes := by simp) (banks : t.banks = s.banks := by simp) :
    SpeedsSound t := by
  obtain ⟨ranges, sound⟩ := h
  exact ⟨by rwa [banks], fun l => by rw [lane_of_lanes lanes]; exact sound l⟩

/-- A change of one lane, and beside the lanes and the banks. -/
theorem ofLane (h : SpeedsSound s) {l : LaneId} (others : OtherLanes s t l) (own : (t.lane l).SpeedSound)
    (banks : t.banks = s.banks) : SpeedsSound t := by
  refine ⟨by rw [banks]; exact h.1, fun k => ?_⟩
  by_cases e : k = l
  · rw [e]
    exact own
  · rw [others k e]
    exact h.2 k

theorem modLane (h : SpeedsSound s) (l : LaneId) {f : Lane → Lane}
    (hf : (s.lane l).Steady (f (s.lane l)) := by exact ⟨rfl, rfl, id⟩) : SpeedsSound (s.modLane l f) :=
  h.ofLane (s.modLane_otherLanes l f) (by rw [State.modLane_lane_self]; exact (h.2 l).steady hf) rfl

/-- A change to a state other than OFF, IDLE and JAMMED. -/
theorem unstill (h : SpeedsSound s) (l : LaneId) {f : Lane → Lane}
    (state : (f (s.lane l)).state.still = false := by exact rfl)
    (speed : (f (s.lane l)).speed = (s.lane l).speed := by exact rfl)
    (ramp : (f (s.lane l)).ramp = (s.lane l).ramp := by exact rfl) : SpeedsSound (s.modLane l f) :=
  h.modLane l (.moves speed ramp state)

theorem setRaw (h : SpeedsSound s) (c : Fin 20) (src : Nat) (level : Bool) : SpeedsSound (s.setRaw c src level) :=
  h.same

theorem occur (h : SpeedsSound s) (c : Fin 20) (src : Nat) : SpeedsSound (s.occur c src) := h.same

theorem modPage (h : SpeedsSound s) (i : Fin 64) (f : Page → Page) : SpeedsSound (s.modPage i f) := h.same

theorem modToken (h : SpeedsSound s) (token : Nat) (f : Page → Page) : SpeedsSound (s.modToken token f) := h.same

theorem freeEntry (h : SpeedsSound s) (i : Fin 64) : SpeedsSound (s.freeEntry i) := h.same

theorem modDfm (h : SpeedsSound s) (l : LaneId) (f : Dfm → Dfm) : SpeedsSound (s.modDfm l f) := h.modLane l

theorem modBatch (h : SpeedsSound s) (l : LaneId) (f : Batch → Batch) : SpeedsSound (s.modBatch l f) := h.modLane l

theorem foldl {α : Type} (h : SpeedsSound s) (f : State → α → State)
    (hf : ∀ u x, SpeedsSound u → SpeedsSound (f u x)) (xs : List α) : SpeedsSound (xs.foldl f s) :=
  List.foldlRecOn xs f h fun u hu x _ => hf u x hu

/-- Steady changes of all lanes. -/
theorem steady (h : SpeedsSound s) (banks : t.banks = s.banks) (lanes : ∀ l, (s.lane l).Steady (t.lane l)) :
    SpeedsSound t :=
  ⟨by rw [banks]; exact h.1, fun l => (h.2 l).steady (lanes l)⟩

/-- One steady change of every lane. -/
theorem mapped (h : SpeedsSound s) {f : Lane → Lane} (lanes : t.lanes = s.lanes.map f) (banks : t.banks = s.banks)
    (hf : ∀ x : Lane, x.Steady (f x) := by exact fun _ => ⟨rfl, rfl, id⟩) : SpeedsSound t :=
  h.steady banks fun l => by simpa [State.lane, lanes] using hf s.lanes[l]

theorem setBank (h : SpeedsSound s) (b : Fin 2) {x : Tables} (hx : x.SpeedsInRange) (lanes : t.lanes = s.lanes)
    (banks : t.banks = s.banks.set b x) : SpeedsSound t := by
  refine ⟨fun c => ?_, fun l => by rw [lane_of_lanes lanes]; exact h.2 l⟩
  rw [banks]
  by_cases e : b.val = c.val
  · simpa [e] using hx
  · simpa [Vector.getElem_set_ne, e] using h.1 c

/-! ### The Double-Feed Monitor -/

theorem evalDrift (h : SpeedsSound s) (l : LaneId) : SpeedsSound (s.evalDrift l) :=
  (h.modDfm l _).setRaw _ _ _

theorem toggled (h : SpeedsSound s) (l : LaneId) (f : Dfm → Dfm) (level : Bool) :
    SpeedsSound (((s.modDfm l f).setRaw Ev.sonicDegraded l.val level).evalDrift l) :=
  ((h.modDfm l f).setRaw _ _ _).evalDrift l

theorem airSample (h : SpeedsSound s) (l : LaneId) (a : Nat) : SpeedsSound (s.airSample l a) := by
  unfold State.airSample
  split
  · unfold State.calibrationSample
    dsimp only
    split_ifs
    · exact h.toggled l _ _
    · exact h.modDfm l _
    · exact h.modDfm l _
    · exact (h.modDfm l _).toggled l _ _
  · unfold State.baselineSample
    dsimp only
    split_ifs
    · exact h
    · exact (h.modDfm l _).evalDrift l
    · exact (h.modDfm l _).toggled l _ _
    · exact h.modDfm l _
  · exact h

theorem onAir (h : SpeedsSound s) (l : LaneId) : SpeedsSound (Machine.onAir l s).1 := by
  unfold Machine.onAir
  dsimp only
  split_ifs
  · exact (h.modDfm l _).airSample l _
  · exact h.modDfm l _
  · exact h

theorem onSamples (h : SpeedsSound s) (l : LaneId) : SpeedsSound (Machine.onSamples l s).1 := by
  unfold Machine.onSamples
  split
  · exact (h.modDfm l _).foldl _ (fun _ _ k => k.modToken _ _) _
  · exact h

/-! ### The Feed Group Controller (R52, R55) -/

theorem groupRec_speeds (h : SpeedsSound s) (l : LaneId) :
    (s.groupRec l).targetSpeed ≤ 1500 ∧ (s.groupRec l).throttleSpeed ≤ 1500 := by
  have tables (g : Gen) : (s.tablesOf g).SpeedsInRange := by
    unfold State.tablesOf
    split
    · exact h.1 _
    · exact h.1 _
  exact tables _ _

theorem targetOf_le (h : SpeedsSound s) (l : LaneId) : s.targetOf l ≤ 1500 := by
  obtain ⟨target, throttle⟩ := h.groupRec_speeds l
  unfold State.targetOf
  split_ifs
  · exact throttle
  · exact target
  · exact Nat.zero_le _

/-- In OFF, IDLE and JAMMED the target is 0 (R55). -/
theorem targetOf_still {l : LaneId} (still : (s.lane l).state.still = true) : s.targetOf l = 0 := by
  refine State.targetOf_of_not_driven ?_
  revert still
  cases (s.lane l).state <;> decide

/-- The pass of the FGC gives each lane a target in range, and leaving RAMP_UP keeps its speed (R30, R55). -/
theorem onFgc (h : SpeedsSound s) : SpeedsSound (Machine.onFgc s).1 := by
  change SpeedsSound s.fgcPass
  refine ⟨by rw [s.fgcPass_frame]; exact h.1, fun l => ?_⟩
  obtain ⟨x, hx⟩ : ∃ x, x = (if (s.lane l).adoptingFrom = none
      then (s.lane l).retarget (s.targetOf l) (s.groupRec l).slopeMs else s.lane l) := ⟨_, rfl⟩
  have targeted : x.SpeedSound := by
    rw [hx]
    split
    · exact (h.2 l).retarget _ (h.targetOf_le l) targetOf_still
    · exact h.2 l
  rw [State.fgcPass_lane hx]
  split
  · exact targeted.steady (.moves rfl rfl rfl)
  · exact targeted

/-! ### The Lane Transport Controller -/

theorem toRunout (h : SpeedsSound s) (l : LaneId) : SpeedsSound (s.toRunout l) := by
  rw [State.toRunout_eq]
  refine h.unstill l ?_
  rw [Lane.toRunout]
  split <;> rfl

theorem drained (h : SpeedsSound s) (l : LaneId) : SpeedsSound (s.modLane l Lane.drained) := h.modLane l (.drained _)

theorem toRampUp (h : SpeedsSound s) (l : LaneId) : SpeedsSound (s.toRampUp l) :=
  ((h.unstill l).modDfm l _).evalDrift l

/-- A lane whose belt stands comes to rest (R33, R49). -/
theorem toRest (h : SpeedsSound s) (l : LaneId) (speed : (s.lane l).speed = 0) (ramp : (s.lane l).ramp = none) :
    SpeedsSound (s.toRest l) := by
  refine h.ofLane (s.toRest_otherLanes l) ?_ (by rw [s.toRest_frame])
  rw [State.toRest_lane_self]
  exact .standing speed ramp

theorem onSpeedCheck (h : SpeedsSound s) (l : LaneId) : SpeedsSound (Machine.onSpeedCheck l s).1 := by
  unfold Machine.onSpeedCheck
  split_ifs with ends rest
  · rw [State.leaveRampUp, if_pos ends]
    exact h.unstill l
  · obtain ⟨_, speed, ramp⟩ := rest
    exact h.toRest l speed ramp
  · exact h

theorem onHolds (h : SpeedsSound s) : SpeedsSound (Machine.onHolds s).1 := by
  have held : SpeedsSound s.holdAll := h.steady (by rw [s.holdAll_frame]) fun l => by
    rw [State.holdAll_lane]
    exact ⟨rfl, rfl, LaneState.still_of_ite rfl⟩
  have drawn (l : LaneId) (ls : List LaneId) : SpeedsSound (s.holdAll.takeOne l ls).2 := held.same
  unfold Machine.onHolds feedNext
  split
  · exact held.unstill _
  · exact held
  · exact (drawn _ _).unstill _

theorem allocate (h : SpeedsSound s) (l : LaneId) (i : Fin 64) (pos : SeqPos) (edge : Option Nat) :
    SpeedsSound (s.allocate l i pos edge) :=
  (h.same : SpeedsSound (s.setEntry i _)).modLane l (.trans (.takePos _) ⟨rfl, rfl, id⟩)

theorem trayFoundEmpty (h : SpeedsSound s) (l : LaneId) : SpeedsSound (Machine.trayFoundEmpty l s).1 := by
  unfold Machine.trayFoundEmpty
  split
  · exact h.toRunout l
  · exact h.unstill l

theorem onPickTest (h : SpeedsSound s) (l : LaneId) : SpeedsSound (Machine.onPickTest l s).1 := by
  unfold Machine.onPickTest
  split
  · split
    · split
      · exact (h.allocate l _ _ none).modLane l
      · exact h.unstill l
      · exact h.unstill l
    · exact h.trayFoundEmpty l
  · exact h

theorem leadingEdge (h : SpeedsSound s) (l : LaneId) (i : Fin 64) : SpeedsSound (s.leadingEdge l i) := by
  obtain ⟨g, lane⟩ := s.leadingEdge_lane_self l i
  refine h.ofLane (s.leadingEdge_otherLanes l i) ?_ rfl
  rw [lane]
  exact (h.2 l).steady ⟨rfl, rfl, LaneState.still_of_ite rfl⟩

theorem unexpectedSheet (h : SpeedsSound s) (l : LaneId) (i : Fin 64) (pos : SeqPos) :
    SpeedsSound (s.unexpectedSheet l i pos) := by
  have taken : SpeedsSound (s.sheetTaken l i pos) := by
    obtain ⟨sh, w, lane, _⟩ := s.sheetTaken_lane_self l i pos
    refine h.ofLane (s.sheetTaken_otherLanes l i pos) ?_ rfl
    rw [lane]
    exact (h.2 l).steady ⟨rfl, rfl, id⟩
  have unexpected : s.unexpectedSheet l i pos =
      if (s.lane l).state = .rampDown then (s.sheetTaken l i pos).toRunout l else s.sheetTaken l i pos := rfl
  rw [unexpected]
  split
  · exact taken.toRunout l
  · exact taken

theorem trailingEdge (h : SpeedsSound s) (l : LaneId) (token : Nat) : SpeedsSound (s.trailingEdge l token) :=
  (h.modLane l (f := fun x => x.passed token)).same (s.trailingEdge_lanes l token) (by rw [s.trailingEdge_frame]; rfl)

theorem onEdge (h : SpeedsSound s) (l : LaneId) : SpeedsSound (Machine.onEdge l s).1 := by
  have noted := h.modLane l (f := fun x => { x with lastSensor := x.entryBlocked })
  unfold Machine.onEdge
  dsimp only
  split
  · split
    · unfold leadingEdgeTaken
      split
      · exact noted.leadingEdge l _
      · split
        · split
          · exact noted.unexpectedSheet l _ _
          · exact noted
        · exact noted
    · unfold trailingEdgeTaken
      split
      · exact noted.trailingEdge l _
      · exact noted
  · exact h

/-- A jam stops the belt at once (R48, R60). -/
theorem onJam (h : SpeedsSound s) (l : LaneId) (cause : JamCause) : SpeedsSound (Machine.onJam l cause s).1 := by
  unfold Machine.onJam
  split
  · have stopped := (s.toJammed_stopped l cause).1
    exact h.ofLane (s.toJammed_otherLanes l cause) (.standing stopped.speed stopped.ramp) (by rw [s.toJammed_frame])
  · exact h

theorem adoptEnabled (h : SpeedsSound s) (l : LaneId) : SpeedsSound (s.adoptEnabled l) := by
  unfold State.adoptEnabled
  split
  case h_1 off =>
    split
    · exact h.modLane l ⟨rfl, rfl, fun _ => by rw [off]; rfl⟩
    · exact h
  case h_2 idle =>
    split
    · exact h
    · exact h.modLane l ⟨rfl, rfl, fun _ => by rw [idle]; rfl⟩
  case h_3 | h_4 | h_5 | h_6 =>
    split
    · exact h
    · exact h.toRunout l
  case h_7 | h_8 | h_9 => exact h

theorem onScheduled (h : SpeedsSound s) (l : LaneId) : SpeedsSound (Machine.onScheduled l s).1 := by
  have gated (sel : Sheet → Bool) (g : GateProgress) : SpeedsSound (s.setGate l sel g) := h.modLane l
  have opened (g : GateProgress) (sel : Sheet → Bool) (token : Nat) :
      SpeedsSound ((s.setGate l sel g).gateOpen l token) := (gated sel g).same
  have closed (g : GateProgress) (sel : Sheet → Bool) (token timeout : Nat) :
      SpeedsSound ((s.setGate l sel g).gateClose l token timeout) := (gated sel g).same
  unfold Machine.onScheduled
  dsimp only
  split
  · split
    · exact opened _ _ _
    · split
      · exact closed _ _ _ _
      · split
        · exact h.modLane l
        · exact h
  · exact h

/-! ### Release and the Table Banks -/

theorem takePage (h : SpeedsSound s) (l : LaneId) (i : Fin 64) (p : Page) :
    SpeedsSound (Machine.takePage l i p s).1 := by
  have taken := h.modBatch l fun b => { b with opened := true }
  unfold Machine.takePage
  dsimp only
  split_ifs
  · exact taken.occur _ _
  · exact taken
  · exact taken

theorem admitCopies (h : SpeedsSound s) (l : LaneId) (i : Fin 64) (token size : Nat) (cs : List ChanId) :
    SpeedsSound (s.admitCopies l i token size cs) := by
  have copied := h.foldl (State.enqueue token size) (fun _ _ k => k.same rfl rfl) cs
  exact ((copied.modPage i _).modBatch l _).setRaw _ _ _

theorem onAttempt (h : SpeedsSound s) (l : LaneId) (token : Nat) : SpeedsSound (Machine.onAttempt l token s).1 := by
  unfold Machine.onAttempt
  split
  · exact h
  · split
    · split
      · exact h
      · split
        · exact h.admitCopies l _ _ _ _
        · unfold State.refuse
          split
          · exact h.modBatch l _
          · exact h
    · exact h

theorem switchTo (h : SpeedsSound s) (l : LaneId) (g : Gen) : SpeedsSound (s.switchTo l g) :=
  (h.modLane l (f := fun x => { x with gen := g, adopted := true, adoptingFrom := some x.gen })).same rfl rfl

/-! ### Each sub-act -/

theorem handle (task : Task) (h : SpeedsSound s) : SpeedsSound (Machine.handle task s).1 := by
  cases task with
  | fgc => exact h.onFgc
  | holds => exact h.onHolds
  | pickTest l => exact h.onPickTest l
  | edge l => exact h.onEdge l
  | jam l c => exact h.onJam l c
  | scheduled l => exact h.onScheduled l
  | adoptLtc l => exact (h.adoptEnabled l).setRaw _ _ _
  | adoptDfm l => exact (h.modDfm l _).evalDrift l
  | adoptFgc l => exact (h.modLane l (f := fun x => { x with adoptingFrom := none })).onFgc
  | speedCheck l => exact h.onSpeedCheck l
  | runoutTest l =>
    rw [handle_runoutTest, onRunoutTest]
    split
    · exact h.drained l
    · exact h
  | enterRunout l =>
    rw [handle_enterRunout, onEnterRunout]
    split
    · exact h.toRunout l
    · exact h
  | air l => exact h.onAir l
  | samples l => exact h.onSamples l
  | assemble token =>
    rw [handle_assemble, onAssemble]
    split
    · exact h
    · split
      · dsimp only
        split
        · exact h.same
        · exact h.same
      · exact h
  | adopt l =>
    rw [handle_adopt, onAdopt]
    split
    · exact h
    · rename_i g _
      split
      · exact h
      · exact h.switchTo l g
  | retire =>
    rw [handle_retire, onRetire]
    split
    · split
      · exact h.mapped (f := fun x => { x with adopted := false }) rfl rfl
      · exact h
    · exact h
  | release l =>
    rw [handle_release, onRelease]
    split
    · split
      · exact h.takePage l _ _
      · exact h
    · exact h
    · exact h
  | adoptMoment l =>
    rw [handle_adoptMoment, onAdoptMoment]
    split <;> exact h
  | adoptAll ls =>
    rw [handle_adoptAll, onAdoptAll]
    unfold adoptNext
    split
    · exact h
    · exact h
    · exact h.same
  | adoptChannels old =>
    rw [handle_adoptChannels, onAdoptChannels]
    split <;> exact h
  | adoptLsq l => exact h.modBatch l _
  | adoptEnd => exact h.occur _ _
  | newBatch l token =>
    rw [handle_newBatch, onNewBatch]
    split
    · exact h
    · exact (h.modBatch l _).occur _ _
  | lsqMarks l token action blankDrop =>
    rw [handle_lsqMarks, onLsqMarks]
    split
    · exact h
    · dsimp only
      split
      · exact (h.modBatch l _).freeEntry _
      · exact h.modBatch l _
  | lsqNumber l token =>
    rw [handle_lsqNumber, onLsqNumber]
    split
    · exact h
    · dsimp only
      split
      · exact ((h.modPage _ _).modBatch l _).occur _ _
      · exact (h.modPage _ _).modBatch l _
  | attempt l token => exact h.onAttempt l token
  | retries c =>
    rw [handle_retries, onRetries]
    unfold retryNext
    split
    · exact h
    · exact h.same
  | fillEval c =>
    rw [handle_fillEval, onFillEval]
    split
    · exact h
    · exact h.same
  | gapPick l =>
    rw [handle_gapPick, onGapPick]
    split <;> exact h
  | jamChecks l =>
    rw [handle_jamChecks, onJamChecks]
    split_ifs <;> exact h

/-! ### The commands that touch a lane or a bank beside their sub-acts -/

theorem forwardStep (h : SpeedsSound s) (l : LaneId) (a : BitVec 10) : SpeedsSound (Machine.forwardStep l a s).1 := by
  by_cases rest : (s.lane l).state.resting = true
  · rw [forwardStep_of_resting a rest]
    exact h.modLane l
  · by_cases new : ((s.lane l).high : Int) < (s.lane l).nextCounter
    · rw [forwardStep_of_new a (by simpa using rest) new]
      exact h.modLane l
    · rw [forwardStep_of_not_new a (by simpa using rest) new]
      exact h.modLane l

theorem reverseStep (h : SpeedsSound s) (l : LaneId) : SpeedsSound (Machine.reverseStep l s).1 := by
  unfold Machine.reverseStep
  split
  · exact h
  · exact h.modLane l

theorem trayChange (h : SpeedsSound s) (l : LaneId) (paper : Bool) : SpeedsSound (Machine.trayChange l paper s).1 := by
  have noted := h.modLane l (f := fun x => { x with trayPaper := paper })
  unfold Machine.trayChange
  dsimp only
  split
  · exact noted.modLane l
  · exact noted

theorem rampPeriod (h : SpeedsSound s) (l : LaneId) : SpeedsSound (s.modLane l Lane.rampPeriod) :=
  h.ofLane (s.modLane_otherLanes l _) (by rw [State.modLane_lane_self]; exact (h.2 l).rampPeriod) rfl

theorem giveUpPick (h : SpeedsSound s) (l : LaneId) (i : Fin 64) : SpeedsSound (s.giveUpPick l i) :=
  (h.modLane l (f := fun x => x.gaveUp (s.tokenOf i))).freeEntry i

theorem misfeedExhausted (h : SpeedsSound s) (l : LaneId) (i : Fin 64) :
    SpeedsSound (Machine.misfeedExhausted l i s).1 := by
  have given := (h.giveUpPick l i).occur Ev.feedFailure l.val
  unfold Machine.misfeedExhausted
  dsimp only
  split_ifs
  · exact given.toRunout l
  · exact given.drained l
  · exact given

theorem misfeedExpiry (h : SpeedsSound s) (l : LaneId) : SpeedsSound (Machine.misfeedExpiry l s).1 := by
  unfold Machine.misfeedExpiry
  split
  · split_ifs
    · exact (h.modPage _ _).unstill l
    · exact h.misfeedExhausted l _
    · exact h.misfeedExhausted l _
    · exact h
  · exact h

theorem retryEnd (h : SpeedsSound s) (l : LaneId) : SpeedsSound (Machine.retryEnd l s).1 := by
  unfold Machine.retryEnd
  split
  · split_ifs
    · exact h.unstill l
    · exact (h.giveUpPick l _).trayFoundEmpty l
    · exact h
  · exact h

theorem waitExpiry (h : SpeedsSound s) (l : LaneId) : SpeedsSound (Machine.waitExpiry l s).1 := by
  unfold Machine.waitExpiry
  split
  · split
    · exact h
    · exact (h.modBatch l _).setRaw _ _ _
  · exact h

theorem startLane (h : SpeedsSound s) (l : LaneId) : SpeedsSound (Machine.startLane l s).1.1 := by
  unfold Machine.startLane
  split
  · exact h
  · split
    case h_1 => exact (h.modLane l (f := Lane.zeroCounter)).toRampUp l
    case h_2 => exact h.unstill l
    case h_3 => exact h.toRampUp l
    all_goals exact h

/-- The belt of a jammed lane stands already (R61). -/
theorem clearLane (h : SpeedsSound s) (l : LaneId) : SpeedsSound (Machine.clearLane l s).1.1 := by
  unfold Machine.clearLane
  split
  · rename_i jammed
    obtain ⟨_, _, still⟩ := h.2 l
    obtain ⟨speed, ramp⟩ := still (by rw [jammed]; rfl)
    exact (h.toRest l speed ramp).modLane l
  · exact h

theorem rescanPage (h : SpeedsSound s) (token n : Nat) : SpeedsSound (Machine.rescanPage token n s).1.1 := by
  unfold Machine.rescanPage
  split
  · exact h
  · split
    · exact h
    · split
      · exact h
      · exact (h.freeEntry _).modLane _

theorem cancelSlot (h : SpeedsSound s) (l : LaneId) (pos : SeqPos) : SpeedsSound (Machine.cancelSlot l pos s).1.1 := by
  unfold Machine.cancelSlot
  split
  · exact h.modLane l
  · exact h

theorem loadTable (h : SpeedsSound s) (table index : Nat) (record : List Byte) :
    SpeedsSound (Machine.loadTable table index record s).1.1 := by
  unfold Machine.loadTable
  split
  · exact h
  · split
    · exact h
    · split
      · exact h
      · rename_i loaded
        split
        · exact h
        · exact h
        · exact h.setBank s.otherBank (Tables.load_speedsInRange (h.1 _) loaded) rfl rfl

theorem copyComplete (h : SpeedsSound s) : SpeedsSound (Machine.copyComplete s).1 := by
  have copied : SpeedsSound { s with banks := s.banks.set s.otherBank s.banks[s.activeBank], otherRole := .shadow } :=
    h.setBank s.otherBank (h.1 s.activeBank) rfl rfl
  unfold Machine.copyComplete
  split
  · exact copied.occur _ _
  · exact h

end SpeedsSound

/-! ### Resets -/

/-- No belt moves, as after a reset (R60). -/
def State.BeltsStand (s : State) : Prop := ∀ l, (s.lane l).speed = 0 ∧ (s.lane l).ramp = none

theorem State.adoptAtReset_banks (s : State) : s.adoptAtReset.banks = s.banks := by
  unfold State.adoptAtReset
  split
  · rfl
  · dsimp only [State.retireTo]
    split <;> simp

theorem State.cancelAtReset_banks (s : State) (i : Fin 64) : (s.cancelAtReset i).banks = s.banks := by
  unfold State.cancelAtReset
  split
  · split <;> simp
  · rfl

theorem State.BeltsStand.restAtReset {s : State} (h : s.BeltsStand) (l : LaneId) : (s.restAtReset l).BeltsStand := by
  intro k
  by_cases e : l = k
  · subst e
    simpa [State.restAtReset] using h l
  · simpa [State.restAtReset, e] using h k

namespace SpeedsSound

variable {s : State}

theorem ofStand (banks : ∀ b : Fin 2, (s.banks[b]).SpeedsInRange) (h : s.BeltsStand) : SpeedsSound s :=
  ⟨banks, fun l => .standing (h l).1 (h l).2⟩

theorem hardReset (s : State) (cause : ResetCause) : SpeedsSound (s.hardReset cause) := by
  refine ofStand (fun b => ?_) fun l => by simp [State.hardReset, State.lane, Lane.hardReset, Lane.reset]
  simpa [State.hardReset, State.reset] using Tables.zeroed_speedsInRange

/-- A line reset stops every belt and leaves the banks' content (R60, R183). -/
theorem lineReset (h : SpeedsSound s) : SpeedsSound s.lineReset := by
  have cleared : (allEntries.foldl State.cancelAtReset s).clearAtReset.adoptAtReset.banks = s.banks :=
    (State.adoptAtReset_banks _).trans (foldl_field State.banks State.cancelAtReset State.cancelAtReset_banks _ s)
  have stopped (u : State) : State.BeltsStand { u with lanes := u.lanes.map Lane.lineReset } := fun l => by
    simp [State.lane, Lane.lineReset, Lane.hardReset, Lane.reset]
  refine SpeedsSound.occur (SpeedsSound.foldl (SpeedsSound.foldl (ofStand ?_ ?_) State.laneRawsAtReset ?_ _)
    State.chanRawsAtReset ?_ _) _ _
  · rw [foldl_field State.banks State.restAtReset (fun _ _ => rfl), cleared]
    exact h.1
  · exact List.foldlRecOn (motive := State.BeltsStand) _ _ (stopped _) fun _ stand l _ => stand.restAtReset l
  · exact fun _ _ k => (((k.setRaw _ _ _).setRaw _ _ _).setRaw _ _ _).setRaw _ _ _
  · exact fun _ _ k => (k.setRaw _ _ _).setRaw _ _ _

end SpeedsSound

/-! ### The obligation -/

theorem speedsSound_kept : KeptByCommands SpeedsSound where
  same h lanes banks := h.same lanes banks
  task task _ h := h.handle task
  tick h := h.mapped (f := Lane.tick) rfl rfl
  hardReset _ _ _ := .hardReset _ _
  lineReset h := h.lineReset
  forwardStep l a _ h := h.forwardStep l a
  reverseStep l _ h := h.reverseStep l
  entrySensor l _ _ h := h.modLane l
  trayChange l paper _ h := h.trayChange l paper
  rampPeriod l _ h := h.rampPeriod l
  misfeedExpiry l _ h := h.misfeedExpiry l
  retryEnd l _ h := h.retryEnd l
  waitExpiry l _ h := h.waitExpiry l
  startLane l _ h := h.startLane l
  clearLane l _ h := h.clearLane l
  rescanPage token n _ h := h.rescanPage token n
  cancelSlot l pos _ h := h.cancelSlot l pos
  loadTable table index record _ h := h.loadTable table index record
  makePending h := h.mapped (f := fun x => { x with adopted := false }) rfl rfl
  copyComplete h := h.copyComplete

/-- Settles O11: new targets, ramps, jams and rests keep the speeds in range, by the ranges of the banks' target speeds;
all else leaves speed and ramp. -/
theorem stepKeepsSpeedsInRange : Obligations.StepKeepsSpeedsInRange := fun _ _ h ran => speedsSound_kept.step h ran

end Sys2Proof.Machine
end

section
/-! The baseline of a lane's monitor, and what an air sample makes of the monitor (R74, R76, R77, R79, R80). -/

namespace Sys2Proof.Machine

/- One proof after another: every thread of a parallel elaboration reserves memory, which the check limits. -/
set_option Elab.async false

/-! ### The baseline step and the drift level (R77, R80) -/

/-- A division that rounds toward zero, by divisions that round down. -/
theorem tdiv_eight (x : Int) : x.tdiv 8 = if 0 ≤ x then x / 8 else -(-x / 8) := by
  split
  · exact Int.tdiv_eq_ediv_of_nonneg ‹_›
  · rw [← Int.tdiv_eq_ediv_of_nonneg (by omega), Int.neg_tdiv, Int.neg_neg]

/-- The step never goes below 0, so nothing is cut off (R77). -/
theorem baselineStep_cast (b a : Nat) : (baselineStep b a : Int) = (b : Int) + Int.tdiv (16 * (a : Int) - b) 8 := by
  rw [baselineStep, tdiv_eight]
  split <;> omega

theorem baselineStep_between (b a : Nat) : min b (16 * a) ≤ baselineStep b a ∧ baselineStep b a ≤ max b (16 * a) := by
  have step := baselineStep_cast b a
  rw [tdiv_eight] at step
  split at step <;> omega

theorem baselineStep_of_near {b a : Nat} (near : (16 * (a : Int) - b).natAbs < 8) : baselineStep b a = b := by
  have step := baselineStep_cast b a
  rw [tdiv_eight] at step
  split at step <;> omega

theorem Dfm.calibrated_iff (d : Dfm) : d.calibrated = true ↔ d.calibration = .done := by
  unfold Dfm.calibrated
  cases d.calibration <;> simp

theorem Dfm.drift_iff (d : Dfm) : d.drift = true ↔
    d.calibration = .done ∧ d.degraded = false ∧ (d.bref16 / 8 : Int) < |(d.b16 : Int) - d.bref16| := by
  rw [Dfm.drift, Bool.and_eq_true, Bool.and_eq_true, Dfm.calibrated_iff, Bool.not_eq_true', decide_eq_true_eq,
    and_assoc, Int.abs_eq_natAbs]
  exact and_congr_right fun _ => and_congr_right fun _ => by omega

/-! ### The monitor after an air sample -/

theorem validAir_iff (a : Nat) : validAir a = true ↔ 64 ≤ a ∧ a ≤ 1022 := by
  simp [validAir]

theorem validAir_eq_false {a : Nat} (h : a < 64 ∨ 1022 < a) : validAir a = false := by
  rw [Bool.eq_false_iff, Ne, validAir_iff]
  omega

/-- The monitor with its drift raw evaluated (R80). -/
def Dfm.evaluated (d : Dfm) : Dfm := { d with driftRaw := d.drift }

/-- The monitor that enters DEGRADED: every window that is not finished is void (R72, R79). -/
def Dfm.fallen (d : Dfm) : Dfm :=
  { d with degraded := true, windows := d.windows.map fun w : Window => if w.finished then w else w.voided }.evaluated

/-- The monitor that a calibration run ends with success (R76). -/
def Dfm.adjusted (d : Dfm) (sum : Nat) : Dfm :=
  { d with b16 := sum, bref16 := sum, calibration := .done, badAir := 0, degraded := false }.evaluated

/-- The monitor after a calibration sample (R76). -/
def Dfm.calibrationSampled (d : Dfm) (count sum a : Nat) : Dfm :=
  if validAir a then
    if 16 ≤ count + 1 then d.adjusted (sum + a) else { d with calibration := .running (count + 1) (sum + a) }
  else if d.degraded then { d with calibration := .none } else { d with calibration := .none }.fallen

/-- The monitor after a baseline sample (R77, R79). -/
def Dfm.baselineSampled (d : Dfm) (a : Nat) : Dfm :=
  if validAir a then { d with b16 := baselineStep d.b16 a, badAir := 0 }.evaluated
  else if 8 ≤ d.badAir + 1 then { d with badAir := d.badAir + 1 }.fallen else { d with badAir := d.badAir + 1 }

/-- The monitor after an air sample (R74). -/
def Dfm.airSampled (d : Dfm) (a : Nat) : Dfm :=
  match d.calibration with
  | .running count sum => d.calibrationSampled count sum a
  | .done => if d.degraded then d else d.baselineSampled a
  | .none => d

/-- The change of one lane that puts `d` in place of its monitor, with whatever it brings beside the lanes. -/
def State.DfmBecomes (s t : State) (l : LaneId) (d : Dfm) : Prop :=
  t.lane l = { s.lane l with dfm := d } ∧ OtherLanes s t l

namespace State.DfmBecomes

variable {s t : State} {l : LaneId} {d : Dfm}

theorem refl (s : State) (l : LaneId) : s.DfmBecomes s l (s.lane l).dfm := ⟨rfl, fun _ _ => rfl⟩

theorem modDfm (h : s.DfmBecomes t l d) (f : Dfm → Dfm) : s.DfmBecomes (t.modDfm l f) l (f d) := by
  obtain ⟨own, others⟩ := h
  refine ⟨?_, fun k hk => ?_⟩
  · rw [State.modDfm_lane_self, own]
  · rw [State.modDfm_lane_ne _ _ _ _ hk.symm, others k hk]

theorem setRaw (h : s.DfmBecomes t l d) (c : Fin 20) (src : Nat) (level : Bool) :
    s.DfmBecomes (t.setRaw c src level) l d := by
  obtain ⟨own, others⟩ := h
  have same (k : LaneId) := lane_of_lanes (t.setRaw_lanes c src level) k
  exact ⟨(same l).trans own, fun k hk => (same k).trans (others k hk)⟩

theorem evalDrift (h : s.DfmBecomes t l d) : s.DfmBecomes (t.evalDrift l) l d.evaluated :=
  (h.modDfm fun d => d.evaluated).setRaw _ _ _

theorem enterDegraded (h : s.DfmBecomes t l d) : s.DfmBecomes (t.enterDegraded l) l d.fallen :=
  ((h.modDfm _).setRaw _ _ _).evalDrift

theorem calibrated (h : s.DfmBecomes t l d) (sum : Nat) : s.DfmBecomes (t.calibrated l sum) l (d.adjusted sum) :=
  ((h.modDfm _).setRaw _ _ _).evalDrift

end State.DfmBecomes

section
variable {s : State} {l : LaneId} (a : Nat)

theorem State.airSample_of_running {count sum : Nat} (run : (s.lane l).dfm.calibration = .running count sum) :
    s.airSample l a = s.calibrationSample l count sum a := by
  rw [airSample, run]

theorem State.airSample_of_done (done : (s.lane l).dfm.calibration = .done) :
    s.airSample l a = if (s.lane l).dfm.degraded then s else s.baselineSample l a := by
  rw [airSample, done]

theorem State.airSample_of_none (none : (s.lane l).dfm.calibration = .none) : s.airSample l a = s := by
  rw [airSample, none]

end

theorem State.calibrationSample_becomes (s : State) (l : LaneId) (count sum a : Nat) :
    s.DfmBecomes (s.calibrationSample l count sum a) l ((s.lane l).dfm.calibrationSampled count sum a) := by
  have now := DfmBecomes.refl s l
  unfold State.calibrationSample Dfm.calibrationSampled
  dsimp only
  split_ifs
  · exact now.calibrated _
  · exact now.modDfm _
  · exact now.modDfm _
  · exact (now.modDfm _).enterDegraded

theorem State.baselineSample_becomes (s : State) (l : LaneId) (a : Nat) :
    s.DfmBecomes (s.baselineSample l a) l ((s.lane l).dfm.baselineSampled a) := by
  have now := DfmBecomes.refl s l
  unfold State.baselineSample Dfm.baselineSampled
  dsimp only
  split_ifs
  · exact (now.modDfm _).evalDrift
  · exact (now.modDfm _).enterDegraded
  · exact now.modDfm _

/-- The use of an air sample, as it is seen in the lanes: the lane's monitor takes it (R74). -/
theorem State.airSample_becomes (s : State) (l : LaneId) (a : Nat) :
    s.DfmBecomes (s.airSample l a) l ((s.lane l).dfm.airSampled a) := by
  cases calibration : (s.lane l).dfm.calibration with
  | running count sum =>
    rw [airSample_of_running a calibration, Dfm.airSampled, calibration]
    exact s.calibrationSample_becomes l count sum a
  | done =>
    rw [airSample_of_done a calibration, Dfm.airSampled, calibration]
    dsimp only
    split
    · exact .refl s l
    · exact s.baselineSample_becomes l a
  | none =>
    rw [airSample_of_none a calibration, Dfm.airSampled, calibration]
    exact .refl s l

end Sys2Proof.Machine
end

section
/-! The air baseline (R67, R76, R77, R78, R79): every step keeps B16 of a calibrated GOOD lane in 1,024-16,352, and the
calibration run and the bad-air count in their ranges. -/

namespace Sys2Proof.Machine

/- One proof after another: every thread of a parallel elaboration reserves memory, which the check limits. -/
set_option Elab.async false

/-! ### One monitor -/

namespace Dfm.Sound

variable {d : Dfm}

theorem evaluated (h : d.Sound) : d.evaluated.Sound := h

/-- The run that goes on, begins or ends without success (R75, R76). -/
theorem uncalibrated (h : d.Sound) {c : Calibration} (run : c.Sound) (undone : c ≠ .done) :
    Dfm.Sound { d with calibration := c } := by
  obtain ⟨_, _, b16, bref16, badAir, good⟩ := h
  exact ⟨run, fun done => absurd ((Dfm.calibrated_iff _).1 done) undone, b16, bref16, badAir, good⟩

theorem endRun (h : d.Sound) : d.endRun.Sound := by
  unfold Dfm.endRun
  split
  · exact h.uncalibrated trivial nofun
  · exact h
  · exact h

theorem begun (h : d.Sound) (sonicEnabled : Bool) : (d.begun sonicEnabled).Sound := by
  cases sonicEnabled
  · exact h.uncalibrated trivial nofun
  · exact h.uncalibrated (by simp [Calibration.Sound]) nofun

/-- DEGRADED asks least of the monitor: the count may have reached 8 (R79). -/
theorem fallen (run : d.calibration.Sound) (b16 : d.b16 ≤ 16352) (bref16 : d.bref16 ≤ 16352) (badAir : d.badAir ≤ 8) :
    d.fallen.Sound := ⟨run, nofun, b16, bref16, badAir, nofun⟩

/-- The sum of sixteen valid samples is the new baseline (R76). -/
theorem calibrationSampled (h : d.Sound) {count sum : Nat} (run : d.calibration = .running count sum) (a : Nat) :
    (d.calibrationSampled count sum a).Sound := by
  have ⟨sound, _, b16, bref16, badAir, _⟩ := h
  rw [run] at sound
  obtain ⟨few, low, high⟩ := sound
  unfold Dfm.calibrationSampled
  split_ifs with valid last degraded
  · rw [validAir_iff] at valid
    exact ⟨trivial, fun _ _ => by simp only [Dfm.adjusted, Dfm.evaluated]; omega,
      by simp only [Dfm.adjusted, Dfm.evaluated]; omega, by simp only [Dfm.adjusted, Dfm.evaluated]; omega,
      Nat.zero_le _, fun _ => Nat.zero_le _⟩
  · rw [validAir_iff] at valid
    exact h.uncalibrated (by simp only [Calibration.Sound]; omega) nofun
  · exact h.uncalibrated trivial nofun
  · exact fallen trivial b16 bref16 badAir

/-- A step of the baseline stays between two values of its range, and the eighth bad sample degrades (R77, R79). -/
theorem baselineSampled (h : d.Sound) (calibrated : d.calibrated = true) (good : d.degraded = false) (a : Nat) :
    (d.baselineSampled a).Sound := by
  obtain ⟨run, low, b16, bref16, badAir, few⟩ := h
  have low := low calibrated good
  have few := few good
  unfold Dfm.baselineSampled
  split_ifs with valid eighth
  · obtain ⟨above, below⟩ := baselineStep_between d.b16 a
    rw [validAir_iff] at valid
    refine evaluated ⟨run, fun _ _ => ?_, ?_, bref16, Nat.zero_le _, fun _ => Nat.zero_le _⟩
    all_goals
      dsimp only
      omega
  · exact fallen run b16 bref16 (Nat.succ_le_succ few)
  · refine ⟨run, fun _ _ => low, b16, bref16, ?_, fun _ => ?_⟩
    all_goals
      dsimp only
      omega

theorem airSampled (h : d.Sound) (a : Nat) : (d.airSampled a).Sound := by
  unfold Dfm.airSampled
  split
  case h_1 run => exact h.calibrationSampled run a
  case h_2 done =>
    split
    case isTrue => exact h
    case isFalse good => exact h.baselineSampled ((Dfm.calibrated_iff d).2 done) (by simpa using good) a
  case h_3 => exact h

end Dfm.Sound

/-! ### All lanes: updates -/

namespace AirSound

variable {s t : State}

/-- An update beside the lanes. -/
theorem same (h : AirSound s) (lanes : t.lanes = s.lanes := by simp) : AirSound t :=
  fun l => by rw [lane_of_lanes lanes]; exact h l

/-- A change of one lane, and beside the lanes. -/
theorem ofLane (h : AirSound s) {l : LaneId} (others : OtherLanes s t l) (own : (t.lane l).dfm.Sound) : AirSound t := by
  intro k
  by_cases e : k = l
  · rw [e]
    exact own
  · rw [others k e]
    exact h k

/-- A change of one lane that leaves its monitor, or its windows, grid and drift raw only. -/
theorem modLane (h : AirSound s) (l : LaneId) {f : Lane → Lane}
    (hf : (s.lane l).dfm.Sound → (f (s.lane l)).dfm.Sound := by exact id) : AirSound (s.modLane l f) :=
  h.ofLane (s.modLane_otherLanes l f) (by rw [State.modLane_lane_self]; exact hf (h l))

theorem modDfm (h : AirSound s) (l : LaneId) {f : Dfm → Dfm}
    (hf : (s.lane l).dfm.Sound → (f (s.lane l).dfm).Sound := by exact id) : AirSound (s.modDfm l f) := h.modLane l hf

theorem modBatch (h : AirSound s) (l : LaneId) (f : Batch → Batch) : AirSound (s.modBatch l f) := h.modLane l

theorem setRaw (h : AirSound s) (c : Fin 20) (src : Nat) (level : Bool) : AirSound (s.setRaw c src level) := h.same

theorem occur (h : AirSound s) (c : Fin 20) (src : Nat) : AirSound (s.occur c src) := h.same

theorem modPage (h : AirSound s) (i : Fin 64) (f : Page → Page) : AirSound (s.modPage i f) := h.same

theorem freeEntry (h : AirSound s) (i : Fin 64) : AirSound (s.freeEntry i) := h.same

theorem evalDrift (h : AirSound s) (l : LaneId) : AirSound (s.evalDrift l) := (h.modDfm l).setRaw _ _ _

theorem foldl {α : Type} (h : AirSound s) (f : State → α → State) (hf : ∀ u x, AirSound u → AirSound (f u x))
    (xs : List α) : AirSound (xs.foldl f s) :=
  List.foldlRecOn xs f h fun u hu x _ => hf u x hu

/-- Changes of all lanes that leave their monitors. -/
theorem monitors (h : AirSound s) (dfm : ∀ l, (t.lane l).dfm = (s.lane l).dfm) : AirSound t :=
  fun l => by rw [dfm]; exact h l

theorem mapped (h : AirSound s) {f : Lane → Lane} (lanes : t.lanes = s.lanes.map f)
    (hf : ∀ x : Lane, (f x).dfm = x.dfm := by exact fun _ => rfl) : AirSound t :=
  h.monitors fun l => by simp [State.lane, lanes, hf]

/-! ### The Double-Feed Monitor -/

theorem airSample (h : AirSound s) (l : LaneId) (a : Nat) : AirSound (s.airSample l a) := by
  obtain ⟨own, others⟩ := s.airSample_becomes l a
  exact h.ofLane others (by rw [own]; exact (h l).airSampled a)

theorem onAir (h : AirSound s) (l : LaneId) : AirSound (Machine.onAir l s).1 := by
  unfold Machine.onAir
  dsimp only
  split_ifs
  · exact (h.modDfm l).airSample l _
  · exact h.modDfm l
  · exact h

theorem onSamples (h : AirSound s) (l : LaneId) : AirSound (Machine.onSamples l s).1 := by
  unfold Machine.onSamples
  split
  · exact (h.modDfm l).foldl _ (fun _ _ k => k.same (State.modToken_lanes _ _ _)) _
  · exact h

/-- An adoption may end a run without success (R88). -/
theorem onAdoptDfm (h : AirSound s) (l : LaneId) : AirSound (Machine.onAdoptDfm l s).1 := by
  refine AirSound.evalDrift (h.modDfm l fun sound => ?_) l
  split
  · exact sound
  · exact sound.uncalibrated trivial nofun

/-! ### The Lane Transport Controller -/

theorem toRunout (h : AirSound s) (l : LaneId) : AirSound (s.toRunout l) := by
  rw [State.toRunout_eq]
  exact h.modLane l

theorem drained (h : AirSound s) (l : LaneId) : AirSound (s.modLane l Lane.drained) :=
  h.modLane l fun sound => by rwa [Lane.drained_eq]

/-- The pass of the FGC leaves every monitor (R55, R30). -/
theorem onFgc (h : AirSound s) : AirSound (Machine.onFgc s).1 := by
  change AirSound s.fgcPass
  refine h.monitors fun l => ?_
  obtain ⟨x, hx⟩ : ∃ x, x = (if (s.lane l).adoptingFrom = none
      then (s.lane l).retarget (s.targetOf l) (s.groupRec l).slopeMs else s.lane l) := ⟨_, rfl⟩
  have targeted : x.dfm = (s.lane l).dfm := by
    rw [hx]
    split
    · rw [Lane.retarget_keeps]
    · rfl
  rw [State.fgcPass_lane hx]
  split
  · exact targeted
  · exact targeted

/-- A run begins when the lane goes to RAMP_UP (R75). -/
theorem toRampUp (h : AirSound s) (l : LaneId) : AirSound (s.toRampUp l) :=
  h.ofLane (s.toRampUp_otherLanes l) (by rw [State.toRampUp_lane_self]; exact (h l).begun _)

/-- A run ends when the lane comes to rest (R76). -/
theorem toRest (h : AirSound s) (l : LaneId) : AirSound (s.toRest l) :=
  h.ofLane (s.toRest_otherLanes l) (by rw [State.toRest_lane_self]; exact Dfm.Sound.endRun (h l))

theorem onSpeedCheck (h : AirSound s) (l : LaneId) : AirSound (Machine.onSpeedCheck l s).1 := by
  unfold Machine.onSpeedCheck
  split_ifs with ends
  · rw [State.leaveRampUp, if_pos ends]
    exact h.modLane l
  · exact h.toRest l
  · exact h

theorem onHolds (h : AirSound s) : AirSound (Machine.onHolds s).1 := by
  have held : AirSound s.holdAll := h.monitors fun l => by rw [State.holdAll_lane]; rfl
  have drawn (l : LaneId) (ls : List LaneId) : AirSound (s.holdAll.takeOne l ls).2 := held.same
  unfold Machine.onHolds feedNext
  split
  · exact held.modLane _
  · exact held
  · exact (drawn _ _).modLane _

theorem trayFoundEmpty (h : AirSound s) (l : LaneId) : AirSound (Machine.trayFoundEmpty l s).1 := by
  unfold Machine.trayFoundEmpty
  split
  · exact h.toRunout l
  · exact h.modLane l

theorem pick (h : AirSound s) (l : LaneId) (i : Fin 64) (pos : SeqPos) : AirSound (s.pick l i pos) := by
  refine h.ofLane (s.pick_otherLanes l i pos) ?_
  rw [State.pick, State.modLane_lane_self, State.allocate_lane_self, Lane.takePos_eq]
  exact h l

theorem onPickTest (h : AirSound s) (l : LaneId) : AirSound (Machine.onPickTest l s).1 := by
  unfold Machine.onPickTest
  split
  · split
    · split
      · exact h.pick l _ _
      · exact h.modLane l
      · exact h.modLane l
    · exact h.trayFoundEmpty l
  · exact h

theorem leadingEdge (h : AirSound s) (l : LaneId) (i : Fin 64) : AirSound (s.leadingEdge l i) := by
  obtain ⟨g, lane⟩ := s.leadingEdge_lane_self l i
  exact h.ofLane (s.leadingEdge_otherLanes l i) (by rw [lane]; exact h l)

theorem unexpectedSheet (h : AirSound s) (l : LaneId) (i : Fin 64) (pos : SeqPos) :
    AirSound (s.unexpectedSheet l i pos) := by
  obtain ⟨sh, w, lane, _⟩ := s.sheetTaken_lane_self l i pos
  obtain ⟨f, misfeed, wait, changed, own, _⟩ := s.unexpectedSheet_eq l i pos
  have taken : AirSound (s.sheetTaken l i pos) :=
    h.ofLane (s.sheetTaken_otherLanes l i pos) (by rw [lane]; exact h l)
  rw [changed]
  exact taken.modLane l fun sound => by rw [own]; exact sound

theorem trailingEdge (h : AirSound s) (l : LaneId) (token : Nat) : AirSound (s.trailingEdge l token) :=
  (h.modLane l (f := fun x => x.passed token)).same (s.trailingEdge_lanes l token)

theorem onEdge (h : AirSound s) (l : LaneId) : AirSound (Machine.onEdge l s).1 := by
  have noted := h.modLane l (f := fun x => { x with lastSensor := x.entryBlocked })
  unfold Machine.onEdge leadingEdgeTaken trailingEdgeTaken
  dsimp only
  split
  · split
    · split
      · exact noted.leadingEdge l _
      · split
        · split
          · exact noted.unexpectedSheet l _ _
          · exact noted
        · exact noted
    · split
      · exact noted.trailingEdge l _
      · exact noted
  · exact h

/-- A jam ends a run (R76, R87). -/
theorem onJam (h : AirSound s) (l : LaneId) (cause : JamCause) : AirSound (Machine.onJam l cause s).1 := by
  unfold Machine.onJam
  split
  · exact h.ofLane (s.toJammed_otherLanes l cause) (by rw [State.toJammed_lane_self]; exact (h l).endRun)
  · exact h

theorem adoptEnabled (h : AirSound s) (l : LaneId) : AirSound (s.adoptEnabled l) := by
  unfold State.adoptEnabled
  split
  case h_1 =>
    split
    · exact h.modLane l
    · exact h
  case h_2 =>
    split
    · exact h
    · exact h.modLane l
  case h_3 | h_4 | h_5 | h_6 =>
    split
    · exact h
    · exact h.toRunout l
  case h_7 | h_8 | h_9 => exact h

theorem onScheduled (h : AirSound s) (l : LaneId) : AirSound (Machine.onScheduled l s).1 := by
  have gated (sel : Sheet → Bool) (g : GateProgress) : AirSound (s.setGate l sel g) := h.modLane l
  unfold Machine.onScheduled
  dsimp only
  split
  · split
    · exact (gated _ _).same (State.gateOpen_lanes _ _ _)
    · split
      · exact (gated _ _).same (State.gateClose_lanes _ _ _ _)
      · split
        · exact h.modLane l
        · exact h
  · exact h

/-! ### Release -/

theorem takePage (h : AirSound s) (l : LaneId) (i : Fin 64) (p : Page) : AirSound (Machine.takePage l i p s).1 := by
  have taken := h.modBatch l fun b => { b with opened := true }
  unfold Machine.takePage
  dsimp only
  split_ifs
  · exact taken.occur _ _
  · exact taken
  · exact taken

theorem admitCopies (h : AirSound s) (l : LaneId) (i : Fin 64) (token size : Nat) (cs : List ChanId) :
    AirSound (s.admitCopies l i token size cs) := by
  have copied := h.foldl (State.enqueue token size) (fun _ _ k => k.same rfl) cs
  exact ((copied.modPage i _).modBatch l _).setRaw _ _ _

theorem onAttempt (h : AirSound s) (l : LaneId) (token : Nat) : AirSound (Machine.onAttempt l token s).1 := by
  unfold Machine.onAttempt
  split
  · exact h
  · split
    · split
      · exact h
      · split
        · exact h.admitCopies l _ _ _ _
        · unfold State.refuse
          split
          · exact h.modBatch l _
          · exact h
    · exact h

/-! ### Each sub-act -/

theorem handle (task : Task) (h : AirSound s) : AirSound (Machine.handle task s).1 := by
  cases task with
  | fgc => exact h.onFgc
  | holds => exact h.onHolds
  | pickTest l => exact h.onPickTest l
  | edge l => exact h.onEdge l
  | jam l c => exact h.onJam l c
  | scheduled l => exact h.onScheduled l
  | adoptLtc l => exact (h.adoptEnabled l).setRaw _ _ _
  | adoptDfm l => exact h.onAdoptDfm l
  | adoptFgc l => exact (h.modLane l (f := fun x => { x with adoptingFrom := none })).onFgc
  | speedCheck l => exact h.onSpeedCheck l
  | air l => exact h.onAir l
  | samples l => exact h.onSamples l
  | attempt l token => exact h.onAttempt l token
  | adoptLsq l => exact h.modBatch l _
  | adoptEnd => exact h.occur _ _
  | runoutTest l =>
    rw [handle_runoutTest, onRunoutTest]
    split
    · exact h.drained l
    · exact h
  | enterRunout l =>
    rw [handle_enterRunout, onEnterRunout]
    split
    · exact h.toRunout l
    · exact h
  | assemble token =>
    rw [handle_assemble, onAssemble]
    split
    · exact h
    · split
      · dsimp only
        split
        · exact h.same
        · exact h.same
      · exact h
  | adopt l =>
    rw [handle_adopt, onAdopt]
    split
    · exact h
    · rename_i g _
      split
      · exact h
      · exact (h.modLane l (f := fun x => { x with gen := g, adopted := true, adoptingFrom := some x.gen })).same rfl
  | retire =>
    rw [handle_retire, onRetire]
    split
    · split
      · exact h.mapped (f := fun x => { x with adopted := false }) rfl
      · exact h
    · exact h
  | release l =>
    rw [handle_release, onRelease]
    split
    · split
      · exact h.takePage l _ _
      · exact h
    · exact h
    · exact h
  | adoptMoment l =>
    rw [handle_adoptMoment, onAdoptMoment]
    split <;> exact h
  | adoptAll ls =>
    rw [handle_adoptAll, onAdoptAll]
    unfold adoptNext
    split
    · exact h
    · exact h
    · exact h.same
  | adoptChannels old =>
    rw [handle_adoptChannels, onAdoptChannels]
    split <;> exact h
  | newBatch l token =>
    rw [handle_newBatch, onNewBatch]
    split
    · exact h
    · exact (h.modBatch l _).occur _ _
  | lsqMarks l token action blankDrop =>
    rw [handle_lsqMarks, onLsqMarks]
    split
    · exact h
    · dsimp only
      split
      · exact (h.modBatch l _).freeEntry _
      · exact h.modBatch l _
  | lsqNumber l token =>
    rw [handle_lsqNumber, onLsqNumber]
    split
    · exact h
    · dsimp only
      split
      · exact ((h.modPage _ _).modBatch l _).occur _ _
      · exact (h.modPage _ _).modBatch l _
  | retries c =>
    rw [handle_retries, onRetries]
    unfold retryNext
    split
    · exact h
    · exact h.same
  | fillEval c =>
    rw [handle_fillEval, onFillEval]
    split
    · exact h
    · exact h.same
  | gapPick l =>
    rw [handle_gapPick, onGapPick]
    split <;> exact h
  | jamChecks l =>
    rw [handle_jamChecks, onJamChecks]
    split_ifs <;> exact h

/-! ### The commands that touch a lane beside their sub-acts -/

theorem forwardStep (h : AirSound s) (l : LaneId) (a : BitVec 10) : AirSound (Machine.forwardStep l a s).1 := by
  by_cases rest : (s.lane l).state.resting = true
  · rw [forwardStep_of_resting a rest]
    exact h.modLane l
  · by_cases new : ((s.lane l).high : Int) < (s.lane l).nextCounter
    · rw [forwardStep_of_new a (by simpa using rest) new]
      exact h.modLane l
    · rw [forwardStep_of_not_new a (by simpa using rest) new]
      exact h.modLane l

theorem reverseStep (h : AirSound s) (l : LaneId) : AirSound (Machine.reverseStep l s).1 := by
  unfold Machine.reverseStep
  split
  · exact h
  · exact h.modLane l

theorem trayChange (h : AirSound s) (l : LaneId) (paper : Bool) : AirSound (Machine.trayChange l paper s).1 := by
  have noted := h.modLane l (f := fun x => { x with trayPaper := paper })
  unfold Machine.trayChange
  dsimp only
  split
  · exact noted.modLane l
  · exact noted

theorem rampPeriod (h : AirSound s) (l : LaneId) : AirSound (s.modLane l Lane.rampPeriod) := by
  refine h.modLane l fun sound => ?_
  unfold Lane.rampPeriod
  split <;> exact sound

theorem giveUpPick (h : AirSound s) (l : LaneId) (i : Fin 64) : AirSound (s.giveUpPick l i) :=
  (h.modLane l (f := fun x => x.gaveUp (s.tokenOf i))).freeEntry i

theorem misfeedExhausted (h : AirSound s) (l : LaneId) (i : Fin 64) : AirSound (Machine.misfeedExhausted l i s).1 := by
  have given := (h.giveUpPick l i).occur Ev.feedFailure l.val
  unfold Machine.misfeedExhausted
  dsimp only
  split_ifs
  · exact given.toRunout l
  · exact given.drained l
  · exact given

theorem misfeedExpiry (h : AirSound s) (l : LaneId) : AirSound (Machine.misfeedExpiry l s).1 := by
  unfold Machine.misfeedExpiry
  split
  · split_ifs
    · exact (h.modPage _ _).modLane l
    · exact h.misfeedExhausted l _
    · exact h.misfeedExhausted l _
    · exact h
  · exact h

theorem retryEnd (h : AirSound s) (l : LaneId) : AirSound (Machine.retryEnd l s).1 := by
  unfold Machine.retryEnd
  split
  · split_ifs
    · exact h.modLane l
    · exact (h.giveUpPick l _).trayFoundEmpty l
    · exact h
  · exact h

theorem waitExpiry (h : AirSound s) (l : LaneId) : AirSound (Machine.waitExpiry l s).1 := by
  unfold Machine.waitExpiry
  split
  · split
    · exact h
    · exact (h.modBatch l _).setRaw _ _ _
  · exact h

theorem startLane (h : AirSound s) (l : LaneId) : AirSound (Machine.startLane l s).1.1 := by
  unfold Machine.startLane
  split
  · exact h
  · split
    case h_1 => exact (h.modLane l (f := Lane.zeroCounter)).toRampUp l
    case h_2 => exact h.modLane l
    case h_3 => exact h.toRampUp l
    all_goals exact h

theorem clearLane (h : AirSound s) (l : LaneId) : AirSound (Machine.clearLane l s).1.1 := by
  unfold Machine.clearLane
  split
  · exact (h.toRest l).modLane l
  · exact h

theorem rescanPage (h : AirSound s) (token n : Nat) : AirSound (Machine.rescanPage token n s).1.1 := by
  unfold Machine.rescanPage
  split
  · exact h
  · split
    · exact h
    · split
      · exact h
      · exact (h.freeEntry _).modLane _

theorem cancelSlot (h : AirSound s) (l : LaneId) (pos : SeqPos) : AirSound (Machine.cancelSlot l pos s).1.1 := by
  unfold Machine.cancelSlot
  split
  · exact h.modLane l
  · exact h

/-- A record is loaded into the SHADOW bank, beside the lanes (R173). -/
theorem loadTable (h : AirSound s) (table index : Nat) (record : List Byte) :
    AirSound (Machine.loadTable table index record s).1.1 := by
  unfold Machine.loadTable
  split
  · exact h
  · split
    · exact h
    · split
      · exact h
      · split
        · exact h
        · exact h
        · exact h.same rfl

theorem copyComplete (h : AirSound s) : AirSound (Machine.copyComplete s).1 := by
  unfold Machine.copyComplete
  split
  · exact h.same (State.occur_lanes _ _ _)
  · exact h

/-! ### Resets -/

/-- Every monitor is as after power-on (R90). -/
theorem ofReset (h : ∀ l, (s.lane l).dfm = Dfm.reset) : AirSound s := fun l => by
  rw [h]
  exact ⟨trivial, nofun, Nat.zero_le _, Nat.zero_le _, Nat.zero_le _, fun _ => Nat.zero_le _⟩

theorem hardReset (s : State) (cause : ResetCause) : AirSound (s.hardReset cause) :=
  ofReset fun l => by simp [State.hardReset, State.lane, Lane.hardReset, Lane.reset]

/-- A line reset sets every monitor as power-on does, and what follows in it leaves them (R90). -/
theorem lineReset (s : State) : AirSound s.lineReset := by
  have reset (u : State) : AirSound { u with lanes := u.lanes.map Lane.lineReset } := ofReset fun l => by
    simp [State.lane, Lane.lineReset, Lane.hardReset, Lane.reset]
  refine AirSound.occur (AirSound.foldl (AirSound.foldl (AirSound.foldl (reset _) State.restAtReset ?_ _)
    State.laneRawsAtReset ?_ _) State.chanRawsAtReset ?_ _) _ _
  · exact fun _ l k => k.modLane l
  · exact fun _ _ k => (((k.setRaw _ _ _).setRaw _ _ _).setRaw _ _ _).setRaw _ _ _
  · exact fun _ _ k => (k.setRaw _ _ _).setRaw _ _ _

end AirSound

/-! ### The obligation -/

theorem airSound_kept : KeptByCommands AirSound where
  same h lanes _ := h.same lanes
  task task _ h := h.handle task
  tick h := h.mapped (f := Lane.tick) rfl
  hardReset _ _ _ := .hardReset _ _
  lineReset _ := .lineReset _
  forwardStep l a _ h := h.forwardStep l a
  reverseStep l _ h := h.reverseStep l
  entrySensor l _ _ h := h.modLane l
  trayChange l paper _ h := h.trayChange l paper
  rampPeriod l _ h := h.rampPeriod l
  misfeedExpiry l _ h := h.misfeedExpiry l
  retryEnd l _ h := h.retryEnd l
  waitExpiry l _ h := h.waitExpiry l
  startLane l _ h := h.startLane l
  clearLane l _ h := h.clearLane l
  rescanPage token n _ h := h.rescanPage token n
  cancelSlot l pos _ h := h.cancelSlot l pos
  loadTable table index record _ h := h.loadTable table index record
  makePending h := h.mapped (f := fun x => { x with adopted := false }) rfl
  copyComplete h := h.copyComplete

/-- Settles O12: calibration sums and baseline steps stay in the range of valid samples, the eighth bad sample degrades,
and all else leaves B16 and the count. -/
theorem stepKeepsAirBaseline : Obligations.StepKeepsAirBaseline := fun _ _ h ran => airSound_kept.step h ran

end Sys2Proof.Machine
end

section
/-! The use of an air sample, and the air grid (R73, R74, R76, R77, R79, R80). -/

namespace Sys2Proof.Machine

/- One proof after another: every thread of a parallel elaboration reserves memory, which the check limits. -/
set_option Elab.async false

/-! ### Raw levels (R192, R193) -/

theorem Ev.source_lt {c : Fin 20} {src : Nat} (source : src < Ev.sourceCount c) : src < 16 := by
  unfold Ev.sourceCount at source
  split_ifs at source <;> omega

/-- A level handed to the Event Reporter is in the raw set, or out of it. -/
theorem State.setRaw_raw (s : State) {c : Fin 20} {src : Nat} (source : src < Ev.sourceCount c) (level : Bool) :
    ((s.setRaw c src level).event c).raw.getLsbD src = level := by
  have bit := Ev.source_lt source
  unfold State.setRaw
  split_ifs with outside same rise
  · omega
  · exact same
  · simp [EventState.occur, sourceBit, bit, rise]
  · simp [sourceBit, bit, rise]

/-! ### One air sample (R74, R76, R77, R79) -/

section
variable {s : State} {l : LaneId} {a : Nat}

theorem State.airSample_dfm (s : State) (l : LaneId) (a : Nat) :
    ((s.airSample l a).lane l).dfm = (s.lane l).dfm.airSampled a := by
  rw [(s.airSample_becomes l a).1]

/-- A valid sample of a run before the sixteenth (R76). -/
theorem State.airSample_of_early {count sum : Nat} (run : (s.lane l).dfm.calibration = .running count sum)
    (valid : validAir a = true) (early : count < 15) : s.airSample l a =
      s.modDfm l fun d => { d with calibration := .running (count + 1) (sum + a) } := by
  rw [airSample_of_running a run, calibrationSample, if_pos valid, if_neg (by omega)]

/-- The sixteenth valid sample of a run (R76). -/
theorem State.airSample_of_sixteenth {sum : Nat} (run : (s.lane l).dfm.calibration = .running 15 sum)
    (valid : validAir a = true) : s.airSample l a = s.calibrated l (sum + a) := by
  rw [airSample_of_running a run, calibrationSample, if_pos valid, if_pos le_rfl]

/-- A calibrated lane is GOOD, and the Event Reporter is told (R76). -/
theorem State.calibrated_raw (s : State) (l : LaneId) (sum : Nat) :
    ((s.calibrated l sum).event Ev.sonicDegraded).raw.getLsbD l.val = false := by
  rw [State.calibrated, State.evalDrift_event_ne _ _ (by decide)]
  exact State.setRaw_raw _ (Ev.lane_source (by decide) l) false

/-- The monitor that a bad sample of a run leaves (R76). -/
theorem Dfm.airSampled_of_failed {d : Dfm} {count sum : Nat} (run : d.calibration = .running count sum)
    (bad : validAir a = false) : (d.airSampled a).calibration = .none ∧ (d.airSampled a).degraded = true
      ∧ (d.airSampled a).b16 = d.b16 := by
  rw [Dfm.airSampled, run]
  dsimp only
  rw [Dfm.calibrationSampled, if_neg (by simp [bad])]
  split
  case isTrue degraded => exact ⟨rfl, degraded, rfl⟩
  case isFalse => exact ⟨rfl, rfl, rfl⟩

theorem Dfm.airSampled_of_good {d : Dfm} (done : d.calibration = .done) (good : d.degraded = false) (a : Nat) :
    d.airSampled a = d.baselineSampled a := by
  rw [Dfm.airSampled, done]
  exact if_neg (by simp [good])

theorem Dfm.baselineSampled_of_valid {d : Dfm} (valid : validAir a = true) : d.baselineSampled a =
    { d with b16 := baselineStep d.b16 a, badAir := 0 }.evaluated := by
  rw [Dfm.baselineSampled, if_pos valid]

/-- A bad sample of a GOOD lane is counted, and the eighth in a row degrades (R77, R79). -/
theorem Dfm.baselineSampled_of_bad {d : Dfm} (good : d.degraded = false) (bad : validAir a = false) :
    (d.baselineSampled a).b16 = d.b16 ∧ (d.baselineSampled a).badAir = d.badAir + 1
      ∧ (d.baselineSampled a).degraded = decide (8 ≤ d.badAir + 1) := by
  rw [Dfm.baselineSampled, if_neg (by simp [bad])]
  split
  case isTrue eighth => exact ⟨rfl, rfl, (decide_eq_true eighth).symm⟩
  case isFalse few => exact ⟨rfl, rfl, good.trans (decide_eq_false few).symm⟩

/-! ### The air grid (R73) -/

theorem Window.excludes_eq_false (w : Window) (pos : Nat) :
    w.excludes pos = false ↔ pos < w.zoneStart ∨ ∃ z, w.zoneEnd = some z ∧ z ≤ pos := by
  unfold Window.excludes
  cases w.zoneEnd <;> simp [imp_iff_not_or]

theorem Window.excludes_iff (w : Window) (pos : Nat) :
    w.excludes pos = true ↔ w.zoneStart ≤ pos ∧ ∀ z, w.zoneEnd = some z → pos < z := by
  unfold Window.excludes
  cases w.zoneEnd <;> simp

/-- The conditions under which the sample at a position is taken (R73). -/
theorem State.airTaken_iff (s : State) (l : LaneId) (pos : Nat) : s.airTaken l pos = true ↔
    (s.lane l).state.moving = true ∧ (s.laneRec l).sonicEnabled = true
      ∧ ∀ w ∈ (s.lane l).dfm.windows, w.excludes pos = false := by
  simp [State.airTaken, and_assoc]

/-- The grid at its next index. -/
def State.gridPassed (s : State) (l : LaneId) : State := s.modDfm l fun d => { d with gridNext := d.gridNext + 1 }

theorem handle_air_idle (h : (s.lane l).state.resting = true ∨ (s.lane l).high < s.airPosition l) :
    handle (.air l) s = (s, []) := by
  rw [handle_air, onAir, if_neg]
  rw [Bool.and_eq_true, Bool.not_eq_true', decide_eq_true_eq]
  rintro ⟨moves, reached⟩
  rcases h with rests | before
  · simp [rests] at moves
  · omega

theorem handle_air_due (rests : (s.lane l).state.resting = false) (reached : s.airPosition l ≤ (s.lane l).high) :
    handle (.air l) s = if s.airTaken l (s.airPosition l)
      then ((s.gridPassed l).airSample l (s.lane l).amplitude.toNat, [.speedCheck l]) else (s.gridPassed l, []) := by
  rw [handle_air, onAir, if_pos (by simp [rests, reached])]
  rfl

end

/-! ### The obligation -/

/-- Settles O32: the baseline step, the use of a sample by what its monitor becomes, the drift level, and the grid. -/
theorem airSamplesUsed : Obligations.AirSamplesUsed := by
  refine ⟨fun b a => ⟨baselineStep_cast b a, (baselineStep_between b a).1, (baselineStep_between b a).2,
      baselineStep_of_near⟩,
    fun s l a => ⟨fun count sum run low high =>
      ⟨State.airSample_of_early run ((validAir_iff a).2 ⟨low, high⟩), fun sixteenth => ?_⟩,
      fun count sum run bad => ?_, fun done good => ?_, ?_⟩, Dfm.drift_iff,
    fun s l pos next hpos hnext => ⟨fun idle => ?_, fun moves reached enabled outside => ?_,
      fun off idle reached passed => ?_⟩⟩
  · subst sixteenth
    rw [State.airSample_of_sixteenth run ((validAir_iff a).2 ⟨low, high⟩),
      ((State.DfmBecomes.refl s l).calibrated (sum + a)).1]
    exact ⟨rfl, rfl, rfl, rfl, rfl, s.calibrated_raw l (sum + a)⟩
  · rw [State.airSample_dfm]
    exact Dfm.airSampled_of_failed run (validAir_eq_false bad)
  · rw [State.airSample_dfm, Dfm.airSampled_of_good done good]
    refine ⟨fun low high => ?_, fun bad => Dfm.baselineSampled_of_bad good (validAir_eq_false bad)⟩
    rw [Dfm.baselineSampled_of_valid ((validAir_iff a).2 ⟨low, high⟩)]
    exact ⟨rfl, rfl⟩
  · rintro (none | ⟨done, degraded⟩)
    · exact State.airSample_of_none a none
    · rw [State.airSample_of_done a done, if_pos degraded]
  all_goals
    change pos = s.airPosition l at hpos
    change next = s.gridPassed l at hnext
    subst hpos hnext
  · refine handle_air_idle ?_
    rw [LaneState.resting_iff]
    tauto
  · rw [handle_air_due (LaneState.moving_not_resting moves) reached, if_pos]
    exact (s.airTaken_iff l _).2 ⟨moves, enabled, fun w mem => (w.excludes_eq_false _).2 (outside w mem)⟩
  · rw [handle_air_due (LaneState.resting_eq_false off idle) reached, if_neg]
    rw [State.airTaken_iff]
    rintro ⟨moves, enabled, outside⟩
    rcases passed with jammed | disabled | ⟨w, mem, excluded⟩
    · exact LaneState.moving_not_jammed moves jammed
    · simp [disabled] at enabled
    · simpa [outside w mem] using (w.excludes_iff _).2 excluded

end Sys2Proof.Machine
end

section
/-! Windows and their samples (R68, R69, R71, R72, R82, R83, R84, R85): when a sample falls due, what it does to its
window, and the sonic part of the page that the last one completes. -/

namespace Sys2Proof.Machine

/- One proof after another: every thread of a parallel elaboration reserves memory, which the check limits. -/
set_option Elab.async false

/-! ### One sample (R72, R82, R83, R84) -/

section
variable {w : Window} {d : Dfm} {a : Nat}

theorem Window.takeSample_of_void (h : w.void = true ∨ d.calibration ≠ .done ∨ d.degraded = true) :
    w.takeSample d a = w.voided := by
  rw [Window.takeSample, if_pos]
  rw [Ne, ← Dfm.calibrated_iff] at h
  simpa [or_assoc] using h

/-- A window that measures, with the lane calibrated and GOOD (R82). -/
theorem Window.takeSample_of_measuring (measures : w.void = false) (done : d.calibration = .done)
    (good : d.degraded = false) : w.takeSample d a =
      if w.guard then w else if w.masked then { w with thick := false, run := 0 } else w.classify (ratio a d.b16) := by
  rw [Window.takeSample, if_neg]
  simp [measures, (d.calibrated_iff).2 done, good]

theorem Window.guard_iff (w : Window) :
    w.guard = true ↔ w.next < 4 ∨ ∃ n, w.samples = some n ∧ n ≤ w.next + 4 := by
  unfold Window.guard
  cases w.samples <;> simp

theorem Window.masked_iff (w : Window) : w.masked = true ↔ ∃ z ∈ w.zones, z.start ≤ w.next ∧ w.next < z.stop := by
  simp [Window.masked]

/-- The thick state begins below the threshold and ends above it by the hysteresis (R83). -/
theorem Window.thickAfter_iff (w : Window) (r : Nat) : w.thickAfter r = true ↔
    (w.thick = false ∧ r < w.tThick) ∨ (w.thick = true ∧ r < min 255 (w.tThick + w.hyst)) := by
  unfold Window.thickAfter
  cases w.thick <;> simp

theorem Window.classify_of_thick {r : Nat} (thick : w.thickAfter r = true) : w.classify r = { w with
    thick := true, run := w.run + 1, maxRun := max w.maxRun (min 255 (w.run + 1))
    thickCount := min 1000 (w.thickCount + 1) } := if_pos thick

theorem Window.thickAfter_eq_false (w : Window) (r : Nat) : w.thickAfter r = false ↔
    (w.thick = false ∧ w.tThick ≤ r) ∨ (w.thick = true ∧ min 255 (w.tThick + w.hyst) ≤ r) := by
  rw [Bool.eq_false_iff, Ne, Window.thickAfter_iff]
  cases w.thick with
  | false => simp
  | true => simp only [reduceCtorEq, false_and, true_and, false_or, not_lt]

theorem Window.classify_of_thin {r : Nat} (thin : w.thickAfter r = false) :
    w.classify r = { w with thick := false, run := 0 } := if_neg (by simp [thin])

/-- The number of samples is fixed at the trailing edge: no sample changes it (R70). -/
theorem Window.takeSample_samples (w : Window) (d : Dfm) (a : Nat) : (w.takeSample d a).samples = w.samples := by
  unfold Window.takeSample Window.classify
  split_ifs <;> rfl

end

/-! ### Samples that are due (R68, R69, R71) -/

theorem Window.finished_eq_false (w : Window) : w.finished = false ↔ ∀ n, w.samples = some n → w.next < n := by
  unfold Window.finished
  cases w.samples <;> simp

theorem Window.due_iff (w : Window) (h : Nat) : w.due h = true ↔ w.sonicEnabled = true
    ∧ (∀ n, w.samples = some n → w.next < n) ∧ w.lead + w.offS + w.next * w.pitch / 8 ≤ h := by
  rw [Window.due, Bool.and_eq_true, Bool.and_eq_true, Bool.not_eq_true', Window.finished_eq_false, decide_eq_true_eq,
    and_assoc]

theorem Window.sample_of_due {w : Window} {h : Nat} (d : Dfm) (a : Nat) (due : w.due h = true) :
    w.sample d h a = { w.takeSample d a with next := w.next + 1 } := if_pos due

theorem Window.sample_of_not_due {w : Window} {h : Nat} (d : Dfm) (a : Nat) (due : w.due h = false) :
    w.sample d h a = w := if_neg (by simp [due])

/-- The sample that completes a window is its last (R71). -/
theorem Window.completes_eq (w : Window) (d : Dfm) (h a : Nat) :
    w.completes d h a = (w.due h && decide (w.samples = some (w.next + 1))) := by
  cases due : w.due h with
  | false => simp [Window.completes, due]
  | true =>
    obtain ⟨_, unfinished, _⟩ := (w.due_iff h).1 due
    rw [Window.completes, due, Window.sample_of_due d a due, Window.finished, Bool.true_and, Bool.true_and]
    simp only [Window.takeSample_samples]
    cases count : w.samples with
    | none => simp
    | some n =>
      have := unfinished n count
      simp only [Option.some.injEq, decide_eq_decide]
      omega

theorem Window.not_passed (w : Window) (h : Nat) : (!w.passed h) = w.zoneEnd.all fun z => decide (h < z) := by
  unfold Window.passed
  cases w.zoneEnd <;> simp [← decide_not]

/-! ### The sonic part of a page (R71, R72, R85) -/

/-- The record of a page whose sonic part the window completes. -/
def Page.measured (p : Page) (w : Window) : Page :=
  if w.void then p.sonicUnverified else p.sonicDone w.maxRun w.thickCount w.minRun

theorem State.completeSonic_eq (s : State) (w : Window) :
    s.completeSonic w = s.modToken w.token fun p => p.measured w := rfl

theorem State.completeSonic_frame (s : State) (w : Window) :
    s.completeSonic w = { s with entries := (s.completeSonic w).entries } := by
  rw [State.completeSonic_eq, State.modToken_frame]

theorem Page.measured_of_void {p : Page} {w : Window} (pending : p.sonic = .pending) (void : w.void = true) :
    p.measured w = { p with sonic := .unverified, flags := { p.flags with unverified := true } } := by
  rw [Page.measured, if_pos void, Page.sonicUnverified, if_pos pending]

theorem Page.measured_of_counting {p : Page} {w : Window} (pending : p.sonic = .pending) (measures : w.void = false) :
    p.measured w = { p with
      sonic := .done w.maxRun w.thickCount
      flags := { p.flags with double := p.flags.double || decide (w.minRun ≤ w.maxRun) } } := by
  rw [Page.measured, if_neg (by simp [measures]), Page.sonicDone, if_pos pending]

/-- What windows complete depends on the page table only. -/
theorem foldl_completeSonic_entries (ws : List Window) {s t : State} (h : t.entries = s.entries) :
    (ws.foldl State.completeSonic t).entries = (ws.foldl State.completeSonic s).entries := by
  induction ws generalizing s t with
  | nil => exact h
  | cons w ws ih => exact ih (State.modToken_entries_congr h w.token _)

theorem foldl_completeSonic_frame (ws : List Window) (s : State) :
    ws.foldl State.completeSonic s = { s with entries := (ws.foldl State.completeSonic s).entries } := by
  refine List.foldlRecOn (motive := fun u : State => u = { s with entries := u.entries }) ws _ rfl fun u hu w _ => ?_
  rw [State.completeSonic_frame, hu]

theorem foldl_completeSonic_lanes (ws : List Window) (s : State) :
    (ws.foldl State.completeSonic s).lanes = s.lanes := by
  rw [foldl_completeSonic_frame]

/-! ### The samples at a new high-water position (R68, R69, R71) -/

/-- The windows whose last sample the position brings, with that sample taken. -/
def Dfm.lastSampled (d : Dfm) (h a : Nat) : List Window :=
  (d.windows.filter fun w => w.due h && decide (w.samples = some (w.next + 1))).map (Window.sample d h a)

/-- The monitor whose windows have taken the samples that are due, without those whose zone has ended. -/
def Dfm.sampled (d : Dfm) (h a : Nat) : Dfm :=
  { d with windows := (d.windows.map (Window.sample d h a)).filter fun w => w.zoneEnd.all fun z => decide (h < z) }

theorem handle_samples_of_moving {s : State} {l : LaneId} {d : Dfm} {h a : Nat} (hd : d = (s.lane l).dfm)
    (hh : h = (s.lane l).high) (ha : a = (s.lane l).amplitude.toNat) (moves : (s.lane l).state.moving = true) :
    handle (.samples l) s = ((d.lastSampled h a).foldl State.completeSonic (s.modDfm l fun _ => d.sampled h a),
      (d.lastSampled h a).map fun w => .assemble w.token) := by
  have completes : Window.completes d h a = fun w => w.due h && decide (w.samples = some (w.next + 1)) :=
    funext fun w => w.completes_eq d h a
  have remains : (fun w : Window => !w.passed h) = fun w => w.zoneEnd.all fun z => decide (h < z) :=
    funext fun w => w.not_passed h
  rw [Dfm.lastSampled, Dfm.sampled, ← completes, ← remains, hd, hh, ha, handle_samples, onSamples, if_pos moves]
  rfl

theorem handle_samples_of_not_moving {s : State} {l : LaneId} (rests : (s.lane l).state.moving = false) :
    handle (.samples l) s = (s, []) := by
  rw [handle_samples, onSamples, if_neg (by simp [rests])]

/-! ### The obligation -/

/-- Settles O33: one sample by the branches of R82-R84, the sonic part by the write to its page, and a position by the
windows that it samples. -/
theorem samplesClassifyAndComplete : Obligations.SamplesClassifyAndComplete := by
  refine ⟨fun w d a measures done good => ?_, fun s w i p live pending => ?_, fun w d h a => ⟨w.due_iff h,
      Window.sample_of_due d a, Window.sample_of_not_due d a, Window.takeSample_of_void⟩,
    fun s l d h a hd hh ha => ⟨fun moves => ?_, handle_samples_of_not_moving⟩⟩
  · rw [Window.takeSample_of_measuring measures done good]
    refine ⟨fun guard => if_pos ((w.guard_iff).2 guard), fun begun ends => ?_⟩
    have unguarded : ¬ w.guard = true := by
      rw [Window.guard_iff]
      rintro (early | ⟨n, count, late⟩)
      · omega
      · have := ends n count
        omega
    rw [if_neg unguarded]
    refine ⟨fun masked => if_pos ((w.masked_iff).2 masked), fun clear r hr => ?_⟩
    have unmasked : ¬ w.masked = true := by
      rw [Window.masked_iff]
      rintro ⟨z, mem, start, stop⟩
      rcases clear z mem with before | after <;> omega
    rw [if_neg unmasked, ratio, ← hr]
    exact ⟨fun thick => Window.classify_of_thick ((w.thickAfter_iff r).2 thick),
      fun thin => Window.classify_of_thin ((w.thickAfter_eq_false r).2 thin)⟩
  · obtain ⟨page, others, _, frame⟩ := s.modToken_live w.token (fun p => p.measured w) i p live
    rw [State.completeSonic_eq]
    refine ⟨fun void => ?_, fun counts => ?_, others, frame⟩
    · rw [page, Page.measured_of_void pending void]
    · rw [page, Page.measured_of_counting pending counts]
  · have lane := lane_of_lanes (foldl_completeSonic_lanes (d.lastSampled h a) (s.modDfm l fun _ => d.sampled h a))
    refine ⟨_, d.lastSampled h a, handle_samples_of_moving hd hh ha moves, rfl,
      (lane l).trans (s.modDfm_lane_self l _), foldl_completeSonic_entries _ rfl,
      fun k hk => (lane k).trans (s.modDfm_lane_ne l k _ hk.symm), ?_⟩
    rw [foldl_completeSonic_frame]
    rfl

end Sys2Proof.Machine
end

section
/-! The cells of the pool (R104, R105, R106, R107): a change of one entry moves cells between its page and the free list
at most, so that every cell stays in one place. -/

namespace Sys2Proof.Machine

/- One proof after another: every thread of a parallel elaboration reserves memory, which the check limits. -/
set_option Elab.async false

/-! ### Frames of the page table and the pool -/

@[simp] theorem State.occur_entries (s : State) (c : Fin 20) (src : Nat) : (s.occur c src).entries = s.entries := by
  rw [State.occur_frame]

@[simp] theorem State.occur_pool (s : State) (c : Fin 20) (src : Nat) : (s.occur c src).pool = s.pool := by
  rw [State.occur_frame]

@[simp] theorem State.setRaw_entries (s : State) (c : Fin 20) (src : Nat) (level : Bool) :
    (s.setRaw c src level).entries = s.entries := by
  rw [State.setRaw_frame]

@[simp] theorem State.setRaw_pool (s : State) (c : Fin 20) (src : Nat) (level : Bool) :
    (s.setRaw c src level).pool = s.pool := by
  rw [State.setRaw_frame]

@[simp] theorem State.sendHead_entries (s : State) (l : LaneId) (kind : HeadKind) (token : Nat) :
    (s.sendHead l kind token).entries = s.entries := by
  rw [State.sendHead_frame]

@[simp] theorem State.sendHead_pool (s : State) (l : LaneId) (kind : HeadKind) (token : Nat) :
    (s.sendHead l kind token).pool = s.pool := by
  rw [State.sendHead_frame]

@[simp] theorem State.takeOne_entries (s : State) (l : LaneId) (ls : List LaneId) :
    (s.takeOne l ls).2.entries = s.entries := by
  rw [(s.takeOne_spec l ls).2]

@[simp] theorem State.takeOne_pool (s : State) (l : LaneId) (ls : List LaneId) : (s.takeOne l ls).2.pool = s.pool := by
  rw [(s.takeOne_spec l ls).2]

@[simp] theorem State.setLink_entries (s : State) (p : Port) (x : Link) : (s.setLink p x).entries = s.entries := by
  cases p <;> simp [State.setLink]

@[simp] theorem State.setLink_pool (s : State) (p : Port) (x : Link) : (s.setLink p x).pool = s.pool := by
  cases p <;> simp [State.setLink]

/-! ### The cells of one entry -/

/-- The cell list of the page in an entry. -/
def Entry.cells (e : Entry) : List Nat := (e.page.map Page.cells).getD []

/-- The cell lists of all pages are those of the entries, in their order. -/
theorem State.pageCells_eq (s : State) : s.pageCells = s.entries.toList.flatMap Entry.cells := by
  unfold State.pageCells Entry.cells
  congr 1
  funext e
  cases e.page <;> rfl

theorem State.entry_cells_of_page {s : State} {i : Fin 64} {p : Page} (page : s.pageAt i = some p) :
    (s.entry i).cells = p.cells := by
  rw [State.pageAt] at page
  rw [Entry.cells, page]
  rfl

theorem State.entry_cells_of_free {s : State} {i : Fin 64} (free : s.pageAt i = none) : (s.entry i).cells = [] := by
  rw [State.pageAt] at free
  rw [Entry.cells, free]
  rfl

/-- The cells in use are those of one entry and those of the others, which a change of that entry leaves. -/
theorem State.pageCells_split (s : State) (i : Fin 64) : ∃ others, s.pageCells.Perm ((s.entry i).cells ++ others)
    ∧ ∀ x, (s.setEntry i x).pageCells.Perm (x.cells ++ others) := by
  have changed (x : Entry) : (s.setEntry i x).entries.toList
      = s.entries.toList.take i ++ x :: s.entries.toList.drop (i + 1) := by
    rw [State.setEntry, Vector.toList_set, List.set_eq_take_append_cons_drop, if_pos (by simp)]
  have same : s.setEntry i (s.entry i) = s := by
    simp [State.setEntry, State.entry]
  have split (x : Entry) : (s.setEntry i x).pageCells.Perm (x.cells ++
      ((s.entries.toList.take i).flatMap Entry.cells ++ (s.entries.toList.drop (i + 1)).flatMap Entry.cells)) := by
    rw [State.pageCells_eq, changed, List.flatMap_append, List.flatMap_cons]
    exact List.perm_append_comm_assoc _ _ _
  exact ⟨_, by simpa only [same] using split (s.entry i), split⟩

/-- The page of a head cell that is not stale is OPEN, and of the cell's lane (R95). -/
theorem State.intakePage_eq_some (s : State) (l : LaneId) (token : Nat) (i : Fin 64) (p : Page) :
    s.intakePage l token = some (i, p) ↔ s.live token = some (i, p) ∧ p.lane = l ∧ p.image = .opened := by
  unfold State.intakePage
  cases s.live token with
  | none => simp
  | some x =>
    obtain ⟨j, q⟩ := x
    dsimp only
    split_ifs with named
    · simp only [Option.some.injEq, Prod.mk.injEq]
      refine ⟨?_, fun h => h.1⟩
      rintro ⟨rfl, rfl⟩
      exact ⟨⟨rfl, rfl⟩, named⟩
    · refine iff_of_false nofun ?_
      rintro ⟨h, opened⟩
      cases h
      exact named opened

/-! ### Page records that keep their cells -/

/-- The record `q` has the cell list of `p`, and its image is NOT_OPEN only if that of `p` is. -/
structure Page.SameCells (q p : Page) : Prop where
  cells : q.cells = p.cells
  notOpen : q.image = .notOpen → p.image = .notOpen

/-- A change of a page record that leaves its cell list, and no image NOT_OPEN that was not. -/
def KeepsCells (f : Page → Page) : Prop := ∀ p, (f p).SameCells p

namespace KeepsCells

theorem comp {f g : Page → Page} (hg : KeepsCells g) (hf : KeepsCells f) : KeepsCells fun p => g (f p) :=
  fun p => ⟨(hg _).cells.trans (hf p).cells, fun h => (hf p).notOpen ((hg _).notOpen h)⟩

theorem ite {f g : Page → Page} (b : Bool) (hf : KeepsCells f) (hg : KeepsCells g) :
    KeepsCells fun p => if b then f p else g p := by
  cases b
  · exact hg
  · exact hf

theorem sonicUnverified : KeepsCells Page.sonicUnverified := by
  intro p
  unfold Page.sonicUnverified
  split <;> exact ⟨rfl, id⟩

theorem measured (w : Window) : KeepsCells fun p => p.measured w := by
  refine .ite w.void sonicUnverified fun p => ?_
  unfold Page.sonicDone
  split <;> exact ⟨rfl, id⟩

theorem withLength (len lenMin lenMax : Nat) : KeepsCells fun p => p.withLength len lenMin lenMax := by
  intro p
  dsimp only [Page.withLength]
  split <;> exact ⟨rfl, id⟩

theorem closeTruncated : KeepsCells Page.closeTruncated := fun _ => ⟨rfl, nofun⟩

theorem addLost : KeepsCells Page.addLost := by
  intro p
  refine ⟨?_, by rw [p.addLost_image]; exact id⟩
  unfold Page.addLost
  cases p.state with
  | ready => dsimp only; split <;> rfl
  | _ => rfl

theorem cancelled : KeepsCells Page.cancelled := by
  intro p
  unfold Page.cancelled
  split
  · exact closeTruncated p
  · exact ⟨rfl, id⟩

theorem accepted : KeepsCells Page.accepted := by
  intro p
  unfold Page.accepted
  dsimp only
  split
  · exact ⟨rfl, nofun⟩
  · exact ⟨rfl, id⟩

end KeepsCells

/-! ### The updates -/

namespace PoolSound

variable {s t : State}

/-- An update beside the page table and the pool. -/
theorem same (h : PoolSound s) (entries : t.entries = s.entries := by simp) (pool : t.pool = s.pool := by simp) :
    PoolSound t := by
  obtain ⟨wf, cells, unopened⟩ := h
  refine ⟨by rwa [pool], ?_, fun i p page => unopened i p ?_⟩
  · rwa [pool, State.pageCells, entries]
  · rwa [← pageAt_of_entries entries]

theorem modLane (h : PoolSound s) (l : LaneId) (f : Lane → Lane) : PoolSound (s.modLane l f) := h.same

theorem occur (h : PoolSound s) (c : Fin 20) (src : Nat) : PoolSound (s.occur c src) := h.same

theorem setRaw (h : PoolSound s) (c : Fin 20) (src : Nat) (level : Bool) : PoolSound (s.setRaw c src level) := h.same

theorem sendHead (h : PoolSound s) (l : LaneId) (kind : HeadKind) (token : Nat) :
    PoolSound (s.sendHead l kind token) := h.same

theorem modBatch (h : PoolSound s) (l : LaneId) (f : Batch → Batch) : PoolSound (s.modBatch l f) := h.same

theorem setChan (h : PoolSound s) (c : ChanId) (x : Channel) : PoolSound (s.setChan c x) := h.same

theorem setHead (h : PoolSound s) (l : LaneId) (x : HeadPort) : PoolSound (s.setHead l x) := h.same

theorem setLink (h : PoolSound s) (p : Port) (x : Link) : PoolSound (s.setLink p x) := h.same

theorem setTrunk (h : PoolSound s) (k : Trunk) (x : TrunkPort) : PoolSound (s.setTrunk k x) := h.same

/-- One entry and the free list change: the cells of both together are the same. -/
theorem setEntry (h : PoolSound s) {i : Fin 64} {x : Entry} {pool : FreeList} (wf : FreeList.wf pool = true)
    (cells : (FreeList.cells pool ++ x.cells).Perm (FreeList.cells s.pool ++ (s.entry i).cells))
    (unopened : ∀ p, x.page = some p → p.image = .notOpen → p.cells = [])
    (entries : t.entries = (s.setEntry i x).entries) (free : t.pool = pool) : PoolSound t := by
  obtain ⟨_, conserved, closed⟩ := h
  obtain ⟨others, before, after⟩ := s.pageCells_split i
  refine ⟨by rwa [free], ?_, fun j p page notOpen => ?_⟩
  · have moved : t.pageCells = (s.setEntry i x).pageCells := by rw [State.pageCells, entries]; rfl
    rw [free, moved]
    calc (FreeList.cells pool ++ (s.setEntry i x).pageCells).Perm (FreeList.cells pool ++ (x.cells ++ others)) :=
          (after x).append_left _
      _ |>.Perm (FreeList.cells s.pool ++ ((s.entry i).cells ++ others)) := by
          simpa only [List.append_assoc] using cells.append_right others
      _ |>.Perm (FreeList.cells s.pool ++ s.pageCells) := before.symm.append_left _
      _ |>.Perm (List.range Config.poolCells) := conserved
  · rw [pageAt_of_entries entries] at page
    by_cases e : i = j
    · subst e
      rw [State.pageAt, State.setEntry_entry_self] at page
      exact unopened p page notOpen
    · rw [State.pageAt, State.setEntry_entry_ne s i j x e] at page
      exact closed j p page notOpen

/-- A page record that keeps its cells. -/
theorem modPageAt (h : PoolSound s) (i : Fin 64) {f : Page → Page}
    (hf : ∀ p, s.pageAt i = some p → (f p).SameCells p) : PoolSound (s.modPage i f) := by
  refine h.setEntry (i := i) (x := { s.entry i with page := (s.entry i).page.map f }) h.1 ?_ ?_ rfl rfl
  · cases page : s.pageAt i with
    | none =>
      rw [State.entry_cells_of_free page, Entry.cells, ← State.pageAt, page]
      rfl
    | some p =>
      rw [State.entry_cells_of_page page, Entry.cells, ← State.pageAt, page, ← (hf p page).cells]
      rfl
  · intro q hq notOpen
    obtain ⟨p, page, rfl⟩ := Option.map_eq_some_iff.1 hq
    have keeps := hf p page
    rw [keeps.cells]
    exact h.2.2 i p page (keeps.notOpen notOpen)

theorem modPage (h : PoolSound s) (i : Fin 64) {f : Page → Page}
    (hf : KeepsCells f := by exact fun _ => ⟨rfl, id⟩) : PoolSound (s.modPage i f) := h.modPageAt i fun p _ => hf p

theorem modToken (h : PoolSound s) (token : Nat) {f : Page → Page}
    (hf : KeepsCells f := by exact fun _ => ⟨rfl, id⟩) : PoolSound (s.modToken token f) := by
  unfold State.modToken
  split
  · exact h.modPage _ hf
  · exact h

theorem foldl {α : Type} (h : PoolSound s) (f : State → α → State) (hf : ∀ u x, PoolSound u → PoolSound (f u x))
    (xs : List α) : PoolSound (xs.foldl f s) :=
  List.foldlRecOn xs f h fun u hu x _ => hf u x hu

/-- The page of an allocation has no cells yet (R92). -/
theorem allocate (h : PoolSound s) (l : LaneId) {i : Fin 64} (pos : SeqPos) (edge : Option Nat)
    (granted : s.grantedEntry l = some i) : PoolSound (s.allocate l i pos edge) := by
  have free := ((s.grantedEntry_eq_some l i).1 granted).2.1
  refine h.setEntry (i := i) (x := { s.entry i with page := some (Page.allocated l pos (s.lane l).gen edge) }) h.1
    ?_ ?_ rfl rfl
  · rw [State.entry_cells_of_free free]
    rfl
  · rintro p ⟨⟩ _
    rfl

/-- The cells of a freed page go back to the free list (R107). -/
theorem freeEntry (h : PoolSound s) (i : Fin 64) : PoolSound (s.freeEntry i) := by
  cases page : s.pageAt i with
  | none => rwa [State.freeEntry_of_free page]
  | some p =>
    rw [State.freeEntry_of_page page]
    refine h.setEntry (i := i) (x := ⟨((s.entry i).incarnation + 1) % 4, none⟩)
      (FreeList.appendAll_wf p.cells s.pool h.1) ?_ (fun q hq => by cases hq) rfl rfl
    rw [FreeList.appendAll_cells, State.entry_cells_of_page page, Entry.cells]
    simp

/-- A granted cell leaves the head of the free list and joins the page's cell list (R96, R106). -/
theorem storeCell (h : PoolSound s) {i : Fin 64} {p : Page} {c : Nat} {rest : FreeList} (payload : List Byte)
    (page : s.pageAt i = some p) (opened : p.image = .opened) (granted : FreeList.take? s.pool = some (c, rest)) :
    PoolSound (s.storeCell i c rest payload) := by
  have stored : ({ s.entry i with page := (s.entry i).page.map fun p => { p with cells := p.cells ++ [c] } } : Entry)
      = ⟨(s.entry i).incarnation, some { p with cells := p.cells ++ [c] }⟩ := by
    rw [State.pageAt] at page
    rw [page]
    rfl
  refine h.setEntry (i := i) (x := ⟨(s.entry i).incarnation, some { p with cells := p.cells ++ [c] }⟩)
    (FreeList.take?_wf h.1 granted) ?_ ?_ (by rw [← stored]; rfl) rfl
  · rw [FreeList.take?_cells h.1 granted, State.entry_cells_of_page page]
    change (FreeList.cells rest ++ (p.cells ++ [c])).Perm (c :: (FreeList.cells rest ++ p.cells))
    rw [← List.append_assoc]
    exact List.perm_append_singleton c _
  · rintro q ⟨⟩ notOpen
    rw [opened] at notOpen
    cases notOpen

/-- One change of every page record that keeps its cells. -/
theorem mapped (h : PoolSound s) {f : Page → Page} (hf : KeepsCells f)
    (entries : t.entries = s.entries.map fun e => { e with page := e.page.map f }) (pool : t.pool = s.pool) :
    PoolSound t := by
  obtain ⟨wf, cells, unopened⟩ := h
  have kept (e : Entry) : Entry.cells { e with page := e.page.map f } = e.cells := by
    unfold Entry.cells
    cases e.page with
    | none => rfl
    | some p => exact (hf p).cells
  refine ⟨by rwa [pool], ?_, fun i q hq notOpen => ?_⟩
  · rw [pool, State.pageCells_eq, entries, Vector.toList_map, List.flatMap_map]
    simpa only [kept, ← State.pageCells_eq] using cells
  · have page : t.pageAt i = (s.pageAt i).map f := by simp [State.pageAt, State.entry, entries]
    rw [page] at hq
    obtain ⟨p, hp, rfl⟩ := Option.map_eq_some_iff.1 hq
    rw [(hf p).cells]
    exact unopened i p hp ((hf p).notOpen notOpen)

/-- With every entry FREE and the free list whole, every cell is in the free list (R110). -/
theorem ofFree (free : ∀ i, s.pageAt i = none) (pool : s.pool = FreeList.whole) : PoolSound s := by
  have none : s.pageCells = [] := by
    rw [State.pageCells_eq, List.flatMap_eq_nil_iff]
    intro e he
    rw [Vector.mem_toList_iff, Vector.mem_iff_getElem] at he
    obtain ⟨i, hi, rfl⟩ := he
    exact State.entry_cells_of_free (s := s) (free ⟨i, hi⟩)
  refine ⟨by rw [pool]; decide, ?_, fun i p page => ?_⟩
  · rw [none, pool, FreeList.whole_cells, List.append_nil]
  · rw [free i] at page
    cases page

/-- The free cells and the cells of the pages are 65,536 in number. -/
theorem count (h : PoolSound s) : FreeList.size s.pool + s.pageCells.length = 65536 := by
  have length := h.2.1.length_eq
  rwa [List.length_append, FreeList.size_cells, List.length_range] at length

end PoolSound
end Sys2Proof.Machine
end

section
/-! Every sub-act and every command keeps the cells of the pool (R96, R104, R107, R110): they grant cells to pages, free
pages, and write records that keep their cells. -/

namespace Sys2Proof.Machine

/- One proof after another: every thread of a parallel elaboration reserves memory, which the check limits. -/
set_option Elab.async false

namespace PoolSound

variable {s t : State}

/-! ### The Double-Feed Monitor -/

theorem modDfm (h : PoolSound s) (l : LaneId) (f : Dfm → Dfm) : PoolSound (s.modDfm l f) := h.same

theorem evalDrift (h : PoolSound s) (l : LaneId) : PoolSound (s.evalDrift l) := (h.modDfm l _).setRaw _ _ _

theorem toggled (h : PoolSound s) (l : LaneId) (f : Dfm → Dfm) (level : Bool) :
    PoolSound (((s.modDfm l f).setRaw Ev.sonicDegraded l.val level).evalDrift l) :=
  ((h.modDfm l f).setRaw _ _ _).evalDrift l

theorem airSample (h : PoolSound s) (l : LaneId) (a : Nat) : PoolSound (s.airSample l a) := by
  unfold State.airSample
  split
  · unfold State.calibrationSample
    dsimp only
    split_ifs
    · exact h.toggled l _ _
    · exact h.modDfm l _
    · exact h.modDfm l _
    · exact (h.modDfm l _).toggled l _ _
  · unfold State.baselineSample
    dsimp only
    split_ifs
    · exact h
    · exact (h.modDfm l _).evalDrift l
    · exact (h.modDfm l _).toggled l _ _
    · exact h.modDfm l _
  · exact h

theorem onAir (h : PoolSound s) (l : LaneId) : PoolSound (Machine.onAir l s).1 := by
  unfold Machine.onAir
  dsimp only
  split_ifs
  · exact (h.modDfm l _).airSample l _
  · exact h.same
  · exact h

theorem onSamples (h : PoolSound s) (l : LaneId) : PoolSound (Machine.onSamples l s).1 := by
  unfold Machine.onSamples
  split
  · exact (h.modDfm l _).foldl _ (fun _ w k => k.modToken _ (.measured w)) _
  · exact h

/-! ### The Head Intake -/

/-- A page whose gate opens has no cells (R93). -/
theorem gateOpen (h : PoolSound s) (l : LaneId) (token : Nat) : PoolSound (s.gateOpen l token) := by
  unfold State.gateOpen
  split
  · exact h
  · rename_i i p live
    have page := (State.live_entry live).2.1
    dsimp only
    refine PoolSound.sendHead ?_ l _ token
    split_ifs with notOpen
    · refine h.modPageAt i fun q hq => ?_
      rw [page] at hq
      cases hq
      exact ⟨(h.2.2 i p page notOpen).symm, nofun⟩
    · exact h.modPage i .closeTruncated
    · exact h

theorem gateClose (h : PoolSound s) (l : LaneId) (token timeout : Nat) : PoolSound (s.gateClose l token timeout) := by
  unfold State.gateClose
  split
  · exact h
  · dsimp only
    refine PoolSound.sendHead ?_ l _ token
    split_ifs
    · exact h.modPage _
    · exact h

theorem truncateData (h : PoolSound s) (i : Fin 64) (l : LaneId) : PoolSound (s.truncateData i l) :=
  (h.modPage i (f := Page.truncate)).occur _ _

theorem abortImage (h : PoolSound s) (i : Fin 64) (l : LaneId) : PoolSound (s.abortImage i l) :=
  (h.modPage i .closeTruncated).occur _ _

theorem staleCell (h : PoolSound s) (l : LaneId) : PoolSound (s.staleCell l) :=
  (h.setHead l _).occur _ _

theorem headLeavesUp (h : PoolSound s) (l : LaneId) : PoolSound (Machine.headLeavesUp l s).1 :=
  (h.foldl _ (fun _ _ k => k.modPage _ .closeTruncated) _).setRaw _ _ _

/-! ### The Lane Transport Controller -/

theorem onFgc (h : PoolSound s) : PoolSound (Machine.onFgc s).1 := by
  change PoolSound s.fgcPass
  rw [s.fgcPass_frame]
  exact h.same rfl rfl

theorem toRest (h : PoolSound s) (l : LaneId) : PoolSound (s.toRest l) := by
  rw [s.toRest_frame]
  exact h.same rfl rfl

theorem onHolds (h : PoolSound s) : PoolSound (Machine.onHolds s).1 := by
  have held : PoolSound s.holdAll := by
    rw [s.holdAll_frame]
    exact h.same rfl rfl
  unfold Machine.onHolds feedNext
  split
  · exact held.same rfl rfl
  · exact held
  · exact held.same (State.takeOne_entries _ _ _) (State.takeOne_pool _ _ _)

theorem trayFoundEmpty (h : PoolSound s) (l : LaneId) : PoolSound (Machine.trayFoundEmpty l s).1 := by
  unfold Machine.trayFoundEmpty
  split <;> exact h.same rfl rfl

theorem onPickTest (h : PoolSound s) (l : LaneId) : PoolSound (Machine.onPickTest l s).1 := by
  unfold Machine.onPickTest
  split
  · split
    · split
      · rename_i granted
        exact (h.allocate l _ none granted).same rfl rfl
      · exact h.same rfl rfl
      · exact h.same rfl rfl
    · exact h.trayFoundEmpty l
  · exact h

theorem unexpectedSheet (h : PoolSound s) (l : LaneId) {i : Fin 64} (pos : SeqPos)
    (granted : s.grantedEntry l = some i) : PoolSound (s.unexpectedSheet l i pos) := by
  have taken := h.allocate l pos (some (s.lane l).high) granted
  unfold State.unexpectedSheet
  dsimp only
  split <;> exact taken.same rfl rfl

theorem trailingEdge (h : PoolSound s) (l : LaneId) (token : Nat) : PoolSound (s.trailingEdge l token) := by
  have passed : PoolSound (s.modLane l fun x => x.passed token) := h.same
  have noted := passed.modToken token (f := fun p => { p with trail := some (p.trail.getD (s.lane l).high) })
  unfold State.trailingEdge
  dsimp only
  split
  · rename_i w _
    exact noted.modToken token (.ite w.sonicEnabled (.withLength _ _ _) (.comp .sonicUnverified (.withLength _ _ _)))
  · exact noted

theorem onEdge (h : PoolSound s) (l : LaneId) : PoolSound (Machine.onEdge l s).1 := by
  have noted : PoolSound (s.modLane l fun x => { x with lastSensor := x.entryBlocked }) := h.same
  unfold Machine.onEdge
  dsimp only
  split
  · split
    · unfold leadingEdgeTaken
      split
      · exact (noted.modPage _ (f := fun p => p.reached _)).same rfl rfl
      · split
        · rename_i granted
          split
          · exact noted.unexpectedSheet l _ granted
          · exact noted
        · exact noted
    · unfold trailingEdgeTaken
      split
      · exact noted.trailingEdge l _
      · exact noted
  · exact h

theorem onScheduled (h : PoolSound s) (l : LaneId) : PoolSound (Machine.onScheduled l s).1 := by
  have gated (sel : Sheet → Bool) (g : GateProgress) : PoolSound (s.setGate l sel g) := h.same rfl rfl
  unfold Machine.onScheduled
  dsimp only
  split
  · split
    · exact (gated _ _).gateOpen l _
    · split
      · exact (gated _ _).gateClose l _ _
      · split
        · exact h.same rfl rfl
        · exact h
  · exact h

/-- A jam writes the records of the path's pages and frees none (R19, R101). -/
theorem onJam (h : PoolSound s) (l : LaneId) (cause : JamCause) : PoolSound (Machine.onJam l cause s).1 := by
  have tokens (f : Page → Page) (hf : KeepsCells f) {u : State} (k : PoolSound u) :
      PoolSound (u.modTokens f (s.lane l).pathTokens) := k.foldl _ (fun _ _ k => k.modToken _ hf) _
  unfold Machine.onJam
  split
  · refine (tokens _ .cancelled (tokens _ .addLost h)).same (s.toJammed_entries l cause) ?_
    rw [s.toJammed_frame, State.modTokens_frame, State.modTokens_frame]
  · exact h

theorem giveUpPick (h : PoolSound s) (l : LaneId) (i : Fin 64) : PoolSound (s.giveUpPick l i) :=
  (h.modLane l _).freeEntry i

theorem misfeedExhausted (h : PoolSound s) (l : LaneId) (i : Fin 64) :
    PoolSound (Machine.misfeedExhausted l i s).1 := by
  have given : PoolSound ((s.giveUpPick l i).occur Ev.feedFailure l.val) := (h.giveUpPick l i).occur _ _
  unfold Machine.misfeedExhausted
  dsimp only
  split_ifs
  · exact given.same rfl rfl
  · exact given.same rfl rfl
  · exact given

theorem misfeedExpiry (h : PoolSound s) (l : LaneId) : PoolSound (Machine.misfeedExpiry l s).1 := by
  unfold Machine.misfeedExpiry
  split
  · split_ifs
    · exact (h.modPage _ (f := fun p => { p with attempts := p.attempts + 1 })).same rfl rfl
    · exact h.misfeedExhausted l _
    · exact h.misfeedExhausted l _
    · exact h
  · exact h

theorem retryEnd (h : PoolSound s) (l : LaneId) : PoolSound (Machine.retryEnd l s).1 := by
  unfold Machine.retryEnd
  split
  · split_ifs
    · exact h.same rfl rfl
    · exact (h.giveUpPick l _).trayFoundEmpty l
    · exact h
  · exact h

theorem adoptEnabled (h : PoolSound s) (l : LaneId) : PoolSound (s.adoptEnabled l) := by
  unfold State.adoptEnabled
  split
  case h_1 | h_2 | h_3 | h_4 | h_5 | h_6 => split <;> exact h.same rfl rfl
  case h_7 | h_8 | h_9 => exact h

/-! ### Release and the channels -/

theorem takePage (h : PoolSound s) (l : LaneId) (i : Fin 64) (p : Page) : PoolSound (Machine.takePage l i p s).1 := by
  unfold Machine.takePage
  dsimp only
  split_ifs <;> exact h.same

theorem admitCopies (h : PoolSound s) (l : LaneId) (i : Fin 64) (token size : Nat) (cs : List ChanId) :
    PoolSound (s.admitCopies l i token size cs) := by
  have copied := h.foldl (State.enqueue token size) (fun _ _ k => k.same rfl rfl) cs
  exact ((copied.modPage i (f := fun p => { p with state := .queued, copies := cs.length })).modBatch l _).setRaw _ _ _

theorem onAttempt (h : PoolSound s) (l : LaneId) (token : Nat) : PoolSound (Machine.onAttempt l token s).1 := by
  unfold Machine.onAttempt
  split
  · exact h
  · split
    · split
      · exact h
      · split
        · exact h.admitCopies l _ _ _ _
        · unfold State.refuse
          split
          · exact h.modBatch l _
          · exact h
    · exact h

/-- The last copy sent frees the page (R13, R107). -/
theorem cellSent (h : PoolSound s) (c : ChanId) : PoolSound (Machine.cellSent c s).1 := by
  unfold Machine.cellSent
  split
  · exact h
  · have sent : PoolSound (s.setChan c { s.chan c with queue := advanceQueue (s.chan c).queue }) := h.same
    dsimp only
    split
    · unfold State.copyDone
      dsimp only
      split
      · exact sent
      · split
        · exact sent.freeEntry _
        · exact sent.modPage _
    · exact sent

/-! ### Each sub-act -/

theorem handle (task : Task) (h : PoolSound s) : PoolSound (Machine.handle task s).1 := by
  cases task with
  | fgc => exact h.onFgc
  | holds => exact h.onHolds
  | pickTest l => exact h.onPickTest l
  | edge l => exact h.onEdge l
  | jam l c => exact h.onJam l c
  | scheduled l => exact h.onScheduled l
  | air l => exact h.onAir l
  | samples l => exact h.onSamples l
  | attempt l token => exact h.onAttempt l token
  | adoptLtc l => exact (h.adoptEnabled l).setRaw _ _ _
  | adoptDfm l => exact (h.modDfm l _).evalDrift l
  | adoptFgc l => exact onFgc (h.same rfl rfl)
  | adoptLsq l => exact h.modBatch l _
  | adoptEnd => exact h.occur _ _
  | speedCheck l =>
    rw [handle_speedCheck, onSpeedCheck]
    split_ifs
    · rw [State.leaveRampUp_frame]
      exact h.same rfl rfl
    · exact h.toRest l
    · exact h
  | runoutTest l =>
    rw [handle_runoutTest, onRunoutTest]
    split <;> exact h.same rfl rfl
  | enterRunout l =>
    rw [handle_enterRunout, onEnterRunout]
    split <;> exact h.same rfl rfl
  | assemble token =>
    rw [handle_assemble, onAssemble]
    split
    · exact h
    · split
      · rename_i i p _ _
        have judged := h.modPage i (f := fun q => q.judged (s.pickProfileRec p.lane p.genPick))
        dsimp only
        split
        · exact judged
        · exact judged.occur _ _
      · exact h
  | retire =>
    rw [handle_retire, onRetire]
    split
    · split <;> exact h.same rfl rfl
    · exact h
  | release l =>
    rw [handle_release, onRelease]
    split
    · split
      · exact h.takePage l _ _
      · exact h
    · exact h
    · exact h
  | adoptMoment l =>
    rw [handle_adoptMoment, onAdoptMoment]
    split <;> exact h
  | adopt l =>
    rw [handle_adopt, onAdopt]
    split
    · exact h
    · split <;> exact h.same rfl rfl
  | adoptAll ls =>
    rw [handle_adoptAll, onAdoptAll]
    unfold adoptNext
    split <;> exact h.same
  | adoptChannels old =>
    rw [handle_adoptChannels, onAdoptChannels]
    split <;> exact h
  | newBatch l token =>
    rw [handle_newBatch, onNewBatch]
    split
    · exact h
    · exact h.same
  | lsqMarks l token action blankDrop =>
    rw [handle_lsqMarks, onLsqMarks]
    split
    · exact h
    · dsimp only
      split
      · exact (h.modBatch l _).freeEntry _
      · exact h.modBatch l _
  | lsqNumber l token =>
    rw [handle_lsqNumber, onLsqNumber]
    split
    · exact h
    · rename_i i _ _
      have numbered (r : ReleaseInfo) (f : Batch → Batch) :
          PoolSound ((s.modPage i fun p => { p with release := some r }).modBatch l f) :=
        (h.modPage i (f := fun p => { p with release := some r })).modBatch l f
      dsimp only
      split
      · exact (numbered _ _).occur _ _
      · exact numbered _ _
  | retries c =>
    rw [handle_retries, onRetries]
    unfold retryNext
    split <;> exact h.same
  | fillEval c =>
    rw [handle_fillEval, onFillEval]
    split
    · exact h
    · exact h.same (by simp [State.setFillState]) (by simp [State.setFillState])
  | gapPick l =>
    rw [handle_gapPick, onGapPick]
    split <;> exact h
  | jamChecks l =>
    rw [handle_jamChecks, onJamChecks]
    split_ifs <;> exact h

/-! ### Time and resets -/

theorem tick (h : PoolSound s) : PoolSound s.tick :=
  h.mapped (f := fun p => { p with imageTimer := tickDown p.imageTimer }) (fun _ => ⟨rfl, id⟩) rfl rfl

/-- A hard reset frees every entry and makes the free list whole (R110). -/
theorem hardReset (s : State) (cause : ResetCause) : PoolSound (s.hardReset cause) :=
  .ofFree (fun i => by simp [State.hardReset, State.pageAt, State.entry, State.reset]) rfl

/-- A line reset does as much (R14, R110). -/
theorem lineReset (s : State) : PoolSound s.lineReset := by
  have cleared (u : State) : PoolSound u.clearAtReset := by
    refine .ofFree (fun i => ?_) rfl
    have freed : u.clearAtReset.entry i = (u.entry i).freed := by simp [State.clearAtReset, State.entry]
    rw [State.pageAt, freed, Entry.freed_page]
  have adopted {u : State} (k : PoolSound u) : PoolSound u.adoptAtReset := by
    unfold State.adoptAtReset
    split
    · exact k
    · dsimp only
      split
      · exact k.same rfl rfl
      · exact k.same (State.occur_entries _ _ _) (State.occur_pool _ _ _)
  have rested := PoolSound.foldl (s := { (allEntries.foldl State.cancelAtReset s).clearAtReset.adoptAtReset with
      lanes := (allEntries.foldl State.cancelAtReset s).clearAtReset.adoptAtReset.lanes.map Lane.lineReset })
    ((adopted (cleared _)).same rfl rfl) State.restAtReset (fun _ _ k => k.same rfl rfl) allLanes
  have lanes := rested.foldl State.laneRawsAtReset
    (fun _ _ k => (((k.setRaw _ _ _).setRaw _ _ _).setRaw _ _ _).setRaw _ _ _) allLanes
  have channels := lanes.foldl State.chanRawsAtReset
    (fun _ _ k => (k.setRaw _ _ _).setRaw _ _ _) allChans
  exact channels.occur _ _

theorem takeReset (h : PoolSound s) (r : Option ResetKind) : PoolSound (s.takeReset r) := by
  match r with
  | none => exact h
  | some .full => exact .hardReset s _
  | some .line => exact .lineReset s

end PoolSound
end Sys2Proof.Machine
end

section
/-! Every step keeps the cells of the pool (R104, R110). -/

namespace Sys2Proof.Machine

/- One proof after another: every thread of a parallel elaboration reserves memory, which the check limits. -/
set_option Elab.async false

namespace PoolSound

variable {s t : State}

/-! ### Acts, cells and requests -/

theorem act {m : Move} (h : PoolSound m.1) : Answers PoolSound (Machine.act m) := by
  rintro _ ⟨⟩
  exact settle_keeps (fun task _ k => handle task k) (fun _ _ slots k => k.same slots.paper.2.1 slots.paper.2.2.1) m h

theorem deliver (h : PoolSound s) (p : Port) (f : State → Move) (hf : ∀ {u}, PoolSound u → PoolSound (f u).1) :
    Answers PoolSound (Machine.deliver p f s) := by
  have received := h.setLink p (s.link p).validCell
  unfold Machine.deliver
  split
  · exact act (hf received)
  · exact .next received

theorem serve (h : PoolSound s) (want : Request → Bool) {body : List Byte → State → Answer}
    (hb : KeptByCommands.Body PoolSound body) : Answers PoolSound (Machine.serve want body s) := by
  unfold Machine.serve
  split
  · exact .next h
  · rename_i k r _
    split
    · have taken : PoolSound (s.takeOff k) := (h.setTrunk k _).same rfl rfl
      exact act ((hb r.payload taken).setTrunk k _)
    · exact .next h

/-! ### Head cells -/

/-- A DATA cell takes a cell of the pool for an OPEN page only (R95, R96, R97). -/
theorem takeData (h : PoolSound s) (l : LaneId) (token : Nat) (payload : List Byte) :
    PoolSound (Machine.takeData l token payload s).1 := by
  unfold Machine.takeData
  split
  · exact h.staleCell l
  · rename_i i p named
    obtain ⟨live, _, opened⟩ := (s.intakePage_eq_some l token i p).1 named
    have page := (State.live_entry live).2.1
    split_ifs
    · exact h
    · exact h.truncateData i l
    · split
      · exact h.truncateData i l
      · rename_i granted
        exact h.storeCell payload page opened granted

theorem takeClose (h : PoolSound s) (l : LaneId) (token : Nat) (mark : BitVec 4) (blank : Bool)
    (ticket : Option (List Byte)) : PoolSound (Machine.takeClose l token mark blank ticket s).1 := by
  unfold Machine.takeClose
  split
  · exact h.staleCell l
  · rename_i i _ _
    have closed := h.modPage i (f := fun p => p.closeImage (closeInfoOf mark blank ticket)) fun _ => ⟨rfl, nofun⟩
    dsimp only
    split
    · exact closed.truncateData i l
    · exact closed

theorem takeAbort (h : PoolSound s) (l : LaneId) (token : Nat) : PoolSound (Machine.takeAbort l token s).1 := by
  unfold Machine.takeAbort
  split
  · exact h.staleCell l
  · exact h.abortImage _ l

theorem imageExpiry (h : PoolSound s) (token : Nat) : PoolSound (Machine.imageExpiry token s).1 := by
  unfold Machine.imageExpiry
  split
  · exact h
  · split
    · exact h.abortImage _ _
    · exact h

/-! ### Trunk cells and links -/

theorem takeRequest (h : PoolSound s) (k : Trunk) (r : Request) : PoolSound (Machine.takeRequest k r s).1 := by
  unfold Machine.takeRequest
  split
  · exact (h.setTrunk k _).same rfl rfl
  · exact h.setTrunk k _

theorem takePause (h : PoolSound s) (k : Trunk) (n : Nat) (timer : Option Nat) :
    PoolSound (Machine.takePause k n timer s).1 := by
  unfold Machine.takePause
  split <;> exact h.same rfl rfl

theorem portUp (h : PoolSound s) (p : Port) : PoolSound (s.portUp p) := by
  cases p with
  | head l => exact h.setRaw _ _ _
  | trunk k =>
    have up := h.setTrunk k { s.trunk k with hasBeenUp := true }
    refine setRaw ?_ _ _ _
    dsimp only
    split
    · exact up
    · exact up.same rfl rfl

theorem trunkLoss (h : PoolSound s) (k : Trunk) : PoolSound (s.trunkLoss k) := by
  have restored (tx : Option TxCell) : PoolSound (s.restoreReport tx) := by
    unfold State.restoreReport
    split
    · split <;> exact h.same rfl rfl
    · exact h
  have lost := (restored (s.trunk k).tx).setTrunk k { s.trunk k with tx := none, reply := none, requests := [] }
  refine setRaw ?_ _ _ _
  dsimp only
  split
  · exact lost.same rfl rfl
  · exact lost

theorem goDown (h : PoolSound s) (p : Port) (x : Link) : PoolSound (Machine.goDown p x s).1 := by
  have down := h.setLink p x.toDown
  unfold Machine.goDown
  dsimp only
  split
  · cases p with
    | head l => exact (down.setHead l _).headLeavesUp l
    | trunk k => exact (down.trunkLoss k).takeReset _
  · exact down

/-! ### The effects on a lane -/

theorem forwardStep (h : PoolSound s) (l : LaneId) (a : BitVec 10) : PoolSound (Machine.forwardStep l a s).1 := by
  by_cases rest : (s.lane l).state.resting = true
  · rw [forwardStep_of_resting a rest]
    exact h.modLane l _
  · by_cases new : ((s.lane l).high : Int) < (s.lane l).nextCounter
    · rw [forwardStep_of_new a (by simpa using rest) new]
      exact h.modLane l _
    · rw [forwardStep_of_not_new a (by simpa using rest) new]
      exact h.modLane l _

theorem reverseStep (h : PoolSound s) (l : LaneId) : PoolSound (Machine.reverseStep l s).1 := by
  unfold Machine.reverseStep
  split
  · exact h
  · exact h.modLane l _

theorem trayChange (h : PoolSound s) (l : LaneId) (paper : Bool) : PoolSound (Machine.trayChange l paper s).1 := by
  unfold Machine.trayChange
  dsimp only
  split
  · exact (h.modLane l _).modLane l _
  · exact h.modLane l _

theorem runoutExpiry (h : PoolSound s) (l : LaneId) : PoolSound (Machine.runoutExpiry l s).1 := by
  unfold Machine.runoutExpiry
  split
  · exact h.onJam l _
  · exact h

theorem waitExpiry (h : PoolSound s) (l : LaneId) : PoolSound (Machine.waitExpiry l s).1 := by
  unfold Machine.waitExpiry
  split
  · split
    · exact h
    · exact (h.modBatch l _).setRaw _ _ _
  · exact h

theorem pauseExpiry (h : PoolSound s) (c : ChanId) : PoolSound (Machine.pauseExpiry c s).1 := by
  unfold Machine.pauseExpiry
  split
  · exact (h.setChan c _).occur _ _
  · exact h

theorem copyComplete (h : PoolSound s) : PoolSound (Machine.copyComplete s).1 := by
  have copied : PoolSound { s with banks := s.banks.set s.otherBank s.banks[s.activeBank], otherRole := .shadow } :=
    h.same rfl rfl
  unfold Machine.copyComplete
  split
  · exact copied.occur _ _
  · exact h

/-! ### The requests -/

theorem startLane (h : PoolSound s) (l : LaneId) : PoolSound (Machine.startLane l s).1.1 := by
  have rampUp {u : State} (k : PoolSound u) : PoolSound (u.toRampUp l) := ((k.modLane l _).modDfm l _).evalDrift l
  unfold Machine.startLane
  split
  · exact h
  · split
    case h_1 => exact rampUp (h.modLane l _)
    case h_2 => exact h.modLane l _
    case h_3 => exact rampUp h
    all_goals exact h

theorem clearLane (h : PoolSound s) (l : LaneId) : PoolSound (Machine.clearLane l s).1.1 := by
  unfold Machine.clearLane
  split
  · exact (h.toRest l).modLane l _
  · exact h

theorem acceptPage (h : PoolSound s) (token : Nat) : PoolSound (Machine.acceptPage token s).1.1 := by
  unfold Machine.acceptPage
  split
  · exact h
  · exact h.modPage _ .accepted

theorem dropPage (h : PoolSound s) (token : Nat) : PoolSound (Machine.dropPage token s).1.1 := by
  unfold Machine.dropPage
  split
  · exact h
  · exact h.freeEntry _

theorem rescanPage (h : PoolSound s) (token n : Nat) : PoolSound (Machine.rescanPage token n s).1.1 := by
  unfold Machine.rescanPage
  split
  · exact h
  · split
    · exact h
    · split
      · exact h
      · exact (h.freeEntry _).modLane _ _

theorem cancelSlot (h : PoolSound s) (l : LaneId) (pos : SeqPos) : PoolSound (Machine.cancelSlot l pos s).1.1 := by
  unfold Machine.cancelSlot
  split
  · exact h.modLane l _
  · exact h

theorem loadTable (h : PoolSound s) (table index : Nat) (record : List Byte) :
    PoolSound (Machine.loadTable table index record s).1.1 := by
  unfold Machine.loadTable
  split
  · exact h
  · split
    · exact h
    · split
      · exact h
      · split <;> exact h.same rfl rfl

theorem commitTables (h : PoolSound s) (mode : Nat) : PoolSound (Machine.commitTables mode s).1.1 := by
  unfold Machine.commitTables
  split
  · exact h
  · split
    · exact h
    · exact h
    · split <;> exact h.same rfl rfl

open KeptByCommands (Body)

theorem tableLoad : Body PoolSound bodyTableLoad := by
  intro bs s h
  unfold bodyTableLoad
  split
  · exact h
  · exact h.loadTable _ _ _

theorem slotCancel : Body PoolSound bodySlotCancel := by
  refine .sized 6 fun bs s h => ?_
  split
  · split
    · exact h
    · exact h.cancelSlot _ _
  · exact h

theorem partReset (k : Nat) (reset : ResetKind) : Body PoolSound (bodyPartReset k reset) := by
  refine .sized 1 fun bs s h => ?_
  split <;> exact h

theorem eventSet : Body PoolSound bodyEventSet := by
  refine .sized 3 fun bs s h => ?_
  split
  · split <;> exact h.same rfl rfl
  · exact h

theorem eventClear : Body PoolSound bodyEventClear := by
  refine .sized 3 fun bs s h => ?_
  split
  · split <;> exact h.same rfl rfl
  · exact h

/-! ### Each command -/

theorem exec (h : PoolSound s) (i : Instr) : Answers PoolSound (Machine.exec i s) := by
  cases i with
  | powerOn => exact .next (.hardReset s _)
  | resetPin => exact .next (.hardReset s _)
  | signalDetected p =>
    change Answers PoolSound (execSignalDetected p s)
    unfold execSignalDetected
    split
    · exact .next (h.setLink p _)
    · exact .next h
  | lossOfSignal p => exact act (h.goDown p _)
  | idleCellReceived p =>
    change Answers PoolSound (execIdleCellReceived p s)
    unfold execIdleCellReceived
    split
    · exact .next h
    · split
      · exact .next (h.setLink p _)
      · exact act ((h.setLink p _).portUp p)
    · exact .next (h.setLink p _)
  | badCellReceived p =>
    change Answers PoolSound (execBadCellReceived p s)
    unfold execBadCellReceived
    split
    · exact .next h
    all_goals
      split
      · exact .next (h.setLink p _)
      · exact act (h.goDown p _)
  | cellDiscarded p => exact .next (h.setLink p _)
  | data l token payload => exact h.deliver _ _ fun k => k.takeData l _ payload
  | close l token mark blank ticket => exact h.deliver _ _ fun k => k.takeClose l _ mark blank ticket
  | abort l token => exact h.deliver _ _ fun k => k.takeAbort l _
  | request k kind tag payload => exact h.deliver _ _ fun k => k.takeRequest _ _
  | pauseOn k channel => exact h.deliver _ _ fun k => k.takePause _ _ _
  | pauseOff k channel => exact h.deliver _ _ fun k => k.takePause _ _ _
  | tableLoad => exact h.serve _ tableLoad
  | tableCommit => exact h.serve _ (.sized 1 fun _ _ k => k.commitTables _)
  | tableRead => exact h.serve _ (.sized 3 fun _ _ k => k)
  | laneStart => exact h.serve _ (.lane fun l _ k => k.startLane l)
  | laneStop => exact h.serve _ (.lane fun l _ k => handle (.enterRunout l) k)
  | laneHalt => exact h.serve _ (.lane fun l _ k => k.onJam l _)
  | laneClear => exact h.serve _ (.lane fun l _ k => k.clearLane l)
  | pageResolveAccept => exact h.serve _ (.resolve 0 fun token _ _ k => k.acceptPage token)
  | pageResolveDrop => exact h.serve _ (.resolve 1 fun token _ _ k => k.dropPage token)
  | pageResolveRescan => exact h.serve _ (.resolve 2 fun token n _ k => k.rescanPage token n)
  | slotCancel => exact h.serve _ slotCancel
  | statusRead => exact h.serve _ (.sized 2 fun _ _ k => k)
  | partResetFull => exact h.serve _ (partReset 0 .full)
  | partResetLine => exact h.serve _ (partReset 1 .line)
  | eventSet => exact h.serve _ eventSet
  | eventClear => exact h.serve _ eventClear
  | unknownRequest =>
    change Answers PoolSound (execUnknownRequest s)
    exact h.serve _ fun _ _ k => k
  | encoderForwardStep l a => exact act (h.forwardStep l a)
  | encoderReverseStep l => exact act (h.reverseStep l)
  | entrySensorChange l blocked => exact .next (h.modLane l _)
  | traySensorChange l paper => exact act (h.trayChange l paper)
  | speedControlPeriod l =>
    change Answers PoolSound (execSpeedControlPeriod l s)
    unfold execSpeedControlPeriod
    split
    · exact act (h.modLane l _)
    · exact .next h
  | misfeedTimerExpiry l => exact act (h.misfeedExpiry l)
  | retryWaitEnd l => exact act (h.retryEnd l)
  | runoutTimerExpiry l => exact act (h.runoutExpiry l)
  | imageTimerExpiry token => exact act (h.imageExpiry _)
  | pauseTimerExpiry c => exact act (h.pauseExpiry c)
  | waitTimerExpiry l => exact act (h.waitExpiry l)
  | bankCopyComplete => exact act h.copyComplete
  | channelCellSent k =>
    have free : PoolSound (s.freePath k) := h.setTrunk k _
    change Answers PoolSound (execChannelCellSent k s)
    unfold execChannelCellSent
    split
    · exact act (free.cellSent _)
    · exact act free
    all_goals exact .next h
  | replySent k =>
    have gone : PoolSound ((s.freePath k).setTrunk k { (s.freePath k).trunk k with reply := none }) :=
      (h.setTrunk k _).setTrunk k _
    change Answers PoolSound (execReplySent k s)
    unfold execReplySent
    split
    · exact act (gone.takeReset _)
    all_goals exact .next h
  | reportSent k =>
    have free : PoolSound (s.freePath k) := h.setTrunk k _
    change Answers PoolSound (execReportSent k s)
    unfold execReportSent
    split
    · exact act free
    all_goals exact .next h
  | headCellSent l => exact .next (h.same rfl rfl)

/-- Time and every command keep the cells. -/
theorem step (h : PoolSound s) (ran : Machine.step s = .next t) : PoolSound t := by
  unfold Machine.step at ran
  split at ran
  · cases ran
    exact h.tick
  · rename_i c rest _
    exact exec (s := { s with pending := rest }) (h.same rfl rfl) c t ran

end PoolSound

/-- Settles O8: every step keeps the cells where they are or moves them between a page and the free list, and 65,536
cells each in one place are 65,536 in number. -/
theorem stepKeepsCellsConserved : Obligations.StepKeepsCellsConserved := fun _ _ h ran =>
  ⟨h.step ran, (h.step ran).count⟩

end Sys2Proof.Machine
end

section
/-! The cells of a head (R95-R99) and the image timer (R100): what each does to its page, to the pool and to the events,
as the first move of its act. -/

namespace Sys2Proof.Machine

/- One proof after another: every thread of a parallel elaboration reserves memory, which the check limits. -/
set_option Elab.async false

/-! ### Acts that end where they begin -/

/-- An act without sub-acts leaves all that transmit slots leave. -/
theorem completes_slots {i : Instr} {s u : State} (h : exec i s = act (u, [])) :
    Completes i s fun t => SlotsKept u t :=
  ⟨_, h, by rw [settle_nil]; exact SlotsKept.slots u⟩

theorem SlotsKept.head {s t : State} (h : SlotsKept s t) (l : LaneId) : t.head l = s.head l := by
  obtain ⟨_, _, _, _, _, heads⟩ := h.paper
  rw [State.head, heads, State.head]

theorem State.occur_event_self (s : State) {c : Fin 20} {src : Nat} (h : src < Ev.sourceCount c) :
    (s.occur c src).event c = (s.event c).occur src := by
  rw [State.occur_of_source s h, State.setEvent_event_self]

/-! ### Delivery (R198) -/

/-- The state in which a valid cell of lane `l`'s head is taken: the runs of its link have changed. -/
def State.received (s : State) (l : LaneId) : State := s.setLink (.head l) (s.link (.head l)).validCell

theorem State.received_frame (s : State) (l : LaneId) : s.received l = { s with heads := (s.received l).heads } := rfl

theorem State.received_head_self (s : State) (l : LaneId) :
    (s.received l).head l = { s.head l with link := (s.head l).link.validCell } := by
  simp [State.received, State.setLink, State.link]

theorem Link.validCell_state (x : Link) : x.validCell.state = x.state := by
  unfold Link.validCell
  cases h : x.state <;> simp [h]

theorem deliver_up {s : State} {l : LaneId} (up : s.linkUp (.head l) = true) (f : State → Move) :
    deliver (.head l) f s = act (f (s.received l)) := if_pos up

theorem deliver_not_up {s : State} {l : LaneId} (down : s.linkUp (.head l) = false) (f : State → Move) :
    deliver (.head l) f s = .next (s.received l) := if_neg (by simp [down])

theorem exec_data (s : State) (l : LaneId) (token : Byte) (payload : List Byte) :
    exec (.data l token payload) s = deliver (.head l) (takeData l token.toNat payload) s := rfl

theorem exec_close (s : State) (l : LaneId) (token : Byte) (mark : BitVec 4) (blank : Bool)
    (ticket : Option (List Byte)) : exec (.close l token mark blank ticket) s
      = deliver (.head l) (takeClose l token.toNat mark blank ticket) s := rfl

theorem exec_abort (s : State) (l : LaneId) (token : Byte) :
    exec (.abort l token) s = deliver (.head l) (takeAbort l token.toNat) s := rfl

theorem exec_imageTimerExpiry (s : State) (token : Byte) :
    exec (.imageTimerExpiry token) s = act (imageExpiry token.toNat s) := rfl

/-- An OPEN page of the lane is named as well once the cell has been received. -/
theorem State.received_intakePage {s : State} {l : LaneId} {token : Nat} {i : Fin 64} {p : Page}
    (live : s.live token = some (i, p)) (lane : p.lane = l) (opened : p.image = .opened) :
    (s.received l).intakePage l token = some (i, p) :=
  ((s.received l).intakePage_eq_some l token i p).2 ⟨live, lane, opened⟩

/-! ### DATA (R96, R97) -/

section
variable {s : State} {l : LaneId} {token : Nat} {payload : List Byte} {i : Fin 64} {p : Page}

theorem takeData_of_truncated (named : s.intakePage l token = some (i, p)) (truncated : p.flags.truncated = true) :
    takeData l token payload s = (s, []) := by
  simp [takeData, named, truncated]

theorem takeData_of_refused (named : s.intakePage l token = some (i, p)) (whole : p.flags.truncated = false)
    (refused : 4096 ≤ p.cells.length ∨ payload = [] ∨ FreeList.take? s.pool = none) :
    takeData l token payload s = (s.truncateData i l, []) := by
  by_cases full : 4096 ≤ p.cells.length ∨ payload = []
  · simp [takeData, named, whole, Config.maxCellList, full]
  · have empty : FreeList.take? s.pool = none := by tauto
    simp [takeData, named, whole, empty]

theorem takeData_of_granted {c : Nat} {rest : FreeList} (named : s.intakePage l token = some (i, p))
    (whole : p.flags.truncated = false) (room : p.cells.length < 4096) (bytes : payload ≠ [])
    (granted : FreeList.take? s.pool = some (c, rest)) :
    takeData l token payload s = (s.storeCell i c rest payload, [.holds]) := by
  have room' : ¬4096 ≤ p.cells.length := by omega
  simp [takeData, named, whole, Config.maxCellList, room', bytes, granted]

end

theorem State.storeCell_pageAt {s : State} {i : Fin 64} {p : Page} (page : s.pageAt i = some p) (c : Nat)
    (rest : FreeList) (payload : List Byte) :
    (s.storeCell i c rest payload).pageAt i = some { p with cells := p.cells ++ [c] } :=
  (s.modPage_pageAt_self i _).trans (by rw [page]; rfl)

theorem State.storeCell_otherEntries (s : State) (i : Fin 64) (c : Nat) (rest : FreeList) (payload : List Byte) :
    OtherEntries s (s.storeCell i c rest payload) i := s.modPage_otherEntries i _

/-- Two changes of one page record are one. -/
theorem State.modPage_modPage (s : State) (i : Fin 64) (f g : Page → Page) :
    (s.modPage i f).modPage i g = s.modPage i fun p => g (f p) := by
  simp [State.modPage, State.setEntry, State.entry, Function.comp_def]

/-- A write to a page's record, with an occurrence. -/
theorem State.modPage_occur_pageAt {s : State} {i : Fin 64} {p : Page} (page : s.pageAt i = some p) (f : Page → Page)
    (c : Fin 20) (src : Nat) : ((s.modPage i f).occur c src).pageAt i = some (f p) := by
  rw [pageAt_of_entries (State.occur_entries _ _ _), State.modPage_pageAt_self, page, Option.map_some]

theorem State.modPage_occur_otherEntries (s : State) (i : Fin 64) (f : Page → Page) (c : Fin 20) (src : Nat) :
    OtherEntries s ((s.modPage i f).occur c src) i := fun j hj => by
  rw [entry_of_entries (State.occur_entries _ _ _), s.modPage_otherEntries i f j hj]

/-- Settles O34: the cell granted is stored and joins the list; a page that no cell is granted to is truncated; a page
already truncated is left. -/
theorem dataTakesPoolCell : Obligations.DataTakesPoolCell := by
  intro s l token payload i p up live lane opened
  have named := State.received_intakePage live lane opened
  have page : (s.received l).pageAt i = some p := (State.live_entry live).2.1
  refine ⟨fun c rest whole room bytes granted => ?_, fun whole refused => ?_, fun truncated => ?_⟩
  · have ran : exec (.data l token payload) s = act ((s.received l).storeCell i c rest payload, [.holds]) := by
      rw [exec_data, deliver_up up, takeData_of_granted named whole room bytes granted]
    exact ⟨_, ran, State.storeCell_pageAt page c rest payload, State.storeCell_otherEntries _ i c rest payload,
      rfl, rfl, rfl, rfl⟩
  · have ran : exec (.data l token payload) s = act ((s.received l).truncateData i l, []) := by
      rw [exec_data, deliver_up up, takeData_of_refused named whole refused]
    obtain ⟨t, next, kept⟩ := completes_slots ran
    obtain ⟨lanes, entries, pool, mem, _, _⟩ := kept.paper
    obtain ⟨_, latch, sources, _⟩ := kept.events Ev.imageTruncated
    have latched : ((s.received l).truncateData i l).event Ev.imageTruncated
        = (s.event Ev.imageTruncated).occur l.val := State.occur_event_self _ (Ev.lane_source (by decide) l)
    refine ⟨t, next, ?_, fun j hj => ?_, ?_, ?_, ?_, ?_, ?_⟩
    · rw [pageAt_of_entries entries]
      exact State.modPage_occur_pageAt page Page.truncate _ _
    · rw [entry_of_entries entries]
      exact (s.received l).modPage_occur_otherEntries i Page.truncate _ _ j hj
    · rw [pool]
      exact State.occur_pool _ _ _
    · rw [mem, State.truncateData, State.occur_frame]
      rfl
    · rw [lanes]
      exact State.occur_lanes _ _ _
    · rw [latch, latched]
      rfl
    · rw [sources, latched]
      exact EventState.occur_sources _ (by omega)
  · have ran : exec (.data l token payload) s = act (s.received l, []) := by
      rw [exec_data, deliver_up up, takeData_of_truncated named truncated]
    obtain ⟨t, next, kept⟩ := completes_slots ran
    obtain ⟨lanes, entries, pool, mem, _, _⟩ := kept.paper
    exact ⟨t, next, entries, pool, mem, lanes, kept.events⟩

/-! ### Stale cells (R95) -/

/-- The command is one of the three cells of a head, for a token. -/
def IsHeadCell (i : Instr) (l : LaneId) (token : Byte) : Prop :=
  (∃ payload, i = .data l token payload) ∨ (∃ m b t, i = .close l token m b t) ∨ i = .abort l token

/-- What each of the three does is delivered, and a stale one is only counted. -/
theorem IsHeadCell.delivers {i : Instr} {l : LaneId} {token : Byte} (cell : IsHeadCell i l token) (s : State) :
    ∃ f, exec i s = deliver (.head l) f s
      ∧ ∀ u : State, u.intakePage l token.toNat = none → f u = (u.staleCell l, []) := by
  rcases cell with ⟨payload, rfl⟩ | ⟨mark, blank, ticket, rfl⟩ | rfl
  · exact ⟨_, exec_data s l token payload, fun u stale => by rw [takeData, stale]⟩
  · exact ⟨_, exec_close s l token mark blank ticket, fun u stale => by rw [takeClose, stale]⟩
  · exact ⟨_, exec_abort s l token, fun u stale => by rw [takeAbort, stale]⟩

/-- No OPEN page of the lane is named. -/
theorem State.intakePage_eq_none {s : State} {l : LaneId} {token : Nat}
    (stale : ∀ j p, s.live token = some (j, p) → p.lane ≠ l ∨ p.image ≠ .opened) : s.intakePage l token = none := by
  rw [Option.eq_none_iff_forall_ne_some]
  rintro ⟨j, p⟩ named
  obtain ⟨live, lane, opened⟩ := (s.intakePage_eq_some l token j p).1 named
  rcases stale j p live with h | h
  · exact h lane
  · exact h opened

/-- A stale cell changes its head port and the class STALE_CELL. -/
theorem State.staleCell_frame (s : State) (l : LaneId) :
    s.staleCell l = { s with heads := (s.staleCell l).heads, events := (s.staleCell l).events } := by
  rw [State.staleCell, State.occur_frame]
  rfl

theorem State.staleCell_count (s : State) (l : LaneId) :
    ((s.staleCell l).head l).staleCount = min 65535 ((s.head l).staleCount + 1) := by
  rw [State.staleCell, State.occur_frame]
  exact congrArg HeadPort.staleCount (s.setHead_head_self l _)

theorem State.staleCell_event_self (s : State) (l : LaneId) :
    (s.staleCell l).event Ev.staleCell = (s.event Ev.staleCell).occur l.val :=
  State.occur_event_self _ (Ev.lane_source (by decide) l)

theorem State.staleCell_event_ne (s : State) (l : LaneId) {c : Fin 20} (h : c ≠ Ev.staleCell) :
    (s.staleCell l).event c = s.event c := State.occur_event_ne _ _ h

/-- Settles O35: each of the three cells is delivered on an UP link only, and none that is stale does more than be
counted. -/
theorem headCellsWithoutEffect : Obligations.HeadCellsWithoutEffect := by
  refine ⟨fun s l token i cell up stale => ?_, fun s l token i cell down => ?_⟩
  · obtain ⟨f, ran, counted⟩ := IsHeadCell.delivers cell s
    rw [deliver_up up, counted _ (State.intakePage_eq_none (s := s.received l) stale)] at ran
    obtain ⟨t, next, kept⟩ := completes_slots ran
    obtain ⟨lanes, entries, pool, mem, channels, _⟩ := kept.paper
    obtain ⟨_, latch, sources, _⟩ := kept.events Ev.staleCell
    have latched : ((s.received l).staleCell l).event Ev.staleCell = (s.event Ev.staleCell).occur l.val :=
      (s.received l).staleCell_event_self l
    have frame := (s.received l).staleCell_frame l
    refine ⟨t, next, ?_, ?_, ?_, ?_, ?_, ?_, ?_, ?_, ?_, fun c hc => ?_⟩
    · rw [kept.head, State.staleCell_count, State.received_head_self]
    · rw [latch, latched]
      rfl
    · rw [sources, latched]
      exact EventState.occur_sources _ (by omega)
    · rw [entries, frame]
      rfl
    · rw [pool, frame]
      rfl
    · rw [mem, frame]
      rfl
    · rw [lanes, frame]
      rfl
    · rw [channels, frame]
      rfl
    · have tables := kept.tables
      rw [frame] at tables
      exact tables
    · have event := kept.events c
      rw [State.staleCell_event_ne _ l hc] at event
      exact event
  · obtain ⟨f, ran, _⟩ := IsHeadCell.delivers cell s
    rw [deliver_not_up down] at ran
    refine ⟨_, ran, s.received_frame l, ?_, ?_⟩
    · rw [State.received_head_self]
    · rw [State.received_head_self]
      exact Link.validCell_state _

/-! ### The closes of an OPEN image (R98, R99, R100) -/

/-- The page that a CLOSE cell closes (R98). -/
def Page.closedBy (p : Page) (mark : BitVec 4) (blank : Bool) (ticket : Option (List Byte)) : Page :=
  { p with
    image := .closed
    imageTimer := none
    close := some { mark := mark, blank := blank, ticket := ticket.map (List.take 24) }
    flags := { p.flags with truncated := p.flags.truncated || ticket.any fun x => decide (24 < x.length) } }

/-- The page that an ABORT cell or its image timer closes (R99, R100). -/
def Page.aborted (p : Page) : Page :=
  { p with
    image := .closed
    imageTimer := none
    close := some { mark := 0, blank := false, ticket := none }
    flags := { p.flags with truncated := true } }

theorem Page.closeTruncated_of_unclosed {p : Page} (unclosed : p.close = none) : p.closeTruncated = p.aborted := by
  rw [Page.closeTruncated, Page.closeImage, unclosed]
  rfl

theorem Page.closeImage_of_unclosed {p : Page} (unclosed : p.close = none) (mark : BitVec 4) (blank : Bool)
    (ticket : Option (List Byte)) : (if ticketTooLong ticket then (p.closeImage (closeInfoOf mark blank ticket)).truncate
      else p.closeImage (closeInfoOf mark blank ticket)) = p.closedBy mark blank ticket := by
  have any : ticketTooLong ticket = ticket.any fun x => decide (24 < x.length) := by cases ticket <;> rfl
  rw [Page.closedBy, ← any, Page.closeImage, unclosed]
  cases ticketTooLong ticket with
  | false => simp [closeInfoOf]
  | true => simp [closeInfoOf, Page.truncate]

/-- What the CLOSE cell of a page not yet closed does (R98). -/
theorem takeClose_of_named {s : State} {l : LaneId} {token : Nat} {i : Fin 64} {p : Page}
    (named : s.intakePage l token = some (i, p)) (unclosed : p.close = none) (mark : BitVec 4) (blank : Bool)
    (ticket : Option (List Byte)) : takeClose l token mark blank ticket s =
      (if ticketTooLong ticket then (s.modPage i fun q => q.closedBy mark blank ticket).occur Ev.imageTruncated l.val
        else s.modPage i fun q => q.closedBy mark blank ticket, [.assemble token]) := by
  have page := (State.live_entry ((s.intakePage_eq_some l token i p).1 named).1).2.1
  have closed := Page.closeImage_of_unclosed unclosed mark blank ticket
  rw [takeClose, named]
  dsimp only
  split
  · rename_i long
    rw [if_pos long] at closed
    rw [State.truncateData, State.modPage_modPage,
      State.modPage_congr (g := fun q => q.closedBy mark blank ticket) page closed]
  · rename_i short
    rw [if_neg short] at closed
    rw [State.modPage_congr (g := fun q => q.closedBy mark blank ticket) page closed]

theorem takeAbort_of_named {s : State} {l : LaneId} {token : Nat} {i : Fin 64} {p : Page}
    (named : s.intakePage l token = some (i, p)) : takeAbort l token s = (s.abortImage i l, [.assemble token]) := by
  rw [takeAbort, named]

theorem imageExpiry_of_running {s : State} {token : Nat} {i : Fin 64} {p : Page} (live : s.live token = some (i, p))
    (timer : p.imageTimer.isSome = true) (opened : p.image = .opened) :
    imageExpiry token s = (s.abortImage i p.lane, [.assemble token]) := by
  simp [imageExpiry, live, timer, opened]

/-- A command that aborts the image of a page not yet closed, after a change of head ports at most. -/
theorem begins_abortImage {c : Instr} {s u : State} {l : LaneId} {i : Fin 64} {p : Page} {ts : List Task}
    (ran : exec c s = act (u.abortImage i l, ts)) (heads : u = { s with heads := u.heads })
    (page : s.pageAt i = some p) (unclosed : p.close = none) :
    ∃ s1, Begins c s s1 ts ∧ s1.pageAt i = some p.aborted ∧ OtherEntries s s1 i ∧ s1.lanes = s.lanes
      ∧ s1.pool = s.pool ∧ s1.event Ev.imageTruncated = (s.event Ev.imageTruncated).occur l.val := by
  have entries : u.entries = s.entries := by rw [heads]
  refine ⟨_, ran, ?_, fun j hj => ?_, ?_, ?_, ?_⟩
  · rw [State.abortImage, State.modPage_occur_pageAt ((pageAt_of_entries entries i).trans page),
      Page.closeTruncated_of_unclosed unclosed]
  · rw [State.abortImage, u.modPage_occur_otherEntries i _ _ _ j hj, entry_of_entries entries]
  · rw [State.abortImage, State.occur_lanes, State.modPage_lanes, heads]
  · rw [State.abortImage, State.occur_pool, State.modPage_pool, heads]
  · rw [State.abortImage, State.occur_event_self _ (Ev.lane_source (by decide) l), State.modPage_event, heads]
    rfl

/-- Settles O36: a CLOSE cell closes its page with its close information, the other two with the default; the sub-act
that may assemble the verdict follows each. -/
theorem imagesClose : Obligations.ImagesClose := by
  intro s l token i p live lane opened unclosed
  have page := (State.live_entry live).2.1
  have page' : (s.received l).pageAt i = some p := page
  have named := State.received_intakePage live lane opened
  refine ⟨fun mark blank ticket up => ?_, fun up => ?_, fun timer => ?_⟩
  · have ran := exec_close s l token mark blank ticket
    rw [deliver_up up, takeClose_of_named named unclosed] at ran
    refine ⟨_, ran, ?_⟩
    split
    · rename_i long
      refine ⟨State.modPage_occur_pageAt page' (fun q => q.closedBy mark blank ticket) _ _,
        (s.received l).modPage_occur_otherEntries i _ _ _, State.occur_lanes _ _ _, State.occur_pool _ _ _,
        fun short => ?_, fun _ _ _ => State.occur_event_self _ (Ev.lane_source (by decide) l)⟩
      cases ticket with
      | none => cases long
      | some x => exact absurd (short x rfl) (by simpa [ticketTooLong] using long)
    · rename_i fits
      refine ⟨((s.received l).modPage_pageAt_self i _).trans (congrArg (Option.map _) page'),
        (s.received l).modPage_otherEntries i _, rfl, rfl, fun _ => rfl, ?_⟩
      rintro x rfl long
      exact absurd (decide_eq_true long) fits
  · have ran := exec_abort s l token
    rw [deliver_up up, takeAbort_of_named named] at ran
    exact begins_abortImage ran (s.received_frame l) page unclosed
  · have ran := exec_imageTimerExpiry s token
    rw [imageExpiry_of_running live timer opened, lane] at ran
    exact begins_abortImage ran rfl page unclosed

end Sys2Proof.Machine
end

section
/-! A head link that leaves UP by a loss of signal (R91, R102, R103): the OPEN images of its lane are closed TRUNCATED. -/

namespace Sys2Proof.Machine

/- One proof after another: every thread of a parallel elaboration reserves memory, which the check limits. -/
set_option Elab.async false

/-! ### A change of several pages -/

/-- One change of the records in several entries. -/
def State.modPages (s : State) (f : Page → Page) (is : List (Fin 64)) : State := is.foldl (fun s i => s.modPage i f) s

theorem State.modPages_frame (s : State) (f : Page → Page) (is : List (Fin 64)) :
    s.modPages f is = { s with entries := (s.modPages f is).entries } := by
  refine List.foldlRecOn (motive := fun u : State => u = { s with entries := u.entries }) is _ rfl fun u hu i _ => ?_
  rw [hu]
  rfl

/-- The entries of the list have their records changed, each once, and the others are left. -/
theorem State.modPages_pageAt (s : State) (f : Page → Page) {is : List (Fin 64)} (once : is.Nodup) (j : Fin 64) :
    (s.modPages f is).pageAt j = if j ∈ is then (s.pageAt j).map f else s.pageAt j := by
  induction is generalizing s with
  | nil => rfl
  | cons i is ih =>
    obtain ⟨fresh, once⟩ := List.nodup_cons.1 once
    rw [State.modPages, List.foldl_cons, ← State.modPages, ih _ once]
    by_cases e : i = j
    · subst e
      simp [fresh]
    · simp [e, Ne.symm e]

/-- The entries with an OPEN image of the lane. -/
theorem State.mem_openEntries (s : State) (l : LaneId) (i : Fin 64) :
    i ∈ s.openEntries l ↔ ∃ p, s.pageAt i = some p ∧ p.lane = l ∧ p.image = .opened := by
  simp [State.openEntries, mem_allEntries, Option.any_eq_true]

theorem State.openEntries_nodup (s : State) (l : LaneId) : (s.openEntries l).Nodup := by
  unfold State.openEntries allEntries
  exact (List.nodup_finRange 64).filter _

/-! ### The head link (R102, R103, R198) -/

/-- The head port of the lane with its link DOWN and no cell waiting for it (R91, R198). -/
def State.headLost (s : State) (l : LaneId) : State :=
  s.setHead l { s.head l with link := (s.head l).link.toDown, txQueue := [] }

/-- The OPEN images of the lane are closed TRUNCATED, without an occurrence (R103). -/
def State.imagesLost (s : State) (l : LaneId) : State :=
  ((s.headLost l).modPages Page.closeTruncated (s.openEntries l)).evalHeadDown l

/-- The act of a loss of signal on an UP head link. -/
theorem exec_lossOfSignal_head {s : State} {l : LaneId} (up : s.linkUp (.head l) = true) :
    exec (.lossOfSignal (.head l)) s = act (s.imagesLost l,
      (s.openEntries l).map (fun i => .assemble (s.tokenOf i)) ++ [.enterRunout l]) := by
  have lost : (s.setLink (.head l) (s.head l).link.toDown).setHead l
      { (s.setLink (.head l) (s.head l).link.toDown).head l with txQueue := [] } = s.headLost l := by
    simp [State.headLost, State.setLink, State.setHead, State.head]
  have down : goDown (.head l) (s.link (.head l)) s = headLeavesUp l (s.headLost l) := by
    rw [← lost]
    exact if_pos up
  change act (goDown (.head l) (s.link (.head l)) s) = _
  rw [down]
  rfl

theorem State.imagesLost_frame (s : State) (l : LaneId) : s.imagesLost l =
    { s.headLost l with entries := (s.imagesLost l).entries, events := (s.imagesLost l).events } := by
  rw [State.imagesLost, State.evalHeadDown, State.setRaw_frame, State.modPages_frame]

theorem State.imagesLost_pageAt (s : State) (l : LaneId) (i : Fin 64) : (s.imagesLost l).pageAt i =
    if i ∈ s.openEntries l then (s.pageAt i).map Page.closeTruncated else s.pageAt i := by
  rw [State.imagesLost, State.evalHeadDown, pageAt_of_entries (State.setRaw_entries _ _ _ _),
    State.modPages_pageAt _ _ (s.openEntries_nodup l)]
  rfl

theorem State.imagesLost_head_self (s : State) (l : LaneId) : (s.imagesLost l).head l =
    { s.head l with link := (s.head l).link.toDown, txQueue := [] } := by
  rw [State.imagesLost_frame]
  exact s.setHead_head_self l _

/-- A link that is DOWN has the HEAD_DOWN level of its lane follow the lane's enabling (R102). -/
theorem State.imagesLost_headDown (s : State) (l : LaneId) :
    ((s.imagesLost l).event Ev.headDown).raw.getLsbD l.val = s.laneEnabled l := by
  have down : ((s.headLost l).modPages Page.closeTruncated (s.openEntries l)).linkUp (.head l) = false := by
    rw [State.modPages_frame]
    simp [State.linkUp, State.link, State.head, State.headLost, State.setHead, Link.toDown]
  rw [State.imagesLost, State.evalHeadDown, State.setRaw_raw _ (Ev.lane_source (by decide) l), down, Bool.not_false,
    Bool.and_true, State.modPages_frame]
  rfl

theorem State.imagesLost_event_ne (s : State) (l : LaneId) {c : Fin 20} (h : c ≠ Ev.headDown) :
    (s.imagesLost l).event c = s.event c := by
  rw [State.imagesLost, State.evalHeadDown, State.setRaw_event_ne _ _ _ h, State.modPages_frame]
  rfl

/-- Settles O37: the first move of the act closes the images, and its sub-acts are the verdicts of those pages, then
RUNOUT. -/
theorem headLinkLossClosesImages : Obligations.HeadLinkLossClosesImages := by
  intro s l up
  refine ⟨_, _, exec_lossOfSignal_head up, fun i p page lane opened => ?_, fun i p page other => ?_, ?_, ?_, ?_,
    s.imagesLost_headDown l, s.imagesLost_event_ne l (by decide), ?_⟩
  · have isOpen := (s.mem_openEntries l i).2 ⟨p, page, lane, opened⟩
    refine ⟨⟨p.closeTruncated, ?_, rfl, rfl, rfl, rfl⟩, List.mem_map_of_mem isOpen⟩
    rw [State.imagesLost_pageAt, if_pos isOpen, page, Option.map_some]
  · have notOpen : i ∉ s.openEntries l := by
      rw [State.mem_openEntries]
      rintro ⟨q, hq, lane, opened⟩
      rw [page] at hq
      cases hq
      tauto
    rw [State.imagesLost_pageAt, if_neg notOpen, page]
  · rw [State.imagesLost_head_self]
  · rw [State.imagesLost_head_self]
    rfl
  · rw [State.imagesLost_head_self]
  · rw [State.imagesLost_frame]
    rfl

end Sys2Proof.Machine
end

section
/-! Positions in order, slot lists and what is done to them (R116, R117, R120-R122), and the release head (R126). -/

namespace Sys2Proof.Machine

/- One proof after another: every thread of a parallel elaboration reserves memory, which the check limits. -/
set_option Elab.async false

/-! ### The order of positions -/

theorem SeqPos.before_iff (a b : SeqPos) : a.before b = true ↔ a.seq < b.seq ∨ a.seq = b.seq ∧ a.sub < b.sub := by
  simp [SeqPos.before]

theorem SeqPos.before_eq_false_iff (a b : SeqPos) :
    a.before b = false ↔ b.seq < a.seq ∨ b.seq = a.seq ∧ b.sub ≤ a.sub := by
  rw [Bool.eq_false_iff, ne_eq, SeqPos.before_iff]
  omega

theorem SeqPos.before_trans {a b c : SeqPos} (h : a.before b = true) (k : b.before c = true) : a.before c = true := by
  rw [SeqPos.before_iff] at *
  omega

theorem SeqPos.not_before_self (a : SeqPos) : a.before a = false := by
  rw [SeqPos.before_eq_false_iff]
  omega

theorem SeqPos.not_before_of_before {a b : SeqPos} (h : a.before b = true) : b.before a = false := by
  rw [SeqPos.before_iff] at h
  rw [SeqPos.before_eq_false_iff]
  omega

theorem SeqPos.not_before_trans {a b c : SeqPos} (h : a.before b = false) (k : b.before c = false) :
    a.before c = false := by
  rw [SeqPos.before_eq_false_iff] at *
  omega

/-- Of two positions that differ one is before the other. -/
theorem SeqPos.before_of_not_before {a b : SeqPos} (h : a.before b = false) (ne : a ≠ b) : b.before a = true := by
  obtain ⟨seq, sub⟩ := a
  obtain ⟨seq', sub'⟩ := b
  rw [SeqPos.before_eq_false_iff] at h
  rw [ne_eq, SeqPos.mk.injEq] at ne
  rw [SeqPos.before_iff]
  dsimp only at *
  omega

/-! ### Slots that enter a list (R117, R120) -/

theorem mem_insertSlot (q r : SeqPos) (slots : List SeqPos) : r ∈ insertSlot q slots ↔ r = q ∨ r ∈ slots := by
  induction slots with
  | nil => simp [insertSlot]
  | cons x xs ih =>
    unfold insertSlot
    split_ifs with same before
    · simp [same]
    · simp
    · rw [List.mem_cons, ih, List.mem_cons]
      tauto

/-- A slot that enters a list in position order takes the place its position gives. -/
theorem insertSlot_pairwise (q : SeqPos) {slots : List SeqPos}
    (h : slots.Pairwise fun a b => a.before b = true) :
    (insertSlot q slots).Pairwise fun a b => a.before b = true := by
  induction slots with
  | nil => exact List.pairwise_singleton _ q
  | cons x xs ih =>
    obtain ⟨first, rest⟩ := List.pairwise_cons.1 h
    unfold insertSlot
    split_ifs with same before
    · exact h
    · refine List.pairwise_cons.2 ⟨fun r mem => ?_, h⟩
      rcases List.mem_cons.1 mem with rfl | mem
      · exact before
      · exact SeqPos.before_trans before (first r mem)
    · refine List.pairwise_cons.2 ⟨fun r mem => ?_, ih rest⟩
      rcases (mem_insertSlot q r xs).1 mem with rfl | mem
      · exact SeqPos.before_of_not_before (Bool.eq_false_iff.2 before) same
      · exact first r mem

theorem insertSlot_length_le (q : SeqPos) (slots : List SeqPos) : (insertSlot q slots).length ≤ slots.length + 1 := by
  induction slots with
  | nil => rfl
  | cons x xs ih =>
    unfold insertSlot
    split_ifs
    · exact Nat.le_succ _
    · rfl
    · exact Nat.succ_le_succ ih

theorem openSlots_zero (pos : SeqPos) (slots : List SeqPos) : openSlots pos 0 slots = slots := rfl

/-- The slots of a rescan enter the list one after another. -/
theorem openSlots_succ (pos : SeqPos) (n : Nat) (slots : List SeqPos) :
    openSlots pos (n + 1) slots = insertSlot ⟨pos.seq, pos.sub + n⟩ (openSlots pos n slots) := by
  rw [openSlots, List.range_succ, List.foldl_append, ← openSlots]
  rfl

theorem mem_openSlots (pos r : SeqPos) (n : Nat) (slots : List SeqPos) : r ∈ openSlots pos n slots ↔
    r ∈ slots ∨ (r.seq = pos.seq ∧ pos.sub ≤ r.sub ∧ r.sub < pos.sub + n) := by
  induction n with
  | zero =>
    rw [openSlots_zero]
    exact ⟨.inl, fun h => h.resolve_right (by omega)⟩
  | succ n ih =>
    have last : r = ⟨pos.seq, pos.sub + n⟩ ↔ r.seq = pos.seq ∧ r.sub = pos.sub + n := by
      cases r
      exact SeqPos.mk.injEq .. ▸ Iff.rfl
    rw [openSlots_succ, mem_insertSlot, ih, last]
    by_cases mem : r ∈ slots
    · simp [mem]
    · simp only [mem, false_or]
      omega

theorem openSlots_pairwise (pos : SeqPos) (n : Nat) {slots : List SeqPos}
    (h : slots.Pairwise fun a b => a.before b = true) :
    (openSlots pos n slots).Pairwise fun a b => a.before b = true := by
  induction n with
  | zero => exact h
  | succ n ih =>
    rw [openSlots_succ]
    exact insertSlot_pairwise _ ih

theorem openSlots_length_le (pos : SeqPos) (n : Nat) (slots : List SeqPos) :
    (openSlots pos n slots).length ≤ slots.length + n := by
  induction n with
  | zero => rfl
  | succ n ih =>
    rw [openSlots_succ]
    exact (insertSlot_length_le _ _).trans (Nat.succ_le_succ ih)

/-! ### The conditions of a rescan (R116) -/

theorem State.countPages_pos (s : State) (f : Page → Bool) :
    0 < s.countPages f ↔ ∃ i p, s.pageAt i = some p ∧ f p = true := by
  simp [State.countPages_eq_card, Finset.card_pos, Finset.Nonempty, Option.any_eq_true]

theorem State.slotRangeRefused_iff (s : State) (l : LaneId) (pos : SeqPos) (n : Nat) :
    s.slotRangeRefused l pos n = true ↔ 4 < pos.sub + n
      ∨ (∃ i p, s.pageAt i = some p ∧ p.lane = l ∧ p.pos.seq = pos.seq ∧ pos.sub < p.pos.sub)
      ∨ (∃ q ∈ (s.lane l).slots, q.seq = pos.seq ∧ pos.sub < q.sub)
      ∨ (∃ q, (s.lane l).loan = some q ∧ q.seq = pos.seq ∧ pos.sub < q.sub)
      ∨ 8 < (s.lane l).slots.length + (if (s.lane l).loan.isSome then 1 else 0) + n := by
  simp only [State.slotRangeRefused, Bool.or_eq_true, decide_eq_true_eq, State.countPages_pos, Bool.and_eq_true,
    beq_iff_eq, List.any_eq_true, Option.any_eq_true, or_assoc]

/-- A rescan that is not refused keeps the slots, with the one on loan, at 8 or fewer. -/
theorem State.slots_room_of_granted {s : State} {l : LaneId} {pos : SeqPos} {n : Nat}
    (granted : s.slotRangeRefused l pos n = false) :
    (s.lane l).slots.length + (if (s.lane l).loan.isSome then 1 else 0) + n ≤ 8 := by
  by_contra full
  have refused := (s.slotRangeRefused_iff l pos n).2 (.inr (.inr (.inr (.inr (Nat.lt_of_not_le full)))))
  simp [granted] at refused

/-! ### One lane: its slot list and the loaned slot (R120) -/

namespace Lane.SlotsSound

variable {x y : Lane}

/-- Slots leave the list, and a loan goes on or ends (R121, R122, R123). -/
theorem shrunk (h : x.SlotsSound) (slots : y.slots.Sublist x.slots) (loan : y.loan = x.loan ∨ y.loan = none) :
    y.SlotsSound := by
  obtain ⟨order, few⟩ := h
  have fewer := slots.length_le
  refine ⟨order.sublist slots, ?_⟩
  rcases loan with same | none
  · rw [same]
    omega
  · rw [none]
    simp only [Option.isSome_none, Bool.false_eq_true, if_false]
    omega

/-- The least slot leaves the list to be on loan (R121). -/
theorem lent (h : x.SlotsSound) (slots : y.slots = x.slots.tail) (loan : y.loan = x.slots.head?) : y.SlotsSound := by
  obtain ⟨order, few⟩ := h
  refine ⟨slots ▸ order.tail, ?_⟩
  rw [slots, loan]
  cases list : x.slots with
  | nil => simp
  | cons q rest =>
    rw [list, List.length_cons] at few
    simp only [List.tail_cons, List.head?_cons, Option.isSome_some, if_true]
    omega

/-- The loaned slot returns to the list, which has room for it (R122). -/
theorem gaveUp (h : x.SlotsSound) (token : Nat) : (x.gaveUp token).SlotsSound := by
  obtain ⟨order, few⟩ := h
  unfold Lane.gaveUp
  cases loan : x.loan with
  | none => exact ⟨order, by simpa [loan] using few⟩
  | some q =>
    rw [loan] at few
    exact ⟨insertSlot_pairwise q order, (insertSlot_length_le q x.slots).trans few⟩

/-- The slots of a rescan find room when its last condition holds (R116, R117). -/
theorem opened (h : x.SlotsSound) (pos : SeqPos) {n : Nat}
    (room : x.slots.length + (if x.loan.isSome then 1 else 0) + n ≤ 8) :
    Lane.SlotsSound { x with slots := openSlots pos n x.slots } := by
  have more := openSlots_length_le pos n x.slots
  exact ⟨openSlots_pairwise pos n h.1, by dsimp only; omega⟩

end Lane.SlotsSound

/-! ### Pages in position order (R126) -/

theorem insertPage_perm (x : Fin 64 × Page) (ys : List (Fin 64 × Page)) : (insertPage x ys).Perm (x :: ys) := by
  induction ys with
  | nil => exact .refl _
  | cons y ys ih =>
    unfold insertPage
    split
    · exact .refl _
    · exact (ih.cons y).trans (.swap x y ys)

theorem insertPage_pairwise (x : Fin 64 × Page) {ys : List (Fin 64 × Page)}
    (h : ys.Pairwise fun a b => b.2.pos.before a.2.pos = false) :
    (insertPage x ys).Pairwise fun a b => b.2.pos.before a.2.pos = false := by
  induction ys with
  | nil => exact List.pairwise_singleton _ x
  | cons y ys ih =>
    obtain ⟨first, rest⟩ := List.pairwise_cons.1 h
    unfold insertPage
    split_ifs with before
    · have least := SeqPos.not_before_of_before before
      refine List.pairwise_cons.2 ⟨fun z mem => ?_, h⟩
      rcases List.mem_cons.1 mem with rfl | mem
      · exact least
      · exact SeqPos.not_before_trans (first z mem) least
    · refine List.pairwise_cons.2 ⟨fun z mem => ?_, ih rest⟩
      rcases List.mem_cons.1 ((insertPage_perm x ys).mem_iff.1 mem) with rfl | mem
      · exact Bool.eq_false_iff.2 before
      · exact first z mem

theorem sortPages_perm (ps : List (Fin 64 × Page)) : (sortPages ps).Perm ps := by
  induction ps with
  | nil => exact .refl _
  | cons p ps ih => exact (insertPage_perm p _).trans (ih.cons p)

theorem sortPages_pairwise (ps : List (Fin 64 × Page)) :
    (sortPages ps).Pairwise fun a b => b.2.pos.before a.2.pos = false := by
  induction ps with
  | nil => exact .nil
  | cons p ps ih => exact insertPage_pairwise p ih

/-! ### The release head (R125, R126) -/

/-- The live positions of pages: those of the lane's pages that are not QUEUED (R125). -/
theorem State.mem_livePages (s : State) (l : LaneId) (i : Fin 64) (p : Page) :
    (i, p) ∈ s.livePages l ↔ s.pageAt i = some p ∧ p.lane = l ∧ p.state ≠ .queued := by
  simp only [State.livePages, List.mem_filterMap, mem_allEntries, true_and]
  constructor
  · rintro ⟨j, live⟩
    cases page : s.pageAt j with
    | none => simp [page] at live
    | some q =>
      simp only [page, Option.ite_none_right_eq_some, Bool.and_eq_true, beq_iff_eq, bne_iff_ne, Option.some.injEq,
        Prod.mk.injEq] at live
      obtain ⟨⟨lane, state⟩, rfl, rfl⟩ := live
      exact ⟨page, lane, state⟩
  · rintro ⟨page, lane, state⟩
    exact ⟨i, by simp [page, lane, state]⟩

/-- No live page of the lane is before the first of those in order. -/
theorem State.livePages_sorted_first {s : State} {l : LaneId} {i : Fin 64} {p : Page} {rest : List (Fin 64 × Page)}
    (sorted : sortPages (s.livePages l) = (i, p) :: rest) :
    (s.pageAt i = some p ∧ p.lane = l ∧ p.state ≠ .queued)
      ∧ ∀ j q, s.pageAt j = some q → q.lane = l → q.state ≠ .queued → q.pos.before p.pos = false := by
  have order := sortPages_pairwise (s.livePages l)
  have mem (x : Fin 64 × Page) : x ∈ s.livePages l ↔ x = (i, p) ∨ x ∈ rest := by
    rw [← (sortPages_perm _).mem_iff, sorted, List.mem_cons]
  rw [sorted] at order
  refine ⟨(s.mem_livePages l i p).1 ((mem _).2 (.inl rfl)), fun j q page lane state => ?_⟩
  rcases (mem (j, q)).1 ((s.mem_livePages l j q).2 ⟨page, lane, state⟩) with same | later
  · cases same
    exact SeqPos.not_before_self _
  · exact (List.pairwise_cons.1 order).1 _ later

/-- Without a live page every page of the lane is QUEUED. -/
theorem State.livePages_sorted_nil {s : State} {l : LaneId} : sortPages (s.livePages l) = [] ↔
    ∀ j p, s.pageAt j = some p → p.lane = l → p.state = .queued := by
  have live : sortPages (s.livePages l) = [] ↔ s.livePages l = [] :=
    ⟨fun h => List.nil_perm.1 (h ▸ sortPages_perm _), fun h => by rw [h]; rfl⟩
  rw [live, List.eq_nil_iff_forall_not_mem, Prod.forall]
  simp only [State.mem_livePages, not_and, ne_eq, not_not]

/-- No slot is before the first of a list in position order. -/
theorem not_before_first {q : SeqPos} {rest : List SeqPos}
    (order : (q :: rest).Pairwise fun a b => a.before b = true) : ∀ r ∈ q :: rest, r.before q = false := by
  intro r mem
  rcases List.mem_cons.1 mem with rfl | mem
  · exact SeqPos.not_before_self _
  · exact SeqPos.not_before_of_before ((List.pairwise_cons.1 order).1 r mem)

section
variable {s : State} {l : LaneId} {x : Fin 64 × Page} {more : List (Fin 64 × Page)} {q : SeqPos} {rest : List SeqPos}

theorem State.releaseHead_of_none (sorted : sortPages (s.livePages l) = []) (slots : (s.lane l).slots = []) :
    s.releaseHead l = .none := by
  rw [State.releaseHead, sorted, slots]

theorem State.releaseHead_of_pages (sorted : sortPages (s.livePages l) = x :: more) (slots : (s.lane l).slots = []) :
    s.releaseHead l = .page x.1 x.2 := by
  rw [State.releaseHead, sorted, slots]

theorem State.releaseHead_of_slots (sorted : sortPages (s.livePages l) = []) (slots : (s.lane l).slots = q :: rest) :
    s.releaseHead l = .slot q := by
  rw [State.releaseHead, sorted, slots]

theorem State.releaseHead_of_both (sorted : sortPages (s.livePages l) = x :: more)
    (slots : (s.lane l).slots = q :: rest) :
    s.releaseHead l = if q.before x.2.pos then .slot q else .page x.1 x.2 := by
  rw [State.releaseHead, sorted, slots]

end

/-- Settles O40: the first of the live pages in order and the first slot are each least of their kind, and the release
head is the lesser of the two. -/
theorem releaseHeadIsLeastLive : Obligations.ReleaseHeadIsLeastLive := by
  intro s l ⟨order, _⟩
  cases sorted : sortPages (s.livePages l) with
  | nil =>
    have queued := State.livePages_sorted_nil.1 sorted
    cases slots : (s.lane l).slots with
    | nil =>
      rw [State.releaseHead_of_none sorted slots]
      exact ⟨fun _ _ h => (nomatch h), fun _ h => (nomatch h), fun _ => ⟨rfl, queued⟩, fun _ => rfl⟩
    | cons q rest =>
      rw [State.releaseHead_of_slots sorted slots]
      refine ⟨fun _ _ h => (nomatch h), ?_, fun h => (nomatch h), fun h => (nomatch h.1)⟩
      rintro _ ⟨⟩
      exact ⟨List.mem_cons_self, fun j p page lane state => absurd (queued j p page lane) state,
        not_before_first (slots ▸ order)⟩
  | cons x more =>
    obtain ⟨i, p⟩ := x
    obtain ⟨⟨page, lane, state⟩, least⟩ := State.livePages_sorted_first sorted
    cases slots : (s.lane l).slots with
    | nil =>
      rw [State.releaseHead_of_pages sorted slots]
      refine ⟨?_, fun _ h => (nomatch h), fun h => (nomatch h), fun ⟨_, queued⟩ => absurd (queued i p page lane) state⟩
      rintro _ _ ⟨⟩
      exact ⟨page, lane, state, least, nofun⟩
    | cons q rest =>
      have first := not_before_first (slots ▸ order)
      rw [State.releaseHead_of_both sorted slots]
      split_ifs with before
      · refine ⟨fun _ _ h => (nomatch h), ?_, fun h => (nomatch h), fun h => (nomatch h.1)⟩
        rintro _ ⟨⟩
        exact ⟨List.mem_cons_self, fun j r page lane state => SeqPos.not_before_trans (least j r page lane state)
          (SeqPos.not_before_of_before before), first⟩
      · refine ⟨?_, fun _ h => (nomatch h), fun h => (nomatch h), fun h => (nomatch h.1)⟩
        rintro _ _ ⟨⟩
        exact ⟨page, lane, state, least, fun r mem => SeqPos.not_before_trans (first r mem)
          (Bool.eq_false_iff.2 before)⟩

end Sys2Proof.Machine
end

section
/-! Slot lists (R120, R121, R122): every step keeps them in position order, with at most 8 slots beside the one on
loan. -/

namespace Sys2Proof.Machine

/- One proof after another: every thread of a parallel elaboration reserves memory, which the check limits. -/
set_option Elab.async false

/-! ### The lanes whose slots an operation leaves -/

/-- The pass of the FGC changes of a lane its state and speeds only (R30, R55). -/
theorem State.fgcPass_lane_keeps (s : State) (l : LaneId) :
    (s.fgcPass.lane l).slots = (s.lane l).slots ∧ (s.fgcPass.lane l).loan = (s.lane l).loan := by
  obtain ⟨x, hx⟩ : ∃ x, x = (if (s.lane l).adoptingFrom = none
      then (s.lane l).retarget (s.targetOf l) (s.groupRec l).slopeMs else s.lane l) := ⟨_, rfl⟩
  have targeted : x.slots = (s.lane l).slots ∧ x.loan = (s.lane l).loan := by
    rw [hx]
    split
    · rw [Lane.retarget_keeps]
      exact ⟨rfl, rfl⟩
    · exact ⟨rfl, rfl⟩
  rw [State.fgcPass_lane hx]
  split
  · exact targeted
  · exact targeted

/-! ### All lanes: updates -/

namespace SlotsSound

variable {s t : State}

/-- Changes of the lanes that leave the slot lists and the loans. -/
theorem kept (h : SlotsSound s)
    (lanes : ∀ l, (t.lane l).slots = (s.lane l).slots ∧ (t.lane l).loan = (s.lane l).loan) : SlotsSound t := by
  intro l
  obtain ⟨slots, loan⟩ := lanes l
  exact (h l).shrunk (slots ▸ .refl _) (.inl loan)

/-- An update beside the lanes. -/
theorem same (h : SlotsSound s) (lanes : t.lanes = s.lanes := by simp) : SlotsSound t :=
  h.kept fun l => by rw [lane_of_lanes lanes]; exact ⟨rfl, rfl⟩

/-- A change of one lane, and beside the lanes. -/
theorem ofLane (h : SlotsSound s) {l : LaneId} (others : OtherLanes s t l) (own : (t.lane l).SlotsSound) :
    SlotsSound t := by
  intro k
  by_cases e : k = l
  · rw [e]
    exact own
  · rw [others k e]
    exact h k

/-- A change of one lane that leaves its slot list and its loan, unless it is said otherwise. -/
theorem modLane (h : SlotsSound s) (l : LaneId) {f : Lane → Lane}
    (hf : (s.lane l).SlotsSound → (f (s.lane l)).SlotsSound := by exact id) : SlotsSound (s.modLane l f) :=
  h.ofLane (s.modLane_otherLanes l f) (by rw [State.modLane_lane_self]; exact hf (h l))

theorem modDfm (h : SlotsSound s) (l : LaneId) (f : Dfm → Dfm) : SlotsSound (s.modDfm l f) := h.modLane l

theorem modBatch (h : SlotsSound s) (l : LaneId) (f : Batch → Batch) : SlotsSound (s.modBatch l f) := h.modLane l

theorem setRaw (h : SlotsSound s) (c : Fin 20) (src : Nat) (level : Bool) : SlotsSound (s.setRaw c src level) := h.same

theorem occur (h : SlotsSound s) (c : Fin 20) (src : Nat) : SlotsSound (s.occur c src) := h.same

theorem modPage (h : SlotsSound s) (i : Fin 64) (f : Page → Page) : SlotsSound (s.modPage i f) := h.same

theorem freeEntry (h : SlotsSound s) (i : Fin 64) : SlotsSound (s.freeEntry i) := h.same

theorem evalDrift (h : SlotsSound s) (l : LaneId) : SlotsSound (s.evalDrift l) := (h.modDfm l _).setRaw _ _ _

theorem foldl {α : Type} (h : SlotsSound s) (f : State → α → State) (hf : ∀ u x, SlotsSound u → SlotsSound (f u x))
    (xs : List α) : SlotsSound (xs.foldl f s) :=
  List.foldlRecOn xs f h fun u hu x _ => hf u x hu

/-- One change of every lane that leaves its slot list and its loan. -/
theorem mapped (h : SlotsSound s) {f : Lane → Lane} (lanes : t.lanes = s.lanes.map f)
    (hf : ∀ x : Lane, (f x).slots = x.slots ∧ (f x).loan = x.loan := by exact fun _ => ⟨rfl, rfl⟩) : SlotsSound t :=
  h.kept fun l => by simpa [State.lane, lanes] using hf (s.lane l)

/-! ### Slots consumed, lent and returned (R121, R122) -/

/-- A pick takes the least slot on loan (R121). -/
theorem pick (h : SlotsSound s) (l : LaneId) (i : Fin 64) (pos : SeqPos) : SlotsSound (s.pick l i pos) := by
  refine h.ofLane (s.pick_otherLanes l i pos) ((h l).lent ?_ ?_)
  · rw [State.pick_lane_self, State.allocate_lane_self, Lane.takePos_eq]
  · rw [State.pick_lane_self]

/-- The leading edge ends the loan (R122). -/
theorem leadingEdge (h : SlotsSound s) (l : LaneId) (i : Fin 64) : SlotsSound (s.leadingEdge l i) := by
  obtain ⟨g, lane⟩ := s.leadingEdge_lane_self l i
  exact h.ofLane (s.leadingEdge_otherLanes l i) (by rw [lane]; exact (h l).shrunk (.refl _) (.inr rfl))

/-- An unexpected sheet consumes the least slot without a loan (R121). -/
theorem unexpectedSheet (h : SlotsSound s) (l : LaneId) (i : Fin 64) (pos : SeqPos) :
    SlotsSound (s.unexpectedSheet l i pos) := by
  obtain ⟨sh, w, lane, _⟩ := s.sheetTaken_lane_self l i pos
  obtain ⟨f, misfeed, wait, changed, own, _⟩ := s.unexpectedSheet_eq l i pos
  have taken : SlotsSound (s.sheetTaken l i pos) :=
    h.ofLane (s.sheetTaken_otherLanes l i pos) (by rw [lane]; exact (h l).shrunk (List.tail_sublist _) (.inl rfl))
  rw [changed]
  exact taken.modLane l fun sound => by rw [own]; exact sound

/-- A page given up returns its slot (R122). -/
theorem giveUpPick (h : SlotsSound s) (l : LaneId) (i : Fin 64) : SlotsSound (s.giveUpPick l i) :=
  (h.modLane l (f := fun x => x.gaveUp (s.tokenOf i)) fun sound => sound.gaveUp _).freeEntry i

/-- A jam ends the loan (R122). -/
theorem onJam (h : SlotsSound s) (l : LaneId) (cause : JamCause) : SlotsSound (Machine.onJam l cause s).1 := by
  unfold Machine.onJam
  split
  · refine h.ofLane (s.toJammed_otherLanes l cause) ?_
    rw [State.toJammed_lane_self]
    exact (h l).shrunk (.refl _) (.inr rfl)
  · exact h

/-! ### The Double-Feed Monitor -/

theorem onSamples (h : SlotsSound s) (l : LaneId) : SlotsSound (Machine.onSamples l s).1 := by
  unfold Machine.onSamples
  split
  · exact (h.modDfm l _).foldl _ (fun _ _ k => k.same (State.modToken_lanes _ _ _)) _
  · exact h

theorem onAir (h : SlotsSound s) (l : LaneId) : SlotsSound (Machine.onAir l s).1 := by
  have sampled (a : Nat) {u : State} (k : SlotsSound u) : SlotsSound (u.airSample l a) := by
    obtain ⟨own, others⟩ := u.airSample_becomes l a
    exact k.ofLane others (by rw [own]; exact k l)
  unfold Machine.onAir
  dsimp only
  split_ifs
  · exact sampled _ (h.modDfm l _)
  · exact h.modDfm l _
  · exact h

/-! ### The Lane Transport Controller -/

theorem toRunout (h : SlotsSound s) (l : LaneId) : SlotsSound (s.toRunout l) := by
  rw [State.toRunout_eq]
  exact h.modLane l

theorem drained (h : SlotsSound s) (l : LaneId) : SlotsSound (s.modLane l Lane.drained) :=
  h.modLane l fun sound => by rwa [Lane.drained_eq]

theorem onFgc (h : SlotsSound s) : SlotsSound (Machine.onFgc s).1 := h.kept s.fgcPass_lane_keeps

theorem toRampUp (h : SlotsSound s) (l : LaneId) : SlotsSound (s.toRampUp l) :=
  h.ofLane (s.toRampUp_otherLanes l) (by rw [State.toRampUp_lane_self]; exact h l)

theorem toRest (h : SlotsSound s) (l : LaneId) : SlotsSound (s.toRest l) :=
  h.ofLane (s.toRest_otherLanes l) (by rw [State.toRest_lane_self]; exact h l)

theorem onSpeedCheck (h : SlotsSound s) (l : LaneId) : SlotsSound (Machine.onSpeedCheck l s).1 := by
  unfold Machine.onSpeedCheck
  split_ifs with ends
  · rw [State.leaveRampUp, if_pos ends]
    exact h.modLane l
  · exact h.toRest l
  · exact h

theorem onHolds (h : SlotsSound s) : SlotsSound (Machine.onHolds s).1 := by
  have held : SlotsSound s.holdAll := h.kept fun l => by rw [State.holdAll_lane]; exact ⟨rfl, rfl⟩
  have drawn (l : LaneId) (ls : List LaneId) : SlotsSound (s.holdAll.takeOne l ls).2 := held.same
  unfold Machine.onHolds feedNext
  split
  · exact held.modLane _
  · exact held
  · exact (drawn _ _).modLane _

theorem trayFoundEmpty (h : SlotsSound s) (l : LaneId) : SlotsSound (Machine.trayFoundEmpty l s).1 := by
  unfold Machine.trayFoundEmpty
  split
  · exact h.toRunout l
  · exact h.modLane l

theorem onPickTest (h : SlotsSound s) (l : LaneId) : SlotsSound (Machine.onPickTest l s).1 := by
  unfold Machine.onPickTest
  split
  · split
    · split
      · exact h.pick l _ _
      · exact h.modLane l
      · exact h.modLane l
    · exact h.trayFoundEmpty l
  · exact h

theorem leadingEdgeTaken (h : SlotsSound s) (l : LaneId) : SlotsSound (Machine.leadingEdgeTaken l s).1 := by
  unfold Machine.leadingEdgeTaken
  split
  · exact h.leadingEdge l _
  · split
    · split
      · exact h.unexpectedSheet l _ _
      · exact h
    · exact h

theorem trailingEdgeTaken (h : SlotsSound s) (l : LaneId) : SlotsSound (Machine.trailingEdgeTaken l s).1 := by
  unfold Machine.trailingEdgeTaken
  split
  · rename_i token _
    exact (h.modLane l (f := fun x => x.passed token)).same (s.trailingEdge_lanes l token)
  · exact h

theorem onEdge (h : SlotsSound s) (l : LaneId) : SlotsSound (Machine.onEdge l s).1 := by
  have noted := h.modLane l (f := fun x => { x with lastSensor := x.entryBlocked })
  unfold Machine.onEdge
  dsimp only
  split
  · split
    · exact noted.leadingEdgeTaken l
    · exact noted.trailingEdgeTaken l
  · exact h

theorem adoptEnabled (h : SlotsSound s) (l : LaneId) : SlotsSound (s.adoptEnabled l) := by
  unfold State.adoptEnabled
  split
  case h_1 =>
    split
    · exact h.modLane l
    · exact h
  case h_2 =>
    split
    · exact h
    · exact h.modLane l
  case h_3 | h_4 | h_5 | h_6 =>
    split
    · exact h
    · exact h.toRunout l
  case h_7 | h_8 | h_9 => exact h

theorem onScheduled (h : SlotsSound s) (l : LaneId) : SlotsSound (Machine.onScheduled l s).1 := by
  have gated (sel : Sheet → Bool) (g : GateProgress) : SlotsSound (s.setGate l sel g) := h.modLane l
  unfold Machine.onScheduled
  dsimp only
  split
  · split
    · exact (gated _ _).same (State.gateOpen_lanes _ _ _)
    · split
      · exact (gated _ _).same (State.gateClose_lanes _ _ _ _)
      · split
        · exact h.modLane l
        · exact h
  · exact h

/-! ### Release -/

theorem takePage (h : SlotsSound s) (l : LaneId) (i : Fin 64) (p : Page) : SlotsSound (Machine.takePage l i p s).1 := by
  have taken := h.modBatch l fun b => { b with opened := true }
  unfold Machine.takePage
  dsimp only
  split_ifs
  · exact taken.occur _ _
  · exact taken
  · exact taken

theorem onAttempt (h : SlotsSound s) (l : LaneId) (token : Nat) : SlotsSound (Machine.onAttempt l token s).1 := by
  have admitted (i : Fin 64) (size : Nat) (cs : List ChanId) : SlotsSound (s.admitCopies l i token size cs) := by
    have copied := h.foldl (State.enqueue token size) (fun _ _ k => k.same rfl) cs
    exact ((copied.modPage i _).modBatch l _).setRaw _ _ _
  have refused : SlotsSound (s.refuse l token) := by
    unfold State.refuse
    split
    · exact h.modBatch l _
    · exact h
  unfold Machine.onAttempt
  split
  · exact h
  · split
    · split
      · exact h
      · split
        · exact admitted _ _ _
        · exact refused
    · exact h

/-! ### Each sub-act -/

theorem handle (task : Task) (h : SlotsSound s) : SlotsSound (Machine.handle task s).1 := by
  cases task with
  | fgc => exact h.onFgc
  | holds => exact h.onHolds
  | pickTest l => exact h.onPickTest l
  | edge l => exact h.onEdge l
  | jam l c => exact h.onJam l c
  | scheduled l => exact h.onScheduled l
  | adoptLtc l => exact (h.adoptEnabled l).setRaw _ _ _
  | adoptDfm l => exact (h.modDfm l _).evalDrift l
  | adoptFgc l => exact (h.modLane l (f := fun x => { x with adoptingFrom := none })).onFgc
  | speedCheck l => exact h.onSpeedCheck l
  | air l => exact h.onAir l
  | samples l => exact h.onSamples l
  | attempt l token => exact h.onAttempt l token
  | adoptLsq l => exact h.modBatch l _
  | adoptEnd => exact h.occur _ _
  | runoutTest l =>
    rw [handle_runoutTest, onRunoutTest]
    split
    · exact h.drained l
    · exact h
  | enterRunout l =>
    rw [handle_enterRunout, onEnterRunout]
    split
    · exact h.toRunout l
    · exact h
  | assemble token =>
    rw [handle_assemble, onAssemble]
    split
    · exact h
    · split
      · dsimp only
        split
        · exact h.modPage _ _
        · exact (h.modPage _ _).occur _ _
      · exact h
  | adopt l =>
    rw [handle_adopt, onAdopt]
    split
    · exact h
    · rename_i g _
      split
      · exact h
      · exact (h.modLane l (f := fun x => { x with gen := g, adopted := true, adoptingFrom := some x.gen })).same rfl
  | retire =>
    rw [handle_retire, onRetire]
    split
    · split
      · exact h.mapped (f := fun x => { x with adopted := false }) rfl
      · exact h
    · exact h
  | release l =>
    rw [handle_release, onRelease]
    split
    · split
      · exact h.takePage l _ _
      · exact h
    · exact h
    · exact h
  | adoptMoment l =>
    rw [handle_adoptMoment, onAdoptMoment]
    split <;> exact h
  | adoptAll ls =>
    rw [handle_adoptAll, onAdoptAll]
    unfold adoptNext
    split
    · exact h
    · exact h
    · exact h.same
  | adoptChannels old =>
    rw [handle_adoptChannels, onAdoptChannels]
    split <;> exact h
  | newBatch l token =>
    rw [handle_newBatch, onNewBatch]
    split
    · exact h
    · exact (h.modBatch l _).occur _ _
  | lsqMarks l token action blankDrop =>
    rw [handle_lsqMarks, onLsqMarks]
    split
    · exact h
    · dsimp only
      split
      · exact (h.modBatch l _).freeEntry _
      · exact h.modBatch l _
  | lsqNumber l token =>
    rw [handle_lsqNumber, onLsqNumber]
    split
    · exact h
    · dsimp only
      split
      · exact ((h.modPage _ _).modBatch l _).occur _ _
      · exact (h.modPage _ _).modBatch l _
  | retries c =>
    rw [handle_retries, onRetries]
    unfold retryNext
    split
    · exact h
    · exact h.same
  | fillEval c =>
    rw [handle_fillEval, onFillEval]
    split
    · exact h
    · exact h.same
  | gapPick l =>
    rw [handle_gapPick, onGapPick]
    split <;> exact h
  | jamChecks l =>
    rw [handle_jamChecks, onJamChecks]
    split_ifs <;> exact h

/-! ### The commands that touch a lane beside their sub-acts -/

theorem forwardStep (h : SlotsSound s) (l : LaneId) (a : BitVec 10) : SlotsSound (Machine.forwardStep l a s).1 := by
  by_cases rest : (s.lane l).state.resting = true
  · rw [forwardStep_of_resting a rest]
    exact h.modLane l
  · by_cases new : ((s.lane l).high : Int) < (s.lane l).nextCounter
    · rw [forwardStep_of_new a (by simpa using rest) new]
      exact h.modLane l
    · rw [forwardStep_of_not_new a (by simpa using rest) new]
      exact h.modLane l

theorem reverseStep (h : SlotsSound s) (l : LaneId) : SlotsSound (Machine.reverseStep l s).1 := by
  unfold Machine.reverseStep
  split
  · exact h
  · exact h.modLane l

theorem trayChange (h : SlotsSound s) (l : LaneId) (paper : Bool) : SlotsSound (Machine.trayChange l paper s).1 := by
  have noted := h.modLane l (f := fun x => { x with trayPaper := paper })
  unfold Machine.trayChange
  dsimp only
  split
  · exact noted.modLane l
  · exact noted

theorem rampPeriod (h : SlotsSound s) (l : LaneId) : SlotsSound (s.modLane l Lane.rampPeriod) := by
  refine h.modLane l fun sound => ?_
  unfold Lane.rampPeriod
  split <;> exact sound

theorem misfeedExhausted (h : SlotsSound s) (l : LaneId) (i : Fin 64) :
    SlotsSound (Machine.misfeedExhausted l i s).1 := by
  have given := (h.giveUpPick l i).occur Ev.feedFailure l.val
  unfold Machine.misfeedExhausted
  dsimp only
  split_ifs
  · exact given.toRunout l
  · exact given.drained l
  · exact given

theorem misfeedExpiry (h : SlotsSound s) (l : LaneId) : SlotsSound (Machine.misfeedExpiry l s).1 := by
  unfold Machine.misfeedExpiry
  split
  · split_ifs
    · exact (h.modPage _ _).modLane l
    · exact h.misfeedExhausted l _
    · exact h.misfeedExhausted l _
    · exact h
  · exact h

theorem retryEnd (h : SlotsSound s) (l : LaneId) : SlotsSound (Machine.retryEnd l s).1 := by
  unfold Machine.retryEnd
  split
  · split_ifs
    · exact h.modLane l
    · exact (h.giveUpPick l _).trayFoundEmpty l
    · exact h
  · exact h

theorem waitExpiry (h : SlotsSound s) (l : LaneId) : SlotsSound (Machine.waitExpiry l s).1 := by
  unfold Machine.waitExpiry
  split
  · split
    · exact h
    · exact (h.modBatch l _).setRaw _ _ _
  · exact h

theorem startLane (h : SlotsSound s) (l : LaneId) : SlotsSound (Machine.startLane l s).1.1 := by
  unfold Machine.startLane
  split
  · exact h
  · split
    case h_1 => exact (h.modLane l (f := Lane.zeroCounter)).toRampUp l
    case h_2 => exact h.modLane l
    case h_3 => exact h.toRampUp l
    all_goals exact h

theorem clearLane (h : SlotsSound s) (l : LaneId) : SlotsSound (Machine.clearLane l s).1.1 := by
  unfold Machine.clearLane
  split
  · exact (h.toRest l).modLane l
  · exact h

/-- The slots of a rescan that is not refused are at most 8 with those that are open and on loan (R116, R117). -/
theorem rescanPage (h : SlotsSound s) (token n : Nat) : SlotsSound (Machine.rescanPage token n s).1.1 := by
  unfold Machine.rescanPage
  split
  · exact h
  · split
    · exact h
    · split
      · exact h
      · rename_i i p _ granted
        have freed := h.freeEntry i
        refine freed.modLane p.lane fun sound => sound.opened p.pos ?_
        rw [lane_of_lanes (s.freeEntry_lanes i)]
        exact State.slots_room_of_granted (Bool.eq_false_iff.2 granted)

theorem cancelSlot (h : SlotsSound s) (l : LaneId) (pos : SeqPos) : SlotsSound (Machine.cancelSlot l pos s).1.1 := by
  unfold Machine.cancelSlot
  split
  · exact h.modLane l fun sound => sound.shrunk List.erase_sublist (.inl rfl)
  · exact h

theorem loadTable (h : SlotsSound s) (table index : Nat) (record : List Byte) :
    SlotsSound (Machine.loadTable table index record s).1.1 := by
  unfold Machine.loadTable
  split
  · exact h
  · split
    · exact h
    · split
      · exact h
      · split
        · exact h
        · exact h
        · exact h.same rfl

theorem copyComplete (h : SlotsSound s) : SlotsSound (Machine.copyComplete s).1 := by
  unfold Machine.copyComplete
  split
  · exact h.same (State.occur_lanes _ _ _)
  · exact h

/-! ### Resets (R131) -/

theorem ofEmpty (h : ∀ l, (s.lane l).slots = [] ∧ (s.lane l).loan = none) : SlotsSound s := by
  intro l
  obtain ⟨slots, loan⟩ := h l
  simp [Lane.SlotsSound, slots, loan]

theorem hardReset (s : State) (cause : ResetCause) : SlotsSound (s.hardReset cause) :=
  ofEmpty fun l => by simp [State.hardReset, State.lane, Lane.hardReset, Lane.reset]

/-- A line reset empties the slot lists and ends the loans, and what follows in it leaves them. -/
theorem lineReset (s : State) : SlotsSound s.lineReset := by
  have reset (u : State) : SlotsSound { u with lanes := u.lanes.map Lane.lineReset } := ofEmpty fun l => by
    simp [State.lane, Lane.lineReset, Lane.hardReset, Lane.reset]
  refine SlotsSound.occur (SlotsSound.foldl (SlotsSound.foldl (SlotsSound.foldl (reset _) State.restAtReset ?_ _)
    State.laneRawsAtReset ?_ _) State.chanRawsAtReset ?_ _) _ _
  · exact fun _ l k => k.modLane l
  · exact fun _ _ k => (((k.setRaw _ _ _).setRaw _ _ _).setRaw _ _ _).setRaw _ _ _
  · exact fun _ _ k => (k.setRaw _ _ _).setRaw _ _ _

end SlotsSound

/-! ### The obligation -/

theorem slotsSound_kept : KeptByCommands SlotsSound where
  same h lanes _ := h.same lanes
  task task _ h := h.handle task
  tick h := h.mapped (f := Lane.tick) rfl
  hardReset _ _ _ := .hardReset _ _
  lineReset _ := .lineReset _
  forwardStep l a _ h := h.forwardStep l a
  reverseStep l _ h := h.reverseStep l
  entrySensor l _ _ h := h.modLane l
  trayChange l paper _ h := h.trayChange l paper
  rampPeriod l _ h := h.rampPeriod l
  misfeedExpiry l _ h := h.misfeedExpiry l
  retryEnd l _ h := h.retryEnd l
  waitExpiry l _ h := h.waitExpiry l
  startLane l _ h := h.startLane l
  clearLane l _ h := h.clearLane l
  rescanPage token n _ h := h.rescanPage token n
  cancelSlot l pos _ h := h.cancelSlot l pos
  loadTable table index record _ h := h.loadTable table index record
  makePending h := h.mapped (f := fun x => { x with adopted := false }) rfl
  copyComplete h := h.copyComplete

/-- Settles O14: slots enter at their place, a rescan asks for room first, a returned slot ends its loan, and all else
shrinks the list or leaves it. -/
theorem stepKeepsSlotLists : Obligations.StepKeepsSlotLists := fun _ _ h ran => slotsSound_kept.step h ran

end Sys2Proof.Machine
end

section
/-! PAGE_RESOLVE and SLOT_CANCEL (R113-R117, R123): what each is refused for, and what it makes of a page, of a slot
list and of what follows. -/

namespace Sys2Proof.Machine

/- One proof after another: every thread of a parallel elaboration reserves memory, which the check limits. -/
set_option Elab.async false

/-! ### The HELD page (R113) -/

theorem State.heldPage_eq_some (s : State) (token : Nat) (i : Fin 64) (p : Page) :
    s.heldPage token = some (i, p) ↔ s.live token = some (i, p) ∧ p.state = .held := by
  unfold State.heldPage
  cases live : s.live token with
  | none => simp
  | some x =>
    obtain ⟨j, q⟩ := x
    simp only [Option.ite_none_right_eq_some, Option.some.injEq, Prod.mk.injEq]
    constructor
    · rintro ⟨state, rfl, rfl⟩
      exact ⟨⟨rfl, rfl⟩, state⟩
    · rintro ⟨⟨rfl, rfl⟩, state⟩
      exact ⟨state, rfl, rfl⟩

theorem State.heldPage_eq_none (s : State) (token : Nat) :
    s.heldPage token = none ↔ ∀ i p, s.live token = some (i, p) → p.state ≠ .held := by
  rw [Option.eq_none_iff_forall_ne_some, Prod.forall]
  simp only [ne_eq, State.heldPage_eq_some, not_and]

@[simp] theorem State.takeOff_heldPage (s : State) (k : Trunk) (token : Nat) :
    (s.takeOff k).heldPage token = s.heldPage token := by
  cases k <;> rfl

@[simp] theorem State.takeOff_slotRangeRefused (s : State) (k : Trunk) (l : LaneId) (pos : SeqPos) (n : Nat) :
    (s.takeOff k).slotRangeRefused l pos n = s.slotRangeRefused l pos n := by
  cases k <;> rfl

/-! ### The three actions and a cancelled slot -/

section
variable {s : State} {token n : Nat} {i : Fin 64} {p : Page}

theorem acceptPage_not_held (h : s.heldPage token = none) : acceptPage token s = ((s, []), .notHeld) := by
  rw [acceptPage, h]

theorem acceptPage_held (h : s.heldPage token = some (i, p)) :
    acceptPage token s = ((s.modPage i Page.accepted, [.holds, .release p.lane]), .ok) := by
  rw [acceptPage, h]

theorem dropPage_not_held (h : s.heldPage token = none) : dropPage token s = ((s, []), .notHeld) := by
  rw [dropPage, h]

theorem dropPage_held (h : s.heldPage token = some (i, p)) :
    dropPage token s = ((s.freeEntry i, [.holds, .release p.lane, .adoptMoment p.lane]), .ok) := by
  rw [dropPage, h]
  rfl

/-- The state after a RESCAN: the page is freed and its slots are open (R117). -/
def State.rescanned (s : State) (i : Fin 64) (p : Page) (n : Nat) : State :=
  (s.freeEntry i).modLane p.lane fun x => { x with slots := openSlots p.pos n x.slots }

theorem rescanPage_range (h : n < 1 ∨ 4 < n) : rescanPage token n s = ((s, []), .range) := by
  rw [rescanPage, if_pos h]

theorem rescanPage_not_held (low : 1 ≤ n) (high : n ≤ 4) (h : s.heldPage token = none) :
    rescanPage token n s = ((s, []), .notHeld) := by
  rw [rescanPage, if_neg (by omega), h]

theorem rescanPage_refused (low : 1 ≤ n) (high : n ≤ 4) (h : s.heldPage token = some (i, p))
    (refused : s.slotRangeRefused p.lane p.pos n = true) : rescanPage token n s = ((s, []), .slotRange) := by
  rw [rescanPage, if_neg (by omega), h]
  exact if_pos refused

theorem rescanPage_granted (low : 1 ≤ n) (high : n ≤ 4) (h : s.heldPage token = some (i, p))
    (granted : s.slotRangeRefused p.lane p.pos n = false) : rescanPage token n s =
      ((s.rescanned i p n, [.holds, .release p.lane, .adoptMoment p.lane]), .ok) := by
  rw [rescanPage, if_neg (by omega), h]
  exact if_neg (by simp [granted])

end

theorem State.rescanned_lane_self (s : State) (i : Fin 64) (p : Page) (n : Nat) : (s.rescanned i p n).lane p.lane =
    { s.lane p.lane with slots := openSlots p.pos n (s.lane p.lane).slots } := by
  rw [State.rescanned, State.modLane_lane_self, lane_of_lanes (s.freeEntry_lanes i)]

theorem State.rescanned_otherLanes (s : State) (i : Fin 64) (p : Page) (n : Nat) :
    OtherLanes s (s.rescanned i p n) p.lane := by
  intro k hk
  rw [State.rescanned, State.modLane_lane_ne _ _ _ _ hk.symm, lane_of_lanes (s.freeEntry_lanes i)]

theorem cancelSlot_open {s : State} {l : LaneId} {pos : SeqPos} (h : pos ∈ (s.lane l).slots) : cancelSlot l pos s =
    ((s.modLane l fun x => { x with slots := x.slots.erase pos }, [.holds, .release l, .adoptMoment l]), .ok) := by
  rw [cancelSlot, if_pos h]

theorem cancelSlot_not_open {s : State} {l : LaneId} {pos : SeqPos} (h : pos ∉ (s.lane l).slots) :
    cancelSlot l pos s = ((s, []), .noSlot) := by
  rw [cancelSlot, if_neg h]

/-! ### Carrying out PAGE_RESOLVE (R113, R186) -/

/-- A request of the row whose body answers without a record. -/
theorem serve_answered {want : Request → Bool} {body : List Byte → State → Answer} {s u : State} {k : Trunk}
    {r : Request} {ts : List Task} {st : Status} (h : s.nextRequest = some (k, r)) (row : want r = true)
    (answer : body r.payload (s.takeOff k) = .plain ((u, ts), st)) :
    serve want body s = act (u.answered k r st, ts) := by
  rw [serve_act h row, answer]
  rfl

/-- A PAGE_RESOLVE as it stands in a request queue. -/
def resolveRequest (tag token a n : Byte) : Request := ⟨7, tag, [token, a, n]⟩

section
variable {s u : State} {k : Trunk} {tag token a n : Byte} {c : Nat} {f : Nat → Nat → State → Move × Status}
  {ts : List Task} {st : Status}

theorem isResolve_resolveRequest (tag token a n : Byte) (c : Nat) :
    Request.isResolve c (resolveRequest tag token a n) = true ↔ a.toNat = c ∨ 2 < a.toNat := by
  simp [Request.isResolve, Request.isKind, resolveRequest, field, ofLe]

/-- The body takes the token, the action and n from the three bytes. -/
theorem bodyResolve_resolveRequest (tag token a n : Byte) (s : State) :
    bodyResolve c f (resolveRequest tag token a n).payload s =
      if a.toNat = c then .plain (f token.toNat n.toNat s) else .refuse s .range := by
  rw [bodyResolve, sized, if_pos (by rfl)]
  simp [resolveRequest, field, ofLe]

/-- The row of the action carries it out on the token and the operand n. -/
theorem serve_resolve (h : s.nextRequest = some (k, resolveRequest tag token a n)) (named : a.toNat = c)
    (hf : f token.toNat n.toNat (s.takeOff k) = ((u, ts), st)) :
    serve (Request.isResolve c) (bodyResolve c f) s = act (u.answered k (resolveRequest tag token a n) st, ts) :=
  serve_answered h ((isResolve_resolveRequest tag token a n c).2 (.inl named))
    (by rw [bodyResolve_resolveRequest, if_pos named, hf])

/-- Every row refuses an action above 2 (log 3). -/
theorem serve_resolve_unnamed (h : s.nextRequest = some (k, resolveRequest tag token a n)) (unnamed : 2 < a.toNat)
    (row : c ≤ 2) : serve (Request.isResolve c) (bodyResolve c f) s =
      act ((s.takeOff k).answered k (resolveRequest tag token a n) .range, []) :=
  serve_answered h ((isResolve_resolveRequest tag token a n c).2 (.inr unnamed))
    (by rw [bodyResolve_resolveRequest, if_neg (by omega)]; rfl)

theorem exec_pageResolveAccept (h : s.nextRequest = some (k, resolveRequest tag token 0 n))
    (hf : acceptPage token.toNat (s.takeOff k) = ((u, ts), st)) :
    exec .pageResolveAccept s = act (u.answered k (resolveRequest tag token 0 n) st, ts) :=
  serve_resolve (f := fun token _ => acceptPage token) h rfl hf

theorem exec_pageResolveDrop (h : s.nextRequest = some (k, resolveRequest tag token 1 n))
    (hf : dropPage token.toNat (s.takeOff k) = ((u, ts), st)) :
    exec .pageResolveDrop s = act (u.answered k (resolveRequest tag token 1 n) st, ts) :=
  serve_resolve (f := fun token _ => dropPage token) h rfl hf

theorem exec_pageResolveRescan (h : s.nextRequest = some (k, resolveRequest tag token 2 n))
    (hf : rescanPage token.toNat n.toNat (s.takeOff k) = ((u, ts), st)) :
    exec .pageResolveRescan s = act (u.answered k (resolveRequest tag token 2 n) st, ts) :=
  serve_resolve h rfl hf

theorem exec_resolve_unnamed {i : Instr} (h : s.nextRequest = some (k, resolveRequest tag token a n))
    (row : i = .pageResolveAccept ∨ i = .pageResolveDrop ∨ i = .pageResolveRescan) (unnamed : 2 < a.toNat) :
    exec i s = act ((s.takeOff k).answered k (resolveRequest tag token a n) .range, []) := by
  rcases row with rfl | rfl | rfl
  · exact serve_resolve_unnamed h unnamed (by decide)
  · exact serve_resolve_unnamed h unnamed (by decide)
  · exact serve_resolve_unnamed h unnamed (by decide)

end

/-- Settles O38: each clause fixes which of the tests of R113 is the first to fail, and a request that fails one has no
effect. -/
theorem resolveRefusedInOrder : Obligations.ResolveRefusedInOrder := by
  intro s k tag token n
  refine ⟨fun next count => ?_, fun a i unnamed row next => ?_, fun a i row next unheld => ?_,
    fun next low high j p live held refused => ?_⟩
  · exact completes_untouched (exec_pageResolveRescan next (rescanPage_range count))
  · exact completes_untouched (exec_resolve_unnamed next row unnamed)
  · have none : (s.takeOff k).heldPage token.toNat = none := by
      rw [State.takeOff_heldPage, State.heldPage_eq_none]
      exact unheld
    rcases row with ⟨rfl, rfl⟩ | ⟨rfl, rfl⟩ | ⟨rfl, rfl, low, high⟩
    · exact completes_untouched (exec_pageResolveAccept next (acceptPage_not_held none))
    · exact completes_untouched (exec_pageResolveDrop next (dropPage_not_held none))
    · exact completes_untouched (exec_pageResolveRescan next (rescanPage_not_held low high none))
  · have named : (s.takeOff k).heldPage token.toNat = some (j, p) := by
      rw [State.takeOff_heldPage, State.heldPage_eq_some]
      exact ⟨live, held⟩
    refine completes_untouched (exec_pageResolveRescan next (rescanPage_refused low high named ?_))
    rw [State.takeOff_slotRangeRefused, State.slotRangeRefused_iff]
    exact refused

end Sys2Proof.Machine
end

section
/-! The requests of the Hold and Release Unit that are carried out: ACCEPT, DROP and RESCAN of a HELD page, and
SLOT_CANCEL (R114, R115, R117, R123). -/

namespace Sys2Proof.Machine

/- One proof after another: every thread of a parallel elaboration reserves memory, which the check limits. -/
set_option Elab.async false

/-! ### What is beside a request and its reply -/

section
variable (s : State) (k : Trunk) (r : Request) (st : Status)

@[simp] theorem State.takeOff_lanes : (s.takeOff k).lanes = s.lanes := by cases k <;> rfl
@[simp] theorem State.takeOff_pool : (s.takeOff k).pool = s.pool := by cases k <;> rfl
@[simp] theorem State.takeOff_channels : (s.takeOff k).channels = s.channels := by cases k <;> rfl
@[simp] theorem State.takeOff_events : (s.takeOff k).events = s.events := by cases k <;> rfl
@[simp] theorem State.takeOff_entry (i : Fin 64) : (s.takeOff k).entry i = s.entry i := by cases k <;> rfl
@[simp] theorem State.takeOff_pageAt (i : Fin 64) : (s.takeOff k).pageAt i = s.pageAt i := by cases k <;> rfl
@[simp] theorem State.answered_lanes : (s.answered k r st).lanes = s.lanes := by cases k <;> rfl
@[simp] theorem State.answered_pool : (s.answered k r st).pool = s.pool := by cases k <;> rfl
@[simp] theorem State.answered_channels : (s.answered k r st).channels = s.channels := by cases k <;> rfl
@[simp] theorem State.answered_events : (s.answered k r st).events = s.events := by cases k <;> rfl
@[simp] theorem State.answered_entry (i : Fin 64) : (s.answered k r st).entry i = s.entry i := by cases k <;> rfl
@[simp] theorem State.answered_pageAt (i : Fin 64) : (s.answered k r st).pageAt i = s.pageAt i := by cases k <;> rfl

end

@[simp] theorem State.freeEntry_channels (s : State) (i : Fin 64) : (s.freeEntry i).channels = s.channels := by
  rw [State.freeEntry_frame]

@[simp] theorem State.freeEntry_events (s : State) (i : Fin 64) : (s.freeEntry i).events = s.events := by
  rw [State.freeEntry_frame]

/-- Every entry but one is as it was before the request was taken off, and stays so under the reply. -/
theorem answered_otherEntries {s u : State} {i : Fin 64} (k : Trunk) (r : Request) (st : Status)
    (h : OtherEntries (s.takeOff k) u i) : OtherEntries s (u.answered k r st) i := by
  intro j hj
  rw [State.answered_entry, h j hj, State.takeOff_entry]

/-! ### A page accepted (R114), a page rescanned (R117) -/

theorem Page.accepted_of_opened {p : Page} (h : p.image ≠ .notOpen) : p.accepted =
    { p with flags := { p.flags with accepted := true }, holdReason := none, state := .ready } := by
  rw [Page.accepted, if_neg h]

/-- An image that was never opened is closed with the default close information. -/
theorem Page.accepted_of_not_open {p : Page} (h : p.image = .notOpen) (unclosed : p.close = none) : p.accepted =
    { p with
      flags := { p.flags with accepted := true }, holdReason := none, state := .ready
      image := .closed, close := some { mark := 0, blank := false, ticket := none }, imageTimer := none } := by
  rw [Page.accepted, if_pos h, Page.closeImage, unclosed]
  rfl

theorem State.rescanned_entries (s : State) (i : Fin 64) (p : Page) (n : Nat) :
    (s.rescanned i p n).entries = (s.freeEntry i).entries := rfl

theorem State.rescanned_pool (s : State) (i : Fin 64) (p : Page) (n : Nat) :
    (s.rescanned i p n).pool = (s.freeEntry i).pool := rfl

theorem State.rescanned_events (s : State) (i : Fin 64) (p : Page) (n : Nat) :
    (s.rescanned i p n).events = (s.freeEntry i).events := rfl

theorem Kept.rescanned (s : State) (i : Fin 64) (p : Page) (n : Nat) : Kept s (s.rescanned i p n) :=
  ((Kept.refl s).freeEntry i).modLane p.lane _ (by exact fun _ => ⟨rfl, rfl, rfl⟩)

/-- What the freeing of a page by a request leaves of its entry, of the others and of the pool (R8). -/
theorem answered_freed {s u : State} {i : Fin 64} {p : Page} (k : Trunk) (r : Request) (st : Status)
    (page : s.pageAt i = some p) (entries : u.entries = ((s.takeOff k).freeEntry i).entries)
    (pool : u.pool = ((s.takeOff k).freeEntry i).pool) :
    (u.answered k r st).entry i = ⟨((s.entry i).incarnation + 1) % 4, none⟩ ∧ OtherEntries s (u.answered k r st) i
      ∧ FreeList.cells (u.answered k r st).pool = FreeList.cells s.pool ++ p.cells := by
  have page' : (s.takeOff k).pageAt i = some p := by rw [State.takeOff_pageAt, page]
  refine ⟨?_, answered_otherEntries k r st fun j hj => ?_, ?_⟩
  · rw [State.answered_entry, entry_of_entries entries, State.freeEntry_entry_self page', State.takeOff_entry]
  · rw [entry_of_entries entries, State.freeEntry_otherEntries _ i j hj]
  · rw [State.answered_pool, pool, State.freeEntry_pool_cells page', State.takeOff_pool]

/-! ### Carrying out SLOT_CANCEL (R123) -/

theorem laneOf_of_eq {n : Nat} {l : LaneId} (h : n = l.val) : laneOf n = some l := by
  rw [h, laneOf, dif_pos l.isLt]

theorem laneOf_above {n : Nat} (h : 5 < n) : laneOf n = none := by
  rw [laneOf, dif_neg (by omega)]

section
variable {s u : State} {k : Trunk} {r : Request} {l : LaneId} {ts : List Task} {st : Status}

theorem isKind_of_eq {b : Byte} (kind : r.kind = b) : Request.isKind b.toNat r = true := by
  rw [Request.isKind, kind, beq_self_eq_true]

theorem exec_slotCancel_named (h : s.nextRequest = some (k, r)) (kind : r.kind = 8) (size : r.payload.length = 6)
    (lane : field r.payload 0 1 = l.val) (sub : field r.payload 5 1 ≤ 3)
    (hf : cancelSlot l ⟨field r.payload 1 4, field r.payload 5 1⟩ (s.takeOff k) = ((u, ts), st)) :
    exec .slotCancel s = act (u.answered k r st, ts) := by
  refine serve_answered (body := bodySlotCancel) h (isKind_of_eq kind) ?_
  rw [bodySlotCancel, sized, if_pos size, laneOf_of_eq lane]
  dsimp only
  rw [if_neg (by omega), hf]

theorem exec_slotCancel_range (h : s.nextRequest = some (k, r)) (kind : r.kind = 8) (size : r.payload.length = 6)
    (range : 5 < field r.payload 0 1 ∨ 3 < field r.payload 5 1) :
    exec .slotCancel s = act ((s.takeOff k).answered k r .range, []) := by
  refine serve_answered (body := bodySlotCancel) h (isKind_of_eq kind) ?_
  rw [bodySlotCancel, sized, if_pos size]
  split
  · rename_i l lane
    refine if_pos (range.resolve_left fun above => ?_)
    rw [laneOf_above above] at lane
    cases lane
  · rfl

end

/-- Settles O39: the request that passes the tests of R113 or R123 is its act's first move, and the reply is OK. -/
theorem holdsAndSlotsResolved : Obligations.HoldsAndSlotsResolved := by
  have named {s : State} {k : Trunk} {token : Byte} {i : Fin 64} {p : Page}
      (live : s.live token.toNat = some (i, p)) (held : p.state = .held) :
      (s.takeOff k).heldPage token.toNat = some (i, p) := by
    rw [State.takeOff_heldPage, State.heldPage_eq_some]
    exact ⟨live, held⟩
  refine ⟨fun s k tag token n i p next live held => ?_, fun s k tag token n i p next live held => ?_,
    fun s k tag token n i p next live held low high granted => ?_, fun s k r next kind size => ⟨fun l lane sub =>
      ⟨fun isOpen => ?_, fun notOpen => ?_⟩, fun range => ?_⟩⟩
  · have ran := exec_pageResolveAccept next (acceptPage_held (named live held))
    obtain ⟨_, page, _⟩ := State.live_entry live
    have written : (((s.takeOff k).modPage i Page.accepted).answered k (resolveRequest tag token 0 n) .ok).pageAt i
        = some p.accepted := by simp [page]
    refine ⟨⟨_, ran, fun opened => ?_, fun image close => ?_,
      answered_otherEntries k _ _ (State.modPage_otherEntries _ i _), by simp, by simp, by simp, by simp⟩,
      _, ran, settle_replied ((Kept.refl _).modPage i _)⟩
    · rw [written, Page.accepted_of_opened opened]
    · rw [written, Page.accepted_of_not_open image close]
  · have ran := exec_pageResolveDrop next (dropPage_held (named live held))
    obtain ⟨_, page, _⟩ := State.live_entry live
    obtain ⟨entry, others, pool⟩ := answered_freed k (resolveRequest tag token 1 n) .ok page rfl rfl
    exact ⟨⟨_, ran, entry, others, pool, by simp, by simp, by simp⟩, _, ran,
      settle_replied ((Kept.refl _).freeEntry i)⟩
  · have ran := exec_pageResolveRescan next (rescanPage_granted low high (named live held) (by simpa using granted))
    obtain ⟨_, page, _⟩ := State.live_entry live
    obtain ⟨entry, others, pool⟩ := answered_freed k (resolveRequest tag token 2 n) .ok page
      (State.rescanned_entries _ i p n.toNat) (State.rescanned_pool _ i p n.toNat)
    have lane : (((s.takeOff k).rescanned i p n.toNat).answered k (resolveRequest tag token 2 n) .ok).lane p.lane
        = { s.lane p.lane with slots := openSlots p.pos n.toNat (s.lane p.lane).slots } := by
      rw [State.answered_lane, State.rescanned_lane_self, State.takeOff_lane]
    refine ⟨⟨_, ran, entry, others, pool, fun q => ?_, fun sound => ?_, ?_,
      answered_otherLanes k _ _ (State.rescanned_otherLanes _ i p _), ?_⟩, _, ran,
      settle_replied (Kept.rescanned _ i p _)⟩
    · rw [lane]
      exact mem_openSlots p.pos q n.toNat _
    · rw [lane]
      exact sound.opened p.pos (State.slots_room_of_granted granted)
    · rw [lane]
    · rw [State.answered_events, State.rescanned_events, State.freeEntry_events, State.takeOff_events]
  · have ran := exec_slotCancel_named next kind size lane sub (cancelSlot_open (by simpa using isOpen))
    refine ⟨⟨_, ran, ?_, answered_otherLanes k _ _ (State.modLane_otherLanes _ l _), by simp, by simp⟩,
      _, ran, settle_replied ((Kept.refl _).modLane l _ (by exact fun _ => ⟨rfl, rfl, rfl⟩))⟩
    rw [State.answered_lane, State.modLane_lane_self, State.takeOff_lane]
  · exact completes_untouched (exec_slotCancel_named next kind size lane sub
      (cancelSlot_not_open (by simpa using notOpen)))
  · exact completes_untouched (exec_slotCancel_range next kind size range)

end Sys2Proof.Machine
end

section
/-! The sequencer takes the release head: the hand-over, the ticket comparison and what begins a new batch (R133-R138). -/

namespace Sys2Proof.Machine

/- One proof after another: every thread of a parallel elaboration reserves memory, which the check limits. -/
set_option Elab.async false

/-! ### A lane's batch context -/

theorem State.modBatch_otherLanes (s : State) (l : LaneId) (f : Batch → Batch) : OtherLanes s (s.modBatch l f) l :=
  s.modLane_otherLanes l _

@[simp] theorem State.occur_lane (s : State) (c : Fin 20) (src : Nat) (k : LaneId) : (s.occur c src).lane k = s.lane k :=
  lane_of_lanes (s.occur_lanes c src) k

@[simp] theorem State.setRaw_lane (s : State) (c : Fin 20) (src : Nat) (level : Bool) (k : LaneId) :
    (s.setRaw c src level).lane k = s.lane k :=
  lane_of_lanes (s.setRaw_lanes c src level) k

/-- A change of one lane's batch context, with an occurrence. -/
theorem State.modBatch_occur_otherLanes (s : State) (l : LaneId) (f : Batch → Batch) (c : Fin 20) (src : Nat) :
    OtherLanes s ((s.modBatch l f).occur c src) l := fun k hk => by
  rw [State.occur_lane, s.modBatch_otherLanes l f k hk]

/-! ### The hand-over (R133) and the comparison of the ticket (R135, R136) -/

theorem MarkAction.isTicket_iff (a : MarkAction) : a.isTicket = true ↔ a = .ticketKeep ∨ a = .ticketDrop := by
  cases a <;> simp [MarkAction.isTicket]

/-- The action of the page's mark in the lane's mark map (R135). -/
def State.markActionOf (s : State) (l : LaneId) (p : Page) : MarkAction :=
  markAction ((s.laneTables l).markmap[(s.profileRec l).markmap]) p.closeInfo.mark

/-- Steps 3 to 6 that the page in entry `i` goes on to. -/
def State.marksTask (s : State) (l : LaneId) (i : Fin 64) (p : Page) : Task :=
  .lsqMarks l (s.tokenOf i) (s.markActionOf l p) (s.profileRec l).blankDrop

/-- The lane's context once its sequencer has taken a page (R133). -/
def State.openBatch (s : State) (l : LaneId) : State := s.modBatch l fun b => { b with opened := true }

section
variable {s : State} {l : LaneId} {i : Fin 64} {p : Page}

theorem handle_release_taken (head : s.releaseHead l = .page i p) (ready : p.state = .ready) (fresh : p.release = none)
    (idle : (s.lane l).batch.seqState = .idle) : handle (.release l) s = takePage l i p s := by
  rw [handle_release, onRelease, head]
  exact if_pos ⟨ready, fresh, idle⟩

theorem handle_release_left (head : s.releaseHead l = .page i p)
    (h : p.state ≠ .ready ∨ p.release.isSome ∨ (s.lane l).batch.seqState ≠ .idle) :
    handle (.release l) s = (s, []) := by
  rw [handle_release, onRelease, head]
  refine if_neg fun ⟨ready, fresh, idle⟩ => ?_
  rcases h with h | h | h
  · exact h ready
  · simp [fresh] at h
  · exact h idle

/-- A mark that compares no ticket. -/
theorem takePage_unticketed (h : (s.markActionOf l p).isTicket = false) :
    takePage l i p s = (s.openBatch l, [s.marksTask l i p]) :=
  if_neg (by rw [← State.markActionOf, h]; decide)

/-- A ticket like the last. -/
theorem takePage_repeat (h : (s.markActionOf l p).isTicket = true)
    (same : p.closeInfo.ticket = (s.lane l).batch.lastTicket) :
    takePage l i p s = ((s.openBatch l).occur Ev.ticketRepeat l.val, [s.marksTask l i p]) :=
  (if_pos h).trans (if_pos same)

/-- A ticket that differs from the last. -/
theorem takePage_new (h : (s.markActionOf l p).isTicket = true)
    (new : p.closeInfo.ticket ≠ (s.lane l).batch.lastTicket) :
    takePage l i p s = (s.openBatch l, [.adopt l, .newBatch l (s.tokenOf i), s.marksTask l i p]) :=
  (if_pos h).trans (if_neg new)

/-- Beside the opened field the hand-over changes no more than the events. -/
theorem takePage_frame (s : State) (l : LaneId) (i : Fin 64) (p : Page) :
    (takePage l i p s).1 = { s.openBatch l with events := (takePage l i p s).1.events } := by
  by_cases ticket : (s.markActionOf l p).isTicket = true
  · by_cases same : p.closeInfo.ticket = (s.lane l).batch.lastTicket
    · rw [takePage_repeat ticket same, State.occur_frame]
    · rw [takePage_new ticket same]
  · rw [takePage_unticketed (Bool.eq_false_iff.2 ticket)]

theorem takePage_lane (s : State) (l : LaneId) (i : Fin 64) (p : Page) (k : LaneId) :
    (takePage l i p s).1.lane k = (s.openBatch l).lane k := by
  rw [takePage_frame]
  rfl

/-! ### The new batch (R137, R138) -/

theorem handle_newBatch_live {token : Nat} (live : s.live token = some (i, p)) : handle (.newBatch l token) s =
    ((s.modBatch l fun b => b.begin (s.profileRec l).defaultClass p.closeInfo.ticket).occur Ev.batchNew l.val,
      [.fgc]) := by
  rw [handle_newBatch, onNewBatch, live]

end

/-- Settles O41: the head is taken or left, the mark and the ticket say what follows, and a new batch begins. -/
theorem sequencerTakesHead : Obligations.SequencerTakesHead := by
  refine ⟨fun s l i p head => ⟨fun ready fresh idle => ?_, handle_release_left head⟩, fun s l token i p live => ?_⟩
  · refine ⟨(takePage l i p s).1, (takePage l i p s).2, handle_release_taken head ready fresh idle, ?_, fun k hk => ?_,
      ?_, ?_, ?_⟩
    · rw [takePage_lane, State.openBatch, State.modBatch_lane_self]
    · rw [takePage_lane, State.openBatch, s.modBatch_otherLanes l _ k hk]
    · rw [takePage_frame]
      rfl
    · rw [takePage_frame]
      rfl
    · rintro a rfl
      refine ⟨fun ⟨keep, drop⟩ => ?_, fun ticket same => ?_, fun ticket new => ?_⟩
      · have plain : (s.markActionOf l p).isTicket = false := by
          rw [Bool.eq_false_iff, Ne, MarkAction.isTicket_iff]
          exact not_or.2 ⟨keep, drop⟩
        rw [takePage_unticketed plain]
        exact ⟨rfl, rfl⟩
      · rw [takePage_repeat ((MarkAction.isTicket_iff _).2 ticket) same]
        exact ⟨State.occur_event_self _ (Ev.lane_source (by decide) l), rfl⟩
      · rw [takePage_new ((MarkAction.isTicket_iff _).2 ticket) new]
        exact ⟨rfl, rfl⟩
  · refine ⟨_, handle_newBatch_live live, ?_, State.occur_event_self _ (Ev.lane_source (by decide) l),
      s.modBatch_occur_otherLanes l _ _ _, by simp⟩
    rw [State.occur_lane, State.modBatch_lane_self]
    rfl

end Sys2Proof.Machine
end

section
/-! The page under its mark, its drop, and its numbers: steps 3 to 8 of the sequencer (R139-R143). -/

namespace Sys2Proof.Machine

/- One proof after another: every thread of a parallel elaboration reserves memory, which the check limits. -/
set_option Elab.async false

/-! ### The mark, and the pages dropped (R139, R140, R141) -/

theorem MarkAction.drops_iff (a : MarkAction) :
    a.drops = true ↔ a = .sepDrop ∨ a = .ticketDrop ∨ ∃ c, a = .classDrop c := by
  cases a <;> simp [MarkAction.drops]

theorem CloseInfo.blankDropped_iff (c : CloseInfo) (blankDrop : Bool) :
    c.blankDropped blankDrop = true ↔ c.mark = 0 ∧ c.blank = true ∧ blankDrop = true := by
  simp [CloseInfo.blankDropped, and_assoc]

/-- The page is dropped, by its mark or as blank. -/
def Page.droppedUnder (p : Page) (a : MarkAction) (blankDrop : Bool) : Bool :=
  a.drops || p.closeInfo.blankDropped blankDrop

theorem Page.droppedUnder_iff (p : Page) (a : MarkAction) (blankDrop : Bool) : p.droppedUnder a blankDrop = true ↔
    a = .sepDrop ∨ a = .ticketDrop ∨ (∃ c, a = .classDrop c)
      ∨ (p.closeInfo.mark = 0 ∧ p.closeInfo.blank = true ∧ blankDrop = true) := by
  rw [Page.droppedUnder, Bool.or_eq_true, MarkAction.drops_iff, CloseInfo.blankDropped_iff, or_assoc, or_assoc]

/-- The class is that of a class mark; a separator or class mark puts start-document to yes unless the split is by
ticket (R139). -/
theorem Batch.marked_eq (b : Batch) (split : Split) (a : MarkAction) : b.marked split a = { b with
    cls := (match a with
      | .classKeep c => c
      | .classDrop c => c
      | _ => b.cls)
    startDoc := (match a, split with
      | .ignore, _ => b.startDoc
      | .ticketKeep, _ => b.startDoc
      | .ticketDrop, _ => b.startDoc
      | _, .ticket => b.startDoc
      | _, _ => true) } := by
  cases a <;> cases split <;> rfl

/-- The context after the mark, before the page is dropped or goes on (R139). -/
def State.markedBy (s : State) (l : LaneId) (a : MarkAction) : State :=
  s.modBatch l fun b => b.marked (s.profileRec l).split a

section
variable {s : State} {token : Nat} {i : Fin 64} {p : Page}

theorem handle_lsqMarks_dropped (l : LaneId) (a : MarkAction) (blankDrop : Bool) (live : s.live token = some (i, p))
    (dropped : p.droppedUnder a blankDrop = true) : handle (.lsqMarks l token a blankDrop) s =
      ((s.markedBy l a).freeEntry i, [.fgc, .holds, .release l, .adoptMoment l]) := by
  rw [handle_lsqMarks, onLsqMarks, live]
  exact if_pos dropped

theorem handle_lsqMarks_kept (l : LaneId) (a : MarkAction) (blankDrop : Bool) (live : s.live token = some (i, p))
    (kept : ¬p.droppedUnder a blankDrop = true) :
    handle (.lsqMarks l token a blankDrop) s = (s.markedBy l a, [.fgc, .lsqNumber l token]) := by
  rw [handle_lsqMarks, onLsqMarks, live]
  exact if_neg kept

/-! ### The splits and the numbers (R142, R143) -/

/-- A document begins where start-document is yes, at a count split, and at a forced split. -/
theorem Batch.splitTests_eq (b : Batch) (split : Split) (limit : Nat) : b.splitTests split limit =
    { b with startDoc := b.startDoc || split.reached b.page || b.forced split limit } := by
  rw [Batch.splitTests, Batch.forced]
  cases b.startDoc <;> cases split.reached b.page <;> rfl

/-- The context of a lane's sequencer after the tests of step 7. -/
def State.splitBatch (s : State) (l : LaneId) : Batch :=
  (s.lane l).batch.splitTests (s.profileRec l).split (s.classRec l (s.lane l).batch.cls).maxDocPages

/-- Step 7 forces a split for the lane. -/
def State.forcesSplit (s : State) (l : LaneId) : Bool :=
  (s.lane l).batch.forced (s.profileRec l).split (s.classRec l (s.lane l).batch.cls).maxDocPages

/-- The page in entry `i` has its release information, and the context is numbered. -/
def State.numberPage (s : State) (l : LaneId) (i : Fin 64) : State :=
  (s.modPage i fun p => { p with release := some (s.splitBatch l).releaseInfo }).modBatch l
    fun _ => (s.splitBatch l).numbered

/-- The state after steps 7 and 8: a forced split is an occurrence of DOC_SPLIT_FORCED. -/
def State.numberedBy (s : State) (l : LaneId) (i : Fin 64) : State :=
  if s.forcesSplit l then (s.numberPage l i).occur Ev.docSplitForced l.val else s.numberPage l i

theorem handle_lsqNumber_live (l : LaneId) (live : s.live token = some (i, p)) :
    handle (.lsqNumber l token) s = (s.numberedBy l i, [.attempt l token]) := by
  rw [handle_lsqNumber, onLsqNumber, live]
  rfl

end

theorem State.numberedBy_frame (s : State) (l : LaneId) (i : Fin 64) :
    s.numberedBy l i = { s.numberPage l i with events := (s.numberedBy l i).events } := by
  unfold State.numberedBy
  split
  · exact State.occur_frame _ _ _
  · rfl

theorem State.numberedBy_lane (s : State) (l k : LaneId) (i : Fin 64) :
    (s.numberedBy l i).lane k = (s.numberPage l i).lane k := by
  rw [State.numberedBy_frame]
  rfl

theorem State.numberedBy_entry (s : State) (l : LaneId) (i j : Fin 64) :
    (s.numberedBy l i).entry j = (s.modPage i fun p => { p with release := some (s.splitBatch l).releaseInfo }).entry j := by
  rw [State.numberedBy_frame]
  rfl

theorem State.numberedBy_pageAt {s : State} {i : Fin 64} {p : Page} (l : LaneId) (page : s.pageAt i = some p) :
    (s.numberedBy l i).pageAt i = some { p with release := some (s.splitBatch l).releaseInfo } := by
  rw [State.pageAt, State.numberedBy_entry]
  exact (s.modPage_pageAt_self i _).trans (by rw [page]; rfl)

theorem State.numberedBy_forced {s : State} {l : LaneId} (i : Fin 64) (forced : s.forcesSplit l = true) :
    (s.numberedBy l i).event Ev.docSplitForced = (s.event Ev.docSplitForced).occur l.val := by
  rw [State.numberedBy, if_pos forced]
  exact State.occur_event_self _ (Ev.lane_source (by decide) l)

theorem State.numberedBy_events_of_not_forced {s : State} {l : LaneId} (i : Fin 64) (h : s.forcesSplit l = false) :
    (s.numberedBy l i).events = s.events := by
  rw [State.numberedBy, h]
  rfl

/-- Settles O42: the context under each mark and split, the page dropped or kept, and the numbers of the page kept. -/
theorem pagesMarkedAndNumbered : Obligations.PagesMarkedAndNumbered := by
  refine ⟨fun s l token i p a blankDrop live => ?_, ?_⟩
  · have context : ((s.markedBy l a).lane l).batch = (s.lane l).batch.marked (s.profileRec l).split a := by
      rw [State.markedBy, State.modBatch_lane_self]
    have others : OtherLanes s (s.markedBy l a) l := s.modBatch_otherLanes l _
    by_cases dropped : p.droppedUnder a blankDrop = true
    · refine ⟨_, _, handle_lsqMarks_dropped l a blankDrop live dropped, ?_, fun k hk => ?_,
        fun _ => ⟨State.freeEntry_pageAt_self _ i, State.freeEntry_otherEntries _ i, rfl⟩,
        fun sep ticket cls blank => ?_⟩
      · rw [lane_of_lanes (State.freeEntry_lanes _ i), context]
        exact Batch.marked_eq _ _ a
      · rw [lane_of_lanes (State.freeEntry_lanes _ i), others k hk]
      · rw [Page.droppedUnder_iff] at dropped
        rcases dropped with h | h | ⟨c, h⟩ | ⟨mark, isBlank, on⟩
        · exact absurd h sep
        · exact absurd h ticket
        · exact absurd h (cls c)
        · simp [mark, isBlank, on] at blank
    · refine ⟨_, _, handle_lsqMarks_kept l a blankDrop live dropped, ?_, others,
        fun h => absurd ((p.droppedUnder_iff a blankDrop).2 h) dropped, fun _ _ _ _ => ⟨rfl, rfl⟩⟩
      rw [context]
      exact Batch.marked_eq _ _ a
  · rintro s l token i p b split forced doc pageNo info live rfl hsplit hforced rfl rfl rfl
    have reached : split = (s.profileRec l).split.reached (s.lane l).batch.page := hsplit
    have forces : forced = s.forcesSplit l := by rw [hforced, reached]; rfl
    have context : s.splitBatch l =
        { (s.lane l).batch with startDoc := (s.lane l).batch.startDoc || split || forced } := by
      rw [reached, forces]
      exact Batch.splitTests_eq _ _ _
    obtain ⟨_, page, _⟩ := State.live_entry live
    refine ⟨_, handle_lsqNumber_live l live, ?_, ?_, fun yes => State.numberedBy_forced i (forces.symm.trans yes),
      fun no => State.numberedBy_events_of_not_forced i (forces.symm.trans no), fun k hk => ?_, fun j hj => ?_, ?_⟩
    · rw [State.numberedBy_lane, State.numberPage, State.modBatch_lane_self, context]
      rfl
    · rw [State.numberedBy_pageAt l page, context]
      rfl
    · rw [State.numberedBy_lane]
      exact State.modBatch_otherLanes _ l _ k hk
    · rw [State.numberedBy_entry, s.modPage_otherEntries i _ j hj]
    · rw [State.numberedBy_frame]
      rfl

end Sys2Proof.Machine
end

section
/-! The enqueue attempt and the admission on every channel named or on none (R145, R146, R154). -/

namespace Sys2Proof.Machine

/- One proof after another: every thread of a parallel elaboration reserves memory, which the check limits. -/
set_option Elab.async false

/-! ### What an admission asks for (R144, R154) -/

theorem State.hasRoom_iff (s : State) (size : Nat) (c : ChanId) : s.hasRoom size c = true ↔
    (s.channelRec c).enabled = true ∧ ((s.chan c).fill + size ≤ (s.channelRec c).limit ∨ (s.chan c).queue = []) := by
  simp [State.hasRoom]

theorem State.releaseClass_eq_some (s : State) (p : Page) (r : ClassRec) :
    s.releaseClass p = some r ↔ ∃ info, p.release = some info ∧ r = s.classRec p.lane info.cls := by
  simp [State.releaseClass, eq_comm]

/-- The class is enabled and every channel it names has room. -/
theorem State.admissible_iff {s : State} {p : Page} {r : ClassRec} (cls : s.releaseClass p = some r) :
    s.admissible p = true ↔ r.enabled = true ∧ ∀ c, c = r.primary ∨ r.mirror = some c →
      (s.channelRec c).enabled = true
        ∧ ((s.chan c).fill + (p.cells.length + 1) ≤ (s.channelRec c).limit ∨ (s.chan c).queue = []) := by
  simp [State.admissible, cls, ← ClassRec.mem_channels, State.hasRoom_iff, Page.copySize]

/-- A disabled class, a disabled channel, or a queue with copies and no room for one more (R145, R154). -/
theorem State.not_admissible {s : State} {p : Page} {r : ClassRec} (cls : s.releaseClass p = some r)
    (refused : r.enabled = false ∨ ∃ c, (c = r.primary ∨ r.mirror = some c) ∧ ((s.channelRec c).enabled = false
      ∨ ((s.channelRec c).limit < (s.chan c).fill + (p.cells.length + 1) ∧ (s.chan c).queue ≠ []))) :
    s.admissible p = false := by
  rw [Bool.eq_false_iff, Ne, State.admissible_iff cls]
  rintro ⟨enabled, room⟩
  rcases refused with off | ⟨c, mem, refused⟩
  · simp [enabled] at off
  · obtain ⟨on, fits⟩ := room c mem
    rcases refused with off | ⟨above, busy⟩
    · simp [on] at off
    · exact fits.elim (by omega) busy

theorem ClassRec.channels_nodup {r : ClassRec} (h : r.mirror ≠ some r.primary) : r.channels.Nodup := by
  unfold ClassRec.channels
  cases mirror : r.mirror with
  | none => simp
  | some c => simpa [mirror, eq_comm] using h

theorem ClassRec.channels_length (r : ClassRec) : r.channels.length = if r.mirror.isSome then 2 else 1 := by
  unfold ClassRec.channels
  cases r.mirror <;> rfl

/-! ### Copies join the queues (R152, R153, R154) -/

/-- A copy at the tail adds its cells to the fill. -/
theorem Channel.fill_append (x : Channel) (token size : Nat) :
    ({ x with queue := x.queue ++ [⟨token, size, 0⟩] } : Channel).fill = x.fill + size := by
  simp [Channel.fill]

section
variable (token size : Nat)

theorem foldl_enqueue_frame (cs : List ChanId) (s : State) :
    cs.foldl (State.enqueue token size) s = { s with channels := (cs.foldl (State.enqueue token size) s).channels } := by
  induction cs generalizing s with
  | nil => rfl
  | cons c cs ih =>
    rw [List.foldl_cons, ih]
    rfl

theorem foldl_enqueue_chan_of_not_mem {cs : List ChanId} {c : ChanId} (h : c ∉ cs) (s : State) :
    (cs.foldl (State.enqueue token size) s).chan c = s.chan c := by
  induction cs generalizing s with
  | nil => rfl
  | cons d cs ih =>
    obtain ⟨ne, out⟩ := List.ne_and_not_mem_of_not_mem_cons h
    rw [List.foldl_cons, ih out, State.enqueue, State.setChan_chan_ne _ _ _ _ ne.symm]

/-- Each channel of a list without repetitions takes one copy. -/
theorem foldl_enqueue_chan_of_mem {cs : List ChanId} {c : ChanId} (distinct : cs.Nodup) (h : c ∈ cs) (s : State) :
    (cs.foldl (State.enqueue token size) s).chan c =
      { s.chan c with queue := (s.chan c).queue ++ [⟨token, size, 0⟩] } := by
  induction cs generalizing s with
  | nil => cases h
  | cons d cs ih =>
    obtain ⟨out, distinct⟩ := List.nodup_cons.1 distinct
    rw [List.foldl_cons]
    rcases List.mem_cons.1 h with rfl | later
    · rw [foldl_enqueue_chan_of_not_mem token size out, State.enqueue, State.setChan_chan_self]
    · have ne : d ≠ c := by
        rintro rfl
        exact out later
      rw [ih distinct later, State.enqueue, State.setChan_chan_ne _ _ _ _ ne]

end

/-! ### The state after an admission (R13, R145, R154) -/

section
variable (s : State) (l : LaneId) (i : Fin 64) (token size : Nat) (cs : List ChanId)

theorem State.admitCopies_chan (c : ChanId) :
    (s.admitCopies l i token size cs).chan c = (cs.foldl (State.enqueue token size) s).chan c := by
  rw [State.admitCopies, State.setRaw_frame]
  rfl

theorem State.admitCopies_entry (j : Fin 64) : (s.admitCopies l i token size cs).entry j =
    (s.modPage i fun p => { p with state := .queued, copies := cs.length }).entry j := by
  rw [State.admitCopies, State.setRaw_frame, foldl_enqueue_frame]
  rfl

theorem State.admitCopies_pageAt {p : Page} (page : s.pageAt i = some p) :
    (s.admitCopies l i token size cs).pageAt i = some { p with state := .queued, copies := cs.length } := by
  rw [State.pageAt, State.admitCopies_entry]
  exact (s.modPage_pageAt_self i _).trans (by rw [page]; rfl)

theorem State.admitCopies_pool : (s.admitCopies l i token size cs).pool = s.pool := by
  rw [State.admitCopies, State.setRaw_frame, foldl_enqueue_frame]
  rfl

theorem State.admitCopies_lane (k : LaneId) : (s.admitCopies l i token size cs).lane k =
    (s.modBatch l fun b => { b with seqState := .idle, waitTimer := none, stallRaw := false }).lane k := by
  rw [State.admitCopies, State.setRaw_lane, foldl_enqueue_frame]
  rfl

end

/-! ### The attempt (R145, R146) -/

section
variable {s : State} {token : Nat} {i : Fin 64} {p : Page} {r : ClassRec}

theorem handle_attempt_admitted (l : LaneId) (live : s.live token = some (i, p)) (ready : p.state = .ready)
    (cls : s.releaseClass p = some r) (room : s.admissible p = true) : handle (.attempt l token) s =
      (s.admitCopies l i token p.copySize r.channels, r.channels.map Task.fillEval ++ [.release l]) := by
  rw [handle_attempt, onAttempt, live]
  simp only [ready, cls, room, if_true]

theorem handle_attempt_refused (l : LaneId) (live : s.live token = some (i, p)) (ready : p.state = .ready)
    (cls : s.releaseClass p = some r) (full : s.admissible p = false) :
    handle (.attempt l token) s = (s.refuse l token, []) := by
  rw [handle_attempt, onAttempt, live]
  simp [ready, cls, full]

end

theorem State.refuse_of_idle {s : State} {l : LaneId} (token : Nat) (h : (s.lane l).batch.seqState = .idle) :
    s.refuse l token = s.modBatch l fun b => { b with seqState := .waiting token, waitTimer := some 0 } := if_pos h

theorem State.refuse_of_waiting {s : State} {l : LaneId} (token : Nat) (h : (s.lane l).batch.seqState ≠ .idle) :
    s.refuse l token = s := if_neg h

/-- A refusal changes its lane's record and nothing else. -/
theorem State.refuse_frame (s : State) (l : LaneId) (token : Nat) :
    s.refuse l token = { s with lanes := (s.refuse l token).lanes } := by
  unfold State.refuse
  split <;> rfl

theorem State.refuse_otherLanes (s : State) (l : LaneId) (token : Nat) : OtherLanes s (s.refuse l token) l := by
  unfold State.refuse
  split
  · exact s.modBatch_otherLanes l _
  · exact fun _ _ => rfl

end Sys2Proof.Machine
end

section
/-! The retries of the waiting sequencers, and the wait that becomes a stall (R146, R147, R158). -/

namespace Sys2Proof.Machine

/- One proof after another: every thread of a parallel elaboration reserves memory, which the check limits. -/
set_option Elab.async false

/-! ### The retries (R146, R158) -/

/-- A lane retries when it is WAITING on a READY page that would be admitted, and the page's class names the channel
where one is given. -/
theorem State.retryAdmits_iff (s : State) (ch : Option ChanId) (l : LaneId) : s.retryAdmits ch l = true ↔
    ∃ token, (s.lane l).batch.seqState = .waiting token ∧ ∃ i p r, s.live token = some (i, p) ∧ p.state = .ready
      ∧ s.releaseClass p = some r ∧ s.admissible p = true ∧ ∀ c, ch = some c → c ∈ r.channels := by
  unfold State.retryAdmits
  cases (s.lane l).batch.seqState with
  | idle => simp
  | waiting token =>
    cases live : s.live token with
    | none => simp [live]
    | some x =>
      obtain ⟨i, p⟩ := x
      cases cls : s.releaseClass p with
      | none => simp [live, cls, State.admissible]
      | some r => cases ch <;> simp [live, cls, and_assoc]

/-- The same, with the class taken from the release information and the room channel by channel. -/
theorem State.retryAdmits_iff_room (s : State) (ch : Option ChanId) (l : LaneId) : s.retryAdmits ch l = true ↔
    ∃ token, (s.lane l).batch.seqState = .waiting token ∧ ∃ i p info r, s.live token = some (i, p) ∧ p.state = .ready
      ∧ p.release = some info ∧ r = s.classRec p.lane info.cls ∧ r.enabled = true
      ∧ (∀ c, c = r.primary ∨ r.mirror = some c → (s.channelRec c).enabled = true
        ∧ ((s.chan c).fill + (p.cells.length + 1) ≤ (s.channelRec c).limit ∨ (s.chan c).queue = []))
      ∧ ∀ c, ch = some c → c = r.primary ∨ r.mirror = some c := by
  rw [State.retryAdmits_iff]
  refine exists_congr fun token => and_congr_right fun _ => exists_congr fun i => exists_congr fun p => ⟨?_, ?_⟩
  · rintro ⟨r, live, ready, cls, admitted, names⟩
    obtain ⟨info, numbered, record⟩ := (s.releaseClass_eq_some p r).1 cls
    obtain ⟨enabled, room⟩ := (State.admissible_iff cls).1 admitted
    exact ⟨info, r, live, ready, numbered, record, enabled, room, fun c given => (r.mem_channels c).1 (names c given)⟩
  · rintro ⟨info, r, live, ready, numbered, record, enabled, room, names⟩
    have cls := (s.releaseClass_eq_some p r).2 ⟨info, numbered, record⟩
    exact ⟨r, live, ready, cls, (State.admissible_iff cls).2 ⟨enabled, room⟩,
      fun c given => (r.mem_channels c).2 (names c given)⟩

theorem Batch.waitToken_of_waiting {b : Batch} {token : Nat} (h : b.seqState = .waiting token) :
    b.waitToken = token := by
  rw [Batch.waitToken, h]

theorem handle_retries_none {s : State} {ch : Option ChanId} (h : ∀ l, s.retryAdmits ch l = false) :
    handle (.retries ch) s = (s, []) := by
  rw [handle_retries, onRetries, List.filter_eq_nil_iff.2 fun l _ => by simp [h l]]
  rfl

/-- One of the lanes that would be admitted makes its attempt, and the others are asked again (log 7, log 36). -/
theorem handle_retries_some {s : State} {ch : Option ChanId} {l : LaneId} (h : s.retryAdmits ch l = true) :
    ∃ k t, s.retryAdmits ch k = true
      ∧ handle (.retries ch) s = (t, [.attempt k (s.lane k).batch.waitToken, .retries ch])
      ∧ t = { s with freeDraws := t.freeDraws } := by
  rw [handle_retries, onRetries]
  cases ready : allLanes.filter (s.retryAdmits ch) with
  | nil => exact absurd h (List.filter_eq_nil_iff.1 ready l (mem_allLanes l))
  | cons first others =>
    obtain ⟨taken, frame⟩ := s.takeOne_spec first others
    rw [← ready, List.mem_filter] at taken
    exact ⟨_, _, taken.2, rfl, frame⟩

/-! ### The expiry of the wait timer (R147) -/

/-- A raw level that rises is an occurrence (R193). -/
theorem State.setRaw_rise {s : State} {c : Fin 20} {src : Nat} (source : src < Ev.sourceCount c)
    (low : (s.event c).raw.getLsbD src = false) : (s.setRaw c src true).event c =
      ({ s.event c with raw := (s.event c).raw ||| sourceBit src } : EventState).occur src := by
  rw [State.setRaw, if_neg (by omega), if_neg (by simp [low]), if_pos rfl, State.setEvent_event_self]

/-- The state when a lane's wait has become a stall. -/
def State.stalled (s : State) (l : LaneId) (e : Nat) : State :=
  (s.modBatch l fun b => { b with waitTimer := some (max e 2000), stallRaw := true }).setRaw Ev.releaseStall l.val true

theorem exec_waitTimerExpiry (l : LaneId) (s : State) : exec (.waitTimerExpiry l) s = act (waitExpiry l s) := rfl

theorem waitExpiry_of_running {s : State} {l : LaneId} {e : Nat} (running : (s.lane l).batch.waitTimer = some e)
    (low : (s.lane l).batch.stallRaw = false) : waitExpiry l s = (s.stalled l e, []) := by
  rw [waitExpiry, running]
  exact if_neg (by simp [low])

theorem waitExpiry_of_void {s : State} {l : LaneId}
    (h : (s.lane l).batch.waitTimer = none ∨ (s.lane l).batch.stallRaw = true) : waitExpiry l s = (s, []) := by
  unfold waitExpiry
  split
  · rename_i running
    exact if_pos (h.resolve_left (by simp [running]))
  · rfl

theorem State.stalled_lane_self (s : State) (l : LaneId) (e : Nat) : (s.stalled l e).lane l =
    { s.lane l with batch := { (s.lane l).batch with waitTimer := some (max e 2000), stallRaw := true } } := by
  rw [State.stalled, State.setRaw_lane, State.modBatch_lane_self]

theorem State.stalled_otherLanes (s : State) (l : LaneId) (e : Nat) : OtherLanes s (s.stalled l e) l := fun k hk => by
  rw [State.stalled, State.setRaw_lane, s.modBatch_otherLanes l _ k hk]

theorem State.stalled_event {s : State} {l : LaneId} (e : Nat) (low : (s.event Ev.releaseStall).raw.getLsbD l.val = false) :
    (s.stalled l e).event Ev.releaseStall =
      ({ s.event Ev.releaseStall with raw := (s.event Ev.releaseStall).raw ||| sourceBit l.val } : EventState).occur l.val :=
  State.setRaw_rise (Ev.lane_source (by decide) l) low

theorem State.stalled_channels (s : State) (l : LaneId) (e : Nat) : (s.stalled l e).channels = s.channels := by
  rw [State.stalled, State.setRaw_frame]
  rfl

/-- Settles O43: an attempt by the test of admission, the retries by the lanes that pass it, and the expiry by the timer
and the raw. -/
theorem enqueueAttemptsAndStalls : Obligations.EnqueueAttemptsAndStalls := by
  refine ⟨fun s l token i p info r live ready numbered named distinct => ?_, fun s ch Goes goes => ?_,
    fun s l => ⟨fun e running low raw => ?_, fun void => ?_⟩⟩
  · have cls : s.releaseClass p = some r := (s.releaseClass_eq_some p r).2 ⟨info, numbered, named⟩
    have nodup := ClassRec.channels_nodup distinct
    obtain ⟨_, page, _⟩ := State.live_entry live
    refine ⟨fun room => ?_, fun refused => ?_⟩
    · refine ⟨_, handle_attempt_admitted l live ready cls ((State.admissible_iff cls).2 room), fun c mem => ?_,
        fun c notPrimary notMirror => ?_, ?_, fun j hj => ?_, ?_, State.setRaw_raw _ (Ev.lane_source (by decide) l) false,
        fun k hk => ?_, State.admitCopies_pool s l i _ _ _⟩
      · rw [State.admitCopies_chan, foldl_enqueue_chan_of_mem token _ nodup ((r.mem_channels c).2 mem)]
        exact ⟨rfl, Channel.fill_append _ _ _⟩
      · have out : c ∉ r.channels := fun mem => ((r.mem_channels c).1 mem).elim notPrimary notMirror
        rw [State.admitCopies_chan, foldl_enqueue_chan_of_not_mem token _ out]
      · rw [State.admitCopies_pageAt s l i _ _ _ page, r.channels_length]
      · rw [State.admitCopies_entry, s.modPage_otherEntries i _ j hj]
      · rw [State.admitCopies_lane, State.modBatch_lane_self]
      · rw [State.admitCopies_lane, s.modBatch_otherLanes l _ k hk]
    · have full := State.not_admissible cls refused
      refine ⟨_, handle_attempt_refused l live ready cls full, fun idle => ?_, State.refuse_of_waiting token,
        s.refuse_otherLanes l token, s.refuse_frame l token⟩
      rw [State.refuse_of_idle token idle, State.modBatch_lane_self]
  · have retries (l : LaneId) : s.retryAdmits ch l = true ↔ ∃ token, Goes l token := by
      rw [State.retryAdmits_iff_room]
      exact exists_congr fun token => (goes l token).symm
    refine ⟨fun idle => ?_, ?_⟩
    · refine handle_retries_none fun l => ?_
      rw [Bool.eq_false_iff, Ne, retries]
      rintro ⟨token, going⟩
      exact idle l token going
    · rintro ⟨l, token, going⟩
      obtain ⟨k, t, admits, ran, frame⟩ := handle_retries_some ((retries l).2 ⟨token, going⟩)
      obtain ⟨token, going⟩ := (retries k).1 admits
      obtain ⟨waits, _⟩ := (goes k token).1 going
      rw [Batch.waitToken_of_waiting waits] at ran
      exact ⟨k, token, t, going, ran, frame⟩
  · obtain ⟨t, ran, kept⟩ := completes_slots (i := .waitTimerExpiry l) (s := s) (u := s.stalled l e)
      (by rw [exec_waitTimerExpiry, waitExpiry_of_running running low])
    obtain ⟨_, entries, _, _, channels, _⟩ := kept.paper
    obtain ⟨rawKept, latchKept, sourcesKept, _⟩ := kept.events Ev.releaseStall
    refine ⟨t, ran, ?_, ?_, ?_, ?_, fun k hk => ?_, ?_, ?_⟩
    · rw [kept.lane, State.stalled_lane_self]
    · rw [rawKept]
      exact State.setRaw_raw _ (Ev.lane_source (by decide) l) true
    · rw [latchKept, State.stalled_event e raw]
      rfl
    · rw [sourcesKept, State.stalled_event e raw]
      exact EventState.occur_sources _ (by omega)
    · rw [kept.lane, s.stalled_otherLanes l e k hk]
    · rw [entries, State.stalled, State.setRaw_entries, State.modBatch_entries]
    · rw [channels, State.stalled_channels]
  · obtain ⟨t, ran, paper, _, events, _⟩ := completes_unchanged (i := .waitTimerExpiry l) (s := s)
      (by rw [exec_waitTimerExpiry, waitExpiry_of_void void])
    obtain ⟨lanes, entries, _⟩ := paper
    exact ⟨t, ran, lanes, entries, events⟩

end Sys2Proof.Machine
end

section
/-! A channel cell handed whole to its link (R158, R164, R165, R200): the queue it was sent from, and the page whose copy
is complete. -/

namespace Sys2Proof.Machine

/- One proof after another: every thread of a parallel elaboration reserves memory, which the check limits. -/
set_option Elab.async false

/-! ### The queue of one channel (R152, R153) -/

/-- The state with another queue of copies in one channel. -/
def State.setQueue (s : State) (c : ChanId) (q : List Copy) : State := s.setChan c { s.chan c with queue := q }

theorem State.setQueue_chan_self (s : State) (c : ChanId) (q : List Copy) :
    (s.setQueue c q).chan c = { s.chan c with queue := q } := s.setChan_chan_self c _

theorem State.setQueue_frame (s : State) (c : ChanId) (q : List Copy) :
    s.setQueue c q = { s with channels := (s.setQueue c q).channels } := rfl

theorem State.setChan_otherChannels (s : State) (c : ChanId) (x : Channel) : OtherChannels s (s.setChan c x) c :=
  fun d hd => s.setChan_chan_ne c d x hd.symm

/-- Equal channels are equal one by one. -/
theorem chan_of_channels {s t : State} (h : t.channels = s.channels) (c : ChanId) : t.chan c = s.chan c := by
  rw [State.chan, h, State.chan]

/-- The fill counts one cell less when one more has been sent (R153). -/
theorem Channel.fill_advanced (ch : Channel) {x : Copy} {xs : List Copy} (queue : ch.queue = x :: xs)
    (more : x.sent + 1 < x.size) :
    ({ ch with queue := { x with sent := x.sent + 1 } :: xs } : Channel).fill + 1 = ch.fill := by
  simp only [Channel.fill, queue, List.map_cons, List.sum_cons]
  omega

/-! ### The path of a trunk -/

/-- Freeing the path changes its trunk and nothing else. -/
theorem State.freePath_frame (s : State) (k : Trunk) :
    s.freePath k = { s with trunkA := (s.freePath k).trunkA, trunkB := (s.freePath k).trunkB } := by
  cases k <;> rfl

@[simp] theorem State.freePath_chan (s : State) (k : Trunk) (c : ChanId) : (s.freePath k).chan c = s.chan c :=
  s.setTrunk_chan k _ c

@[simp] theorem State.freePath_live (s : State) (k : Trunk) (token : Nat) : (s.freePath k).live token = s.live token :=
  s.setTrunk_live k _ token

@[simp] theorem State.freePath_entry (s : State) (k : Trunk) (i : Fin 64) : (s.freePath k).entry i = s.entry i :=
  s.setTrunk_entry k _ i

@[simp] theorem State.freePath_event (s : State) (k : Trunk) (c : Fin 20) : (s.freePath k).event c = s.event c :=
  s.setTrunk_event k _ c

/-! ### The command -/

section
variable {s : State} {k : Trunk}

theorem exec_channelCellSent_live {c : ChanId} {cell : OutCell} (sends : (s.trunk k).tx = some ⟨.channel c true, cell⟩) :
    exec (.channelCellSent k) s = act (cellSent c (s.freePath k)) := by
  change execChannelCellSent k s = _
  rw [execChannelCellSent, sends]

/-- A cell of a page that a line reset freed only leaves the path (R200). -/
theorem exec_channelCellSent_freed {c : ChanId} {cell : OutCell}
    (sends : (s.trunk k).tx = some ⟨.channel c false, cell⟩) :
    exec (.channelCellSent k) s = act (s.freePath k, []) := by
  change execChannelCellSent k s = _
  rw [execChannelCellSent, sends]

/-- A trunk that sends no channel cell has none to hand over (log 2). -/
theorem exec_channelCellSent_other (other : ∀ c b cell, (s.trunk k).tx ≠ some ⟨.channel c b, cell⟩) :
    exec (.channelCellSent k) s = .next s := by
  change execChannelCellSent k s = _
  unfold execChannelCellSent
  split
  · rename_i sends
    exact absurd sends (other _ _ _)
  · rename_i sends
    exact absurd sends (other _ _ _)
  all_goals rfl

end

/-! ### The copy at the head of the queue (R164, R165) -/

section
variable {s : State} {c : ChanId} {x : Copy} {xs : List Copy}

theorem cellSent_of_more (queue : (s.chan c).queue = x :: xs) (more : x.sent + 1 < x.size) :
    cellSent c s = (s.setQueue c ({ x with sent := x.sent + 1 } :: xs), [.fillEval c, .retries (some c)]) := by
  have goesOn : ¬x.size ≤ x.sent + 1 := by omega
  simp [cellSent, queue, headCompletes, advanceQueue, goesOn, State.setQueue]

theorem cellSent_of_last (queue : (s.chan c).queue = x :: xs) (last : x.sent + 1 = x.size) :
    cellSent c s = (((s.setQueue c xs).copyDone x.token).1,
      ((s.setQueue c xs).copyDone x.token).2 ++ [.fillEval c, .retries (some c)]) := by
  have done : x.size ≤ x.sent + 1 := by omega
  simp [cellSent, queue, headCompletes, advanceQueue, done, State.setQueue]

end

section
variable {s : State} {token : Nat} {i : Fin 64} {p : Page}

/-- One of two copies is complete (R165). -/
theorem State.copyDone_of_two (live : s.live token = some (i, p)) (two : p.copies = 2) :
    s.copyDone token = (s.modPage i fun q => { q with copies := q.copies - 1 }, []) := by
  rw [State.copyDone, live]
  exact if_neg (by omega)

/-- The last copy is complete: the page is freed (R13, R165). -/
theorem State.copyDone_of_one (live : s.live token = some (i, p)) (one : p.copies = 1) :
    s.copyDone token = (s.freeEntry i, [.holds, .release p.lane, .adoptMoment p.lane]) := by
  rw [State.copyDone, live]
  exact if_pos (by omega)

end

/-- Settles O44: the copy at the head goes on or is complete, and its page then has another copy or is freed; the two
other cases hand over no cell of a live page. -/
theorem channelCellSentAdvances : Obligations.ChannelCellSentAdvances := by
  refine fun s k => ⟨fun c cell x xs sends queue => ?_, fun c cell sends => ?_, fun idle =>
    ⟨s, exec_channelCellSent_other idle, rfl⟩⟩
  · have ran := exec_channelCellSent_live sends
    have queue' : ((s.freePath k).chan c).queue = x :: xs := by rw [State.freePath_chan, queue]
    have others (q : List Copy) : OtherChannels s ((s.freePath k).setQueue c q) c := fun d hd => by
      rw [State.setQueue, State.setChan_otherChannels _ c _ d hd, State.freePath_chan]
    have chan (q : List Copy) : ((s.freePath k).setQueue c q).chan c = { s.chan c with queue := q } := by
      rw [State.setQueue_chan_self, State.freePath_chan]
    refine ⟨fun more => ?_, fun last i p live => ?_⟩
    · rw [cellSent_of_more queue' more] at ran
      refine ⟨_, ran, chan _, ?_, others _, ?_⟩
      · rw [chan]
        exact Channel.fill_advanced _ queue more
      · rw [State.setQueue_frame, State.freePath_frame]
        exact ⟨rfl, rfl, rfl, rfl⟩
    · rw [cellSent_of_last queue' last] at ran
      have live' : ((s.freePath k).setQueue c xs).live x.token = some (i, p) := by
        rw [State.setQueue, State.setChan_live, State.freePath_live, live]
      obtain ⟨_, page, _⟩ := State.live_entry live'
      have entry (j : Fin 64) : ((s.freePath k).setQueue c xs).entry j = s.entry j := by
        rw [State.setQueue, State.setChan_entry, State.freePath_entry]
      have pool : ((s.freePath k).setQueue c xs).pool = s.pool := by
        rw [State.setQueue_frame, State.freePath_frame]
      refine ⟨fun two => ?_, fun one => ?_⟩
      · rw [State.copyDone_of_two live' two] at ran
        refine ⟨_, ran, chan xs, others xs, ?_, fun j hj => ?_, pool⟩
        · rw [State.modPage_pageAt_self, page, Option.map_some, two]
        · rw [State.modPage_otherEntries _ i _ j hj, entry]
      · rw [State.copyDone_of_one live' one] at ran
        have same := chan_of_channels (((s.freePath k).setQueue c xs).freeEntry_channels i)
        refine ⟨_, ran, ?_, fun d hd => ?_, ?_, fun j hj => ?_, ?_⟩
        · rw [same, chan]
        · rw [same, others xs d hd]
        · rw [State.freeEntry_entry_self page, entry]
        · rw [State.freeEntry_otherEntries _ i j hj, entry]
        · rw [State.freeEntry_pool_cells page, pool]
  · obtain ⟨t, ran, kept⟩ := completes_slots (exec_channelCellSent_freed sends)
    have paper := kept.paper
    have tables := kept.tables
    rw [State.freePath_frame] at paper tables
    exact ⟨t, ran, paper, tables, fun d => by simpa using kept.events d⟩

end Sys2Proof.Machine
end

section
/-! The fill state of a channel (R157), and its pause (R160, R161). -/

namespace Sys2Proof.Machine

/- One proof after another: every thread of a parallel elaboration reserves memory, which the check limits. -/
set_option Elab.async false

/-! ### The fill state by the fill (R157) -/

section
variable {r : ChannelRec} {fill : Nat}

theorem FillState.settle_below_ease (order : r.ease < r.near) (bounded : r.near ≤ r.full) (low : fill < r.ease)
    (f : FillState) : FillState.settle r fill f = .opened := by
  have notNear : ¬r.near ≤ fill := by omega
  have notFull : ¬r.full ≤ fill := by omega
  have belowNear : fill < r.near := by omega
  cases f <;> simp [FillState.settle, FillState.step, notNear, notFull, low, belowNear]

/-- Between ease_cells and near_cells an OPEN channel stays OPEN, and any other is NEAR. -/
theorem FillState.settle_below_near (bounded : r.near ≤ r.full) (eased : r.ease ≤ fill) (low : fill < r.near)
    (f : FillState) : FillState.settle r fill f = if f = .opened then .opened else .near := by
  have notNear : ¬r.near ≤ fill := by omega
  have notFull : ¬r.full ≤ fill := by omega
  have notLow : ¬fill < r.ease := by omega
  cases f <;> simp [FillState.settle, FillState.step, notNear, notFull, low, notLow]

/-- Between near_cells and full_cells a FULL channel stays FULL, and any other is NEAR. -/
theorem FillState.settle_below_full (order : r.ease < r.near) (near : r.near ≤ fill) (low : fill < r.full)
    (f : FillState) : FillState.settle r fill f = if f = .full then .full else .near := by
  have notFull : ¬r.full ≤ fill := by omega
  have notLow : ¬fill < r.ease := by omega
  have notBelow : ¬fill < r.near := by omega
  cases f <;> simp [FillState.settle, FillState.step, near, notFull, notLow, notBelow]

theorem FillState.settle_from_full (bounded : r.near ≤ r.full) (full : r.full ≤ fill) (f : FillState) :
    FillState.settle r fill f = .full := by
  have near : r.near ≤ fill := by omega
  have notBelow : ¬fill < r.near := by omega
  cases f <;> simp [FillState.settle, FillState.step, full, near, notBelow]

end

/-! ### PAUSE (R160) -/

theorem channelOf_of_number {k : Trunk} {n : Nat} {c : ChanId} (low : 1 ≤ n) (high : n ≤ 8)
    (index : c.val = trunkIndex k * 8 + n - 1) : channelOf k n = some c := by
  rw [channelOf, dif_pos ⟨low, high⟩, Option.some.injEq, Fin.ext_iff, index]
  exact (Nat.add_sub_assoc low _).symm

theorem channelOf_of_no_number {k : Trunk} {n : Nat} (h : n = 0 ∨ 8 < n) : channelOf k n = none :=
  dif_neg (by omega)

theorem takePause_of_channel {k : Trunk} {n : Nat} {c : ChanId} (named : channelOf k n = some c) (timer : Option Nat)
    (s : State) : takePause k n timer s = (s.setChan c { s.chan c with pauseTimer := timer }, []) := by
  rw [takePause, named]

theorem takePause_of_no_channel {k : Trunk} {n : Nat} (unnamed : channelOf k n = none) (timer : Option Nat)
    (s : State) : takePause k n timer s = (s, []) := by
  rw [takePause, unnamed]

/-- The state in which a valid cell of trunk `k` is taken: the runs of its link have changed. -/
def State.trunkReceived (s : State) (k : Trunk) : State := s.setLink (.trunk k) (s.link (.trunk k)).validCell

theorem State.trunkReceived_frame (s : State) (k : Trunk) :
    s.trunkReceived k = { s with trunkA := (s.trunkReceived k).trunkA, trunkB := (s.trunkReceived k).trunkB } := by
  cases k <;> rfl

theorem State.trunkReceived_trunk_self (s : State) (k : Trunk) :
    (s.trunkReceived k).trunk k = { s.trunk k with link := (s.trunk k).link.validCell } :=
  s.setTrunk_trunk_self k _

theorem State.trunkReceived_trunk_other (s : State) (k : Trunk) :
    (s.trunkReceived k).trunk (otherTrunk k) = s.trunk (otherTrunk k) :=
  s.setTrunk_trunk_ne k _ _ (by cases k <;> decide)

theorem State.trunkReceived_chan (s : State) (k : Trunk) (c : ChanId) : (s.trunkReceived k).chan c = s.chan c :=
  s.setTrunk_chan k _ c

theorem State.trunkReceived_event (s : State) (k : Trunk) (c : Fin 20) : (s.trunkReceived k).event c = s.event c :=
  s.setTrunk_event k _ c

theorem exec_pauseOn (s : State) (k : Trunk) (b : Byte) :
    exec (.pauseOn k b) s = deliver (.trunk k) (takePause k b.toNat (some 2000)) s := rfl

theorem exec_pauseOff (s : State) (k : Trunk) (b : Byte) :
    exec (.pauseOff k b) s = deliver (.trunk k) (takePause k b.toNat none) s := rfl

section
variable {i : Instr} {s : State} {k : Trunk} {b : Byte} {timer : Option Nat}

/-- PAUSE on and off differ in the timer that they leave only. -/
theorem pause_delivers (h : i = .pauseOn k b ∨ i = .pauseOff k b) (s : State) :
    ∃ timer, exec i s = deliver (.trunk k) (takePause k b.toNat timer) s := by
  rcases h with rfl | rfl
  · exact ⟨_, exec_pauseOn s k b⟩
  · exact ⟨_, exec_pauseOff s k b⟩

theorem completes_pause_of_channel {c : ChanId} (ran : exec i s = deliver (.trunk k) (takePause k b.toNat timer) s)
    (up : s.linkUp (.trunk k) = true) (named : channelOf k b.toNat = some c) :
    Completes i s fun t => t.chan c = { s.chan c with pauseTimer := timer } ∧ OtherChannels s t c ∧ t.lanes = s.lanes
      ∧ t.entries = s.entries ∧ t.pool = s.pool ∧ SameTables s t ∧ SameEvents s t := by
  have acts : exec i s = act ((s.trunkReceived k).setChan c { s.chan c with pauseTimer := timer }, []) := by
    rw [ran, deliver, if_pos up, ← State.trunkReceived, takePause_of_channel named, State.trunkReceived_chan]
  obtain ⟨t, next, kept⟩ := completes_slots acts
  obtain ⟨lanes, entries, pool, _, channels, _⟩ := kept.paper
  have tables := kept.tables
  rw [State.trunkReceived_frame] at lanes entries pool tables
  refine ⟨t, next, ?_, fun d hd => ?_, lanes, entries, pool, tables, fun e => ?_⟩
  · rw [chan_of_channels channels, State.setChan_chan_self]
  · rw [chan_of_channels channels, State.setChan_otherChannels _ c _ d hd, State.trunkReceived_chan]
  · simpa [State.trunkReceived_event] using kept.events e

theorem completes_pause_of_no_channel (ran : exec i s = deliver (.trunk k) (takePause k b.toNat timer) s)
    (up : s.linkUp (.trunk k) = true) (unnamed : channelOf k b.toNat = none) :
    Completes i s fun t => SamePaper s t ∧ SameTables s t ∧ SameEvents s t := by
  have acts : exec i s = act (s.trunkReceived k, []) := by
    rw [ran, deliver, if_pos up, ← State.trunkReceived, takePause_of_no_channel unnamed]
  obtain ⟨t, next, kept⟩ := completes_slots acts
  have paper := kept.paper
  have tables := kept.tables
  rw [State.trunkReceived_frame] at paper tables
  refine ⟨t, next, paper, tables, fun e => ?_⟩
  simpa [State.trunkReceived_event] using kept.events e

/-- A cell on a link that is not UP changes no more than the runs of the link (R198). -/
theorem completes_deliver_not_up {f : State → Move} (ran : exec i s = deliver (.trunk k) f s)
    (down : s.linkUp (.trunk k) = false) : Completes i s fun t => t = { s with trunkA := t.trunkA, trunkB := t.trunkB }
      ∧ (t.trunk k).link.state = (s.trunk k).link.state ∧ t.trunk (otherTrunk k) = s.trunk (otherTrunk k) := by
  have next : exec i s = .next (s.trunkReceived k) := by
    rw [ran, deliver, if_neg (by simp [down]), ← State.trunkReceived]
  refine ⟨_, next, s.trunkReceived_frame k, ?_, s.trunkReceived_trunk_other k⟩
  rw [State.trunkReceived_trunk_self]
  exact Link.validCell_state _

end

/-! ### The expiry of the pause timer (R161) -/

/-- The state when a channel's pause has expired. -/
def State.pauseExpired (s : State) (c : ChanId) : State :=
  (s.setChan c { s.chan c with pauseTimer := none }).occur Ev.pauseExpired c.val

theorem exec_pauseTimerExpiry (s : State) (c : ChanId) :
    exec (.pauseTimerExpiry c) s = act (pauseExpiry c s) := rfl

theorem pauseExpiry_of_paused {s : State} {c : ChanId} (paused : (s.chan c).pauseTimer.isSome = true) :
    pauseExpiry c s = (s.pauseExpired c, []) := if_pos paused

theorem pauseExpiry_of_not_paused {s : State} {c : ChanId} (running : (s.chan c).pauseTimer = none) :
    pauseExpiry c s = (s, []) := if_neg (by simp [running])

theorem State.pauseExpired_frame (s : State) (c : ChanId) : s.pauseExpired c =
    { s.setChan c { s.chan c with pauseTimer := none } with events := (s.pauseExpired c).events } :=
  State.occur_frame _ _ _

theorem State.pauseExpired_event_self (s : State) (c : ChanId) :
    (s.pauseExpired c).event Ev.pauseExpired = (s.event Ev.pauseExpired).occur c.val :=
  State.occur_event_self _ c.isLt

theorem State.pauseExpired_event_ne (s : State) (c : ChanId) {d : Fin 20} (h : d ≠ Ev.pauseExpired) :
    (s.pauseExpired c).event d = s.event d := State.occur_event_ne _ _ h

theorem State.pauseExpired_chan (s : State) (c d : ChanId) :
    (s.pauseExpired c).chan d = (s.setChan c { s.chan c with pauseTimer := none }).chan d := by
  rw [State.pauseExpired_frame]
  rfl

/-- Settles O45: the four ranges of the fill, PAUSE by its channel number and its link, and the expiry on a channel that
is paused or not. -/
theorem channelsFillAndPause : Obligations.ChannelsFillAndPause := by
  refine ⟨fun r fill f g _ order bounded settled => ?_, fun s k b up => ⟨fun c low high index => ?_,
    fun unnamed i h => ?_⟩, fun s k b i down h => ?_, fun s c => ⟨fun paused => ?_, fun running => ?_⟩⟩
  · subst settled
    rcases Nat.lt_or_ge fill r.ease with low | eased
    · rw [FillState.settle_below_ease order bounded low]
      grind
    rcases Nat.lt_or_ge fill r.near with low | near
    · rw [FillState.settle_below_near bounded eased low]
      grind
    rcases Nat.lt_or_ge fill r.full with low | full
    · rw [FillState.settle_below_full order near low]
      grind
    · rw [FillState.settle_from_full bounded full]
      grind
  · have named : channelOf k b.toNat = some c := by
      refine channelOf_of_number low high (index.trans ?_)
      cases k <;> rfl
    exact ⟨completes_pause_of_channel (exec_pauseOn s k b) up named,
      completes_pause_of_channel (exec_pauseOff s k b) up named⟩
  · obtain ⟨timer, ran⟩ := pause_delivers h s
    exact completes_pause_of_no_channel ran up (channelOf_of_no_number unnamed)
  · obtain ⟨timer, ran⟩ := pause_delivers h s
    exact completes_deliver_not_up ran down
  · obtain ⟨t, ran, kept⟩ := completes_slots (i := .pauseTimerExpiry c) (s := s) (u := s.pauseExpired c)
      (by rw [exec_pauseTimerExpiry, pauseExpiry_of_paused paused])
    obtain ⟨lanes, entries, _, _, channels, _⟩ := kept.paper
    obtain ⟨_, latch, sources, _⟩ := kept.events Ev.pauseExpired
    rw [State.pauseExpired_event_self] at latch sources
    rw [State.pauseExpired_frame] at lanes entries
    refine ⟨t, ran, ?_, fun d hd => ?_, latch.trans rfl, ?_, lanes, entries, fun d hd => ?_⟩
    · rw [chan_of_channels channels, State.pauseExpired_chan, State.setChan_chan_self]
    · rw [chan_of_channels channels, State.pauseExpired_chan, State.setChan_otherChannels s c _ d hd]
    · rw [sources]
      exact EventState.occur_sources _ c.isLt
    · rw [← State.pauseExpired_event_ne s c hd]
      exact kept.events d
  · obtain ⟨t, ran, paper, _, events, _⟩ := completes_unchanged (i := .pauseTimerExpiry c) (s := s)
      (by rw [exec_pauseTimerExpiry, pauseExpiry_of_not_paused running])
    exact ⟨t, ran, paper, events⟩

end Sys2Proof.Machine
end

section
/-! How numbers stand in bytes, and how they are read back (R202). -/

namespace Sys2Proof.Machine

/- One proof after another: every thread of a parallel elaboration reserves memory, which the check limits. -/
set_option Elab.async false

@[simp] theorem le_length (n v : Nat) : (le n v).length = n := by
  induction n generalizing v with
  | zero => rfl
  | succ n ih => rw [le, List.length_cons, ih]

@[simp] theorem leSat_length (n v : Nat) : (leSat n v).length = n := le_length n _

@[simp] theorem padTo_length (n : Nat) (bs : List Byte) : (padTo n bs).length = n := by
  simp only [padTo, List.length_take, List.length_append, List.length_replicate]
  omega

theorem ofLe_le (n v : Nat) : ofLe (le n v) = v % 256 ^ n := by
  induction n generalizing v with
  | zero => rw [le, ofLe, pow_zero, Nat.mod_one]
  | succ n ih => rw [le, ofLe, ih, BitVec.toNat_ofNat, pow_succ' 256 n, Nat.mod_mul]

/-- A number that fits its bytes is read as it was written. -/
theorem ofLe_le_of_lt {n v : Nat} (h : v < 256 ^ n) : ofLe (le n v) = v := by
  rw [ofLe_le, Nat.mod_eq_of_lt h]

theorem ofLe_lt (bs : List Byte) : ofLe bs < 256 ^ bs.length := by
  induction bs with
  | nil => exact Nat.one_pos
  | cons b bs ih =>
    have byte := b.isLt
    rw [ofLe, List.length_cons, pow_succ']
    omega

/-- A field that begins where a part of the bytes begins, and is as long. -/
theorem field_append (before part after : List Byte) :
    field (before ++ (part ++ after)) before.length part.length = ofLe part := by
  rw [field, List.drop_left, List.take_left]

theorem field_byte_lt (bs : List Byte) (n : Nat) : field bs n 1 < 256 := by
  have bound := ofLe_lt ((bs.drop n).take 1)
  have short : ((bs.drop n).take 1).length ≤ 1 := List.length_take_le _ _
  exact bound.trans_le (Nat.pow_le_pow_right (by decide) short)

/-- A byte is spelled by a field exactly when it is the field's number. -/
theorem ofNat_field_eq_iff (bs : List Byte) (n : Nat) (b : Byte) :
    BitVec.ofNat 8 (field bs n 1) = b ↔ field bs n 1 = b.toNat := by
  rw [BitVec.toNat_eq, BitVec.toNat_ofNat, Nat.mod_eq_of_lt (field_byte_lt bs n)]

end Sys2Proof.Machine
end

section
/-! The cells of the links (R199, R200, R201): the bytes that are sent, what a port sends, and the command that received
bytes are. -/

namespace Sys2Proof.Machine

/- One proof after another: every thread of a parallel elaboration reserves memory, which the check limits. -/
set_option Elab.async false

/-! ### A valid cell (R199) -/

/-- The check value of the CRC: that of the nine bytes of "123456789" (R199). -/
theorem crc16_check_value : crc16 [0x31, 0x32, 0x33, 0x34, 0x35, 0x36, 0x37, 0x38, 0x39] = 0x29B1 := by decide +kernel

/-- The kinds as numbers. -/
theorem Kind.mem_all_iff (b : Byte) : b ∈ Kind.all ↔
    b.toNat ∈ [0x00, 0x01, 0x02, 0x03, 0x08, 0x09, 0x0A, 0x10, 0x20, 0x21, 0x22, 0x23] := by
  change _ ↔ b.toNat ∈ Kind.all.map BitVec.toNat
  rw [List.mem_map_of_injective fun _ _ => BitVec.eq_of_toNat_eq]

theorem validCell_iff (bs : List Byte) : validCell bs = true ↔
    16 ≤ bs.length ∧ field bs 4 2 ≤ 1024 ∧ bs.length = 16 + field bs 4 2
      ∧ field bs 0 1 ∈ [0x00, 0x01, 0x02, 0x03, 0x08, 0x09, 0x0A, 0x10, 0x20, 0x21, 0x22, 0x23]
      ∧ (crc16 (bs.take 14 ++ bs.drop 16)).toNat = field bs 14 2 := by
  have kind : (BitVec.ofNat 8 (field bs 0 1)).toNat = field bs 0 1 := ((ofNat_field_eq_iff bs 0 _).1 rfl).symm
  simp only [validCell, Bool.and_eq_true, decide_eq_true_eq, List.contains_iff_mem, Kind.mem_all_iff, kind, and_assoc]

/-! ### The bytes of a cell (R199, section 11.5) -/

section
variable (c : OutCell)

theorem OutCell.header_length : c.header.length = 14 := by
  simp [OutCell.header]

/-- The CRC that a cell carries. -/
def OutCell.crc : List Byte := le 2 (crc16 (c.header ++ c.payload)).toNat

theorem OutCell.bytes_eq : c.bytes = c.header ++ (c.crc ++ c.payload) := List.append_assoc _ _ _

theorem OutCell.crc_length : c.crc.length = 2 := le_length _ _

theorem OutCell.bytes_length : c.bytes.length = 16 + c.payload.length := by
  rw [OutCell.bytes_eq, List.length_append, List.length_append, OutCell.header_length, OutCell.crc_length]
  omega

theorem OutCell.bytes_take : c.bytes.take 14 = c.header := by
  rw [OutCell.bytes_eq, ← c.header_length, List.take_left]

theorem OutCell.bytes_drop : c.bytes.drop 16 = c.payload := by
  have cut : (c.header ++ c.crc).length = 16 := by
    rw [List.length_append, OutCell.header_length, OutCell.crc_length]
  rw [OutCell.bytes_eq, ← List.append_assoc, ← cut, List.drop_left]

theorem OutCell.field_kind : field c.bytes 0 1 = c.kind.toNat := by
  rw [OutCell.bytes_eq, OutCell.header]
  rfl

theorem OutCell.field_channel : field c.bytes 1 1 = c.channel % 256 := by
  rw [← pow_one 256, ← ofLe_le, OutCell.bytes_eq, OutCell.header]
  rfl

theorem OutCell.field_token : field c.bytes 2 1 = c.token % 256 := by
  rw [← pow_one 256, ← ofLe_le, OutCell.bytes_eq, OutCell.header]
  rfl

theorem OutCell.field_length : field c.bytes 4 2 = c.payload.length % 65536 := by
  rw [show 65536 = 256 ^ 2 from rfl, ← ofLe_le, OutCell.bytes_eq, OutCell.header]
  rfl

theorem OutCell.field_crc : field c.bytes 14 2 = (crc16 (c.header ++ c.payload)).toNat := by
  have place := field_append c.header c.crc c.payload
  rw [c.header_length, c.crc_length, ← c.bytes_eq] at place
  rw [place]
  exact ofLe_le_of_lt (BitVec.isLt _)

/-- What the part sends, it would take (R199). -/
theorem OutCell.bytes_valid (kind : c.kind ∈ Kind.all) (size : c.payload.length ≤ 1024) : validCell c.bytes = true := by
  have carried : field c.bytes 4 2 = c.payload.length := c.field_length.trans (Nat.mod_eq_of_lt (by omega))
  rw [validCell_iff, carried, c.bytes_length, c.field_kind, c.field_crc, c.bytes_take, c.bytes_drop]
  exact ⟨Nat.le_add_right _ _, size, rfl, (Kind.mem_all_iff _).1 kind, rfl⟩

end

/-! ### What a port sends (R200) -/

section
variable {s : State} {p : Port}

theorem State.output_of_down (h : (s.link p).state = .down) : s.output p = none := by
  rw [State.output, h]

theorem State.output_of_training (h : (s.link p).state = .training) : s.output p = some idleCell := by
  rw [State.output, h]

theorem State.output_of_up (h : (s.link p).state = .up) : s.output p = some ((s.offered p).getD idleCell) := by
  rw [State.output, h]

end

/-! ### What a received cell is (R168, R201) -/

/-- A flag is one bit of a byte that the field's number spells. -/
theorem flagAt_eq {bs : List Byte} {n : Nat} {b : Byte} (h : b.toNat = field bs n 1) (bit : Nat) :
    flagAt bs n bit = b.getLsbD bit := by
  rw [flagAt, ← h]
  rfl

theorem ofNat_field {bs : List Byte} {n : Nat} {b : Byte} (h : b.toNat = field bs n 1) :
    BitVec.ofNat 8 (field bs n 1) = b := (ofNat_field_eq_iff bs n b).2 h.symm

section
variable {bs : List Byte}

theorem receivedCommand_of_bad (p : Port) (bad : validCell bs = false) : receivedCommand p bs = .badCellReceived p := by
  simp [receivedCommand, bad]

theorem receivedCommand_of_idle (p : Port) (valid : validCell bs = true) (idle : field bs 0 1 = 0x00) :
    receivedCommand p bs = .idleCellReceived p := by
  simp [receivedCommand, valid, idle, Kind.idle]

theorem receivedCommand_head (l : LaneId) (valid : validCell bs = true) (other : field bs 0 1 ≠ 0x00) :
    receivedCommand (.head l) bs = headCommand l (BitVec.ofNat 8 (field bs 0 1)) bs := by
  simp [receivedCommand, valid, ofNat_field_eq_iff, other, Kind.idle]

theorem receivedCommand_trunk (k : Trunk) (valid : validCell bs = true) (other : field bs 0 1 ≠ 0x00) :
    receivedCommand (.trunk k) bs = trunkCommand k (BitVec.ofNat 8 (field bs 0 1)) bs := by
  simp [receivedCommand, valid, ofNat_field_eq_iff, other, Kind.idle]

section
variable {l : LaneId} {token : Byte} (named : token.toNat = field bs 2 1)
include named

theorem headCommand_data (kind : field bs 0 1 = 0x01) :
    headCommand l (BitVec.ofNat 8 (field bs 0 1)) bs = .data l token (bs.drop 16) := by
  rw [headCommand, ofNat_field named]
  simp [kind, Kind.data]

theorem headCommand_close {mark : BitVec 4} (marked : mark.toNat = field bs 6 1 % 16) (kind : field bs 0 1 = 0x02) :
    headCommand l (BitVec.ofNat 8 (field bs 0 1)) bs = .close l token mark ((field bs 7 1).testBit 0)
      (if (field bs 7 1).testBit 1 then some (bs.drop 16) else none) := by
  have low : BitVec.ofNat 4 (field bs 6 1) = mark := BitVec.eq_of_toNat_eq (by rw [BitVec.toNat_ofNat, marked])
  have notData : BitVec.ofNat 8 (field bs 0 1) ≠ Kind.data := by simp [kind, Kind.data]
  have isClose : BitVec.ofNat 8 (field bs 0 1) = Kind.close := (ofNat_field_eq_iff bs 0 _).2 kind
  rw [headCommand, ofNat_field named, low, if_neg notData, if_pos isClose]
  rfl

theorem headCommand_abort (kind : field bs 0 1 = 0x03) :
    headCommand l (BitVec.ofNat 8 (field bs 0 1)) bs = .abort l token := by
  rw [headCommand, ofNat_field named]
  simp [kind, Kind.data, Kind.close, Kind.abort]

end

/-- A kind that a head port does not deliver (R201). -/
theorem headCommand_other (l : LaneId) (other : field bs 0 1 ∉ [0x00, 0x01, 0x02, 0x03]) :
    headCommand l (BitVec.ofNat 8 (field bs 0 1)) bs = .cellDiscarded (.head l) := by
  simp only [List.mem_cons, List.not_mem_nil, or_false, not_or] at other
  simp [headCommand, ofNat_field_eq_iff, other, Kind.data, Kind.close, Kind.abort]

section
variable {k : Trunk} {channel kind tag : Byte} (numbered : channel.toNat = field bs 1 1)
include numbered

theorem trunkCommand_request (asked : kind.toNat = field bs 6 1) (tagged : tag.toNat = field bs 7 1)
    (code : field bs 0 1 = 0x20) (zero : channel = 0) :
    trunkCommand k (BitVec.ofNat 8 (field bs 0 1)) bs = .request k kind tag (bs.drop 16) := by
  have first : field bs 1 1 = 0 := by rw [← numbered, zero]; rfl
  rw [trunkCommand, ofNat_field asked, ofNat_field tagged, if_pos ⟨(ofNat_field_eq_iff bs 0 _).2 code, first⟩]

theorem trunkCommand_pause (flagged : kind.toNat = field bs 6 1) (code : field bs 0 1 = 0x23) :
    trunkCommand k (BitVec.ofNat 8 (field bs 0 1)) bs
      = if kind.getLsbD 0 then .pauseOn k channel else .pauseOff k channel := by
  rw [trunkCommand, ofNat_field numbered, flagAt_eq flagged]
  simp [code, Kind.request, Kind.pause]

/-- A REQUEST on another channel than 0, or a kind that a trunk port does not deliver (R168, R201). -/
theorem trunkCommand_other (other : (field bs 0 1 = 0x20 ∧ channel ≠ 0) ∨ field bs 0 1 ∉ [0x00, 0x20, 0x23]) :
    trunkCommand k (BitVec.ofNat 8 (field bs 0 1)) bs = .cellDiscarded (.trunk k) := by
  have zero : field bs 1 1 = 0 ↔ channel = 0 := by rw [← numbered, BitVec.toNat_eq]; rfl
  have notRequest : ¬(BitVec.ofNat 8 (field bs 0 1) = Kind.request ∧ field bs 1 1 = 0) := by
    rw [ofNat_field_eq_iff, zero]
    rintro ⟨request, first⟩
    exact other.elim (fun h => h.2 first) fun h => h (by simp [request, Kind.request])
  have notPause : BitVec.ofNat 8 (field bs 0 1) ≠ Kind.pause := by
    rw [Ne, ofNat_field_eq_iff]
    intro pause
    rcases other with ⟨request, _⟩ | h
    · simp [request, Kind.pause] at pause
    · exact h (by simp [pause, Kind.pause])
  rw [trunkCommand, if_neg notRequest, if_neg notPause]

end

end

/-- Settles O60: the fields of the bytes sent, the output by the state of the link, validity by its five tests, and the
command of a valid cell by its port and kind. -/
theorem sentCellsAreValid : Obligations.SentCellsAreValid := by
  refine ⟨fun c kind size => ⟨c.bytes_valid kind size, c.bytes_length, c.bytes_drop, c.field_kind,
      fun h => c.field_channel.trans (Nat.mod_eq_of_lt h), fun h => c.field_token.trans (Nat.mod_eq_of_lt h),
      c.field_length.trans (Nat.mod_eq_of_lt (by omega))⟩,
    crc16_check_value,
    fun s p => ⟨State.output_of_down, State.output_of_training, fun up none => ?_, fun up c offers => ?_⟩,
    validCell_iff, fun p bs => ⟨receivedCommand_of_bad p, receivedCommand_of_idle p⟩,
    fun l bs token valid named => ⟨fun data => ?_, fun mark marked close => ?_, fun abort => ?_, fun other => ?_⟩,
    fun k bs channel kind tag valid numbered flagged tagged =>
      ⟨fun request zero => ?_, fun pause on => ?_, fun pause off => ?_, fun other => ?_⟩⟩
  · rw [State.output_of_up up, none, Option.getD_none]
  · rw [State.output_of_up up, offers, Option.getD_some]
  · rw [receivedCommand_head l valid (by omega), headCommand_data named data]
  · rw [receivedCommand_head l valid (by omega), headCommand_close named marked close]
  · rw [receivedCommand_head l valid (by omega), headCommand_abort named abort]
  · have notIdle : field bs 0 1 ≠ 0x00 := fun idle => other (by simp [idle])
    rw [receivedCommand_head l valid notIdle, headCommand_other l other]
  · rw [receivedCommand_trunk k valid (by omega), trunkCommand_request numbered flagged tagged request zero]
  · rw [receivedCommand_trunk k valid (by omega), trunkCommand_pause numbered flagged pause, if_pos on]
  · rw [receivedCommand_trunk k valid (by omega), trunkCommand_pause numbered flagged pause, off]
    rfl
  · have notIdle : field bs 0 1 ≠ 0x00 := by
      rcases other with ⟨request, _⟩ | h
      · omega
      · exact fun idle => h (by simp [idle])
    rw [receivedCommand_trunk k valid notIdle, trunkCommand_other numbered other]

end Sys2Proof.Machine
end

section
/-! The transmit slot of a trunk (R162, R163, R196), and the cells of a copy (R164). -/

namespace Sys2Proof.Machine

/- One proof after another: every thread of a parallel elaboration reserves memory, which the check limits. -/
set_option Elab.async false

/-! ### The channel whose turn it is (R163) -/

theorem State.eligible_iff (s : State) (c : ChanId) : s.eligible c = true ↔
    (s.channelRec c).enabled = true ∧ (s.chan c).pauseTimer = none ∧ (s.chan c).queue ≠ [] := by
  simp [State.eligible, and_assoc]

/-- The first eligible channel at or after the pointer. -/
theorem State.turn_eq_some {s : State} {k : Trunk} {j : Fin 8}
    (eligible : s.eligible (trunkChan k ((s.trunk k).rr + j)) = true)
    (first : ∀ m : Fin 8, m < j → s.eligible (trunkChan k ((s.trunk k).rr + m)) = false) :
    s.turn k = some ((s.trunk k).rr + j) := by
  have found : (List.finRange 8).find? (fun m => s.eligible (trunkChan k ((s.trunk k).rr + m))) = some j := by
    rw [List.find?_eq_some_iff_getElem]
    refine ⟨eligible, j, by simp, by simp, fun m below => ?_⟩
    simpa using first ⟨m, by omega⟩ below
  rw [State.turn, List.find?_map]
  exact congrArg (Option.map ((s.trunk k).rr + ·)) found

/-! ### The slot (R162) -/

theorem State.load_trunk_self (s : State) (k : Trunk) (owner : TxOwner) (cell : OutCell) :
    (s.load k owner cell).trunk k = { s.trunk k with tx := some ⟨owner, cell⟩ } := s.setTrunk_trunk_self k _

theorem State.load_event (s : State) (k : Trunk) (owner : TxOwner) (cell : OutCell) (c : Fin 20) :
    (s.load k owner cell).event c = s.event c := s.setTrunk_event k _ c

theorem State.load_events (s : State) (k : Trunk) (owner : TxOwner) (cell : OutCell) :
    (s.load k owner cell).events = s.events := s.setTrunk_events k _

section
variable {s : State} {k : Trunk}

theorem State.reportSlot_of_choice {c : Fin 20} (mgmt : s.mgmtTrunk = k) (choice : s.reportChoice = some c) :
    s.reportSlot k =
      some ((s.setEvent c { s.event c with reportPending := false }).load k (.report c) (s.reportCell c)) := by
  rw [State.reportSlot, choice]
  exact if_pos mgmt

/-- Another trunk has the reports, or none is pending (R196). -/
theorem State.reportSlot_eq_none (h : s.mgmtTrunk ≠ k ∨ s.reportChoice = none) : s.reportSlot k = none := by
  unfold State.reportSlot
  split
  · rename_i choice
    exact if_neg (h.resolve_right (by simp [choice]))
  · rfl

theorem State.channelSlot_of_turn {n : Fin 8} {cell : OutCell} (turn : s.turn k = some n)
    (next : s.channelCell (trunkChan k n) = some cell) : s.channelSlot k =
      some ((s.setTrunk k { s.trunk k with rr := n + 1 }).load k (.channel (trunkChan k n) true) cell) := by
  rw [State.channelSlot, turn]
  exact congrArg (Option.map _) next

theorem State.channelCell_of_live {c : ChanId} {x : Copy} {xs : List Copy} {i : Fin 64} {p : Page}
    (queue : (s.chan c).queue = x :: xs) (live : s.live x.token = some (i, p)) :
    s.channelCell c = some (s.copyCell c x p) := by
  rw [State.channelCell, queue]
  exact congrArg (Option.map fun y : Fin 64 × Page => s.copyCell c x y.2) live

section
variable (up : s.linkUp (.trunk k) = true) (free : (s.trunk k).tx = none)
include up free

theorem State.slot_of_reply {r : Reply} (reply : (s.trunk k).reply = some r) :
    s.slot k = s.load k .reply r.cell := by
  simp [State.slot, up, free, reply]

theorem State.slot_of_report {t : State} (reply : (s.trunk k).reply = none) (report : s.reportSlot k = some t) :
    s.slot k = t := by
  simp [State.slot, up, free, reply, report]

theorem State.slot_of_channel {t : State} (reply : (s.trunk k).reply = none) (report : s.reportSlot k = none)
    (channel : s.channelSlot k = some t) : s.slot k = t := by
  simp [State.slot, up, free, reply, report, channel]

end

end

/-! ### The cells of a copy (R164, section 11.5) -/

section
variable (s : State) (c : ChanId) (x : Copy) (p : Page)

/-- The page start of a copy. -/
theorem State.copyCell_of_first {x : Copy} (first : x.sent = 0) : s.copyCell c x p =
    ⟨Kind.pageStart, c.val % 8 + 1, x.token, decide (x.size ≤ x.sent + 1), [], s.pageHeader x.token p⟩ := if_pos first

/-- The bytes of one entry of the cell list. -/
theorem State.copyCell_of_later {x : Copy} (later : x.sent ≠ 0) : s.copyCell c x p =
    ⟨Kind.data, c.val % 8 + 1, x.token, decide (x.size ≤ x.sent + 1), [],
      Memory.read s.mem (p.cells.getD (x.sent - 1) 0)⟩ := if_neg later

/-- The cells of a copy differ in their kind and payload, and the last has the end indication. -/
theorem State.copyCell_marks : (s.copyCell c x p).channel = c.val % 8 + 1 ∧ (s.copyCell c x p).token = x.token
    ∧ (s.copyCell c x p).endMark = decide (x.size ≤ x.sent + 1) := by
  by_cases first : x.sent = 0
  · rw [State.copyCell_of_first s c p first]
    exact ⟨rfl, rfl, rfl⟩
  · rw [State.copyCell_of_later s c p first]
    exact ⟨rfl, rfl, rfl⟩

theorem SeqPos.bytes_length (pos : SeqPos) : pos.bytes.length = 5 := by
  simp [SeqPos.bytes]

theorem releaseBytes_length (r : Option ReleaseInfo) : (releaseBytes r).length = 12 := by
  cases r <;> simp [releaseBytes]

theorem Sonic.bytes_length (x : Sonic) : x.bytes.length = 4 := by
  cases x <;> simp [Sonic.bytes]

theorem State.pageHeader_length (token : Nat) : (s.pageHeader token p).length = 36 := by
  simp [State.pageHeader, SeqPos.bytes_length, releaseBytes_length, Sonic.bytes_length, codeOr]

end

/-- Settles O46: a reply, a report or the cell of the channel whose turn it is, by what waits, and the cells of a copy by
their position. -/
theorem transmitSlotsAndCells : Obligations.TransmitSlotsAndCells := by
  refine ⟨⟨State.eligible_iff, fun s k up free => ⟨fun r reply => ?_, fun c reply mgmt choice => ?_,
    fun j reply report eligible first x xs i p queue live => ?_⟩⟩, fun s c x p => ?_⟩
  · rw [State.slot_of_reply up free reply, State.load_trunk_self]
    exact ⟨rfl, rfl, s.load_events k _ _⟩
  · rw [State.slot_of_report up free reply (State.reportSlot_of_choice mgmt choice), State.load_trunk_self,
      State.load_event, State.setEvent_event_self, State.setEvent_trunk]
    exact ⟨rfl, rfl, rfl⟩
  · have slot := State.channelSlot_of_turn (State.turn_eq_some eligible first) (State.channelCell_of_live queue live)
    rw [State.slot_of_channel up free reply (State.reportSlot_eq_none report) slot, State.load_trunk_self,
      State.setTrunk_trunk_self]
    exact ⟨rfl, rfl⟩
  · obtain ⟨channel, token, mark⟩ := s.copyCell_marks c x p
    refine ⟨fun first => ?_, fun n cell sent entry => ?_, channel, token, fun more => ?_, s.pageHeader_length p _⟩
    · rw [State.copyCell_of_first s c p first]
      exact ⟨rfl, rfl⟩
    · rw [State.copyCell_of_later s c p (by omega), sent, Nat.add_sub_cancel, List.getD_eq_getElem?_getD, entry]
      exact ⟨rfl, rfl⟩
    · rw [mark, decide_eq_true_eq]
      omega

end Sys2Proof.Machine
end

section
/-! The records of the tables (R172, R174, R201): what loading one writes, when it clamps and when it is refused. -/

namespace Sys2Proof.Machine

/- One proof after another: every thread of a parallel elaboration reserves memory, which the check limits. -/
set_option Elab.async false

/-! ### Numeric fields (R174) -/

/-- The value that a record carries in a field, and the value written. -/
def Ranged.pair (bs : List Byte) (f : Ranged) : Nat × Nat := (field bs f.at_ f.width, f.written)

theorem anyChanged_iff (pairs : List (Nat × Nat)) : anyChanged pairs = true ↔ ∃ p ∈ pairs, p.1 ≠ p.2 := by
  simp [anyChanged]

theorem anyChanged_append (ps qs : List (Nat × Nat)) : anyChanged (ps ++ qs) = (anyChanged ps || anyChanged qs) :=
  List.any_append

/-- Of fields that are clamped, some field is changed exactly when some field carried lies outside its range. -/
theorem anyChanged_ranged {bs : List Byte} {fields : List Ranged} (written : Clamps bs fields)
    (ranges : ∀ f ∈ fields, f.low ≤ f.high) :
    anyChanged (fields.map (Ranged.pair bs)) = true ↔ OutOfRange bs fields := by
  have changed : ∀ f ∈ fields, (f.pair bs).1 ≠ (f.pair bs).2 ↔
      field bs f.at_ f.width < f.low ∨ f.high < field bs f.at_ f.width := by
    intro f hf
    rw [Ranged.pair, written f hf]
    exact ne_clamp (ranges f hf)
  simp only [anyChanged_iff, List.mem_map, exists_exists_and_eq_and]
  exact exists_congr fun f => and_congr_right fun hf => changed f hf

theorem Clamps.append {bs : List Byte} {fs gs : List Ranged} (h : Clamps bs fs) (k : Clamps bs gs) :
    Clamps bs (fs ++ gs) := fun f hf => (List.mem_append.1 hf).elim (h f) (k f)

theorem OutOfRange_append (bs : List Byte) (fs gs : List Ranged) :
    OutOfRange bs (fs ++ gs) ↔ OutOfRange bs fs ∨ OutOfRange bs gs := by
  simp only [OutOfRange, List.mem_append, or_and_right, exists_or]

/-! ### LANE, GROUP and CHANNEL -/

theorem LaneRec.load_clamps (bs : List Byte) : Clamps bs (LaneRec.load bs).1.ranged := by
  simp [Clamps, LaneRec.ranged, LaneRec.load, clamp, clampIndex]

theorem LaneRec.load_clamped (bs : List Byte) :
    (LaneRec.load bs).2 = true ↔ OutOfRange bs (LaneRec.load bs).1.ranged :=
  anyChanged_ranged (load_clamps bs) (by simp [LaneRec.ranged])

theorem LaneRec.load_inRange (bs : List Byte) : (LaneRec.load bs).1.InRange := by
  simp only [LaneRec.InRange, LaneRec.load, clamp]
  omega

theorem GroupRec.load_clamps (bs : List Byte) : Clamps bs (GroupRec.load bs).1.ranged := by
  simp [Clamps, GroupRec.ranged, GroupRec.load, clamp]

theorem GroupRec.load_clamped (bs : List Byte) : (GroupRec.load bs).2 = true ↔
    OutOfRange bs (GroupRec.load bs).1.ranged ∨ (GroupRec.load bs).1.slopeMs ≠ field bs 4 2 := by
  have pairs : (GroupRec.load bs).2 = (anyChanged ((GroupRec.load bs).1.ranged.map (Ranged.pair bs))
      || anyChanged [(field bs 4 2, (GroupRec.load bs).1.slopeMs)]) :=
    anyChanged_append ((GroupRec.load bs).1.ranged.map (Ranged.pair bs)) [(field bs 4 2, (GroupRec.load bs).1.slopeMs)]
  rw [pairs, Bool.or_eq_true, anyChanged_ranged (load_clamps bs) (by simp [GroupRec.ranged]), anyChanged_iff]
  simp [eq_comm]

theorem GroupRec.load_inRange (bs : List Byte) : (GroupRec.load bs).1.InRange := by
  refine ⟨?_, ?_, (clampSlope_greatest _).1⟩ <;> simp only [GroupRec.load, clamp] <;> omega

theorem ChannelRec.load_clamps (bs : List Byte) : Clamps bs (ChannelRec.load bs).1.ranged := by
  simp [Clamps, ChannelRec.ranged, ChannelRec.load, clamp]

theorem ChannelRec.load_clamped (bs : List Byte) :
    (ChannelRec.load bs).2 = true ↔ OutOfRange bs (ChannelRec.load bs).1.ranged :=
  anyChanged_ranged (load_clamps bs) (by simp [ChannelRec.ranged])

theorem ChannelRec.load_inRange (bs : List Byte) : (ChannelRec.load bs).1.InRange := by
  simp only [ChannelRec.InRange, ChannelRec.load, clamp]
  omega

/-! ### CLASS (R144) -/

theorem ClassRec.load_clamps (bs : List Byte) : Clamps bs (ClassRec.load bs).1.ranged := by
  refine Clamps.append (by simp [Clamps, ClassRec.load, clamp, clampIndex]) ?_
  cases mirrored : flagAt bs 0 1 <;> simp [Clamps, ClassRec.load, clampIndex, mirrored]

theorem ClassRec.load_clamped (bs : List Byte) :
    (ClassRec.load bs).2 = true ↔ OutOfRange bs (ClassRec.load bs).1.ranged := by
  rw [← anyChanged_ranged (load_clamps bs) (by cases h : (ClassRec.load bs).1.mirror <;> simp [ClassRec.ranged, h])]
  cases mirrored : flagAt bs 0 1 <;>
    simp [ClassRec.load, anyChanged, ClassRec.ranged, Ranged.pair, clampIndex, mirrored, or_assoc]

theorem ClassRec.load_inRange (bs : List Byte) : (ClassRec.load bs).1.InRange := by
  simp only [ClassRec.InRange, ClassRec.load, clamp]
  omega

/-! ### PROFILE -/

/-- The zone count names how many zones are read, from the first on (R174). -/
theorem loadZones_eq (bs : List Byte) : loadZones bs =
    if field bs 7 1 ≤ 2 then some ((List.range (field bs 7 1)).map (loadZone bs)) else none := by
  unfold loadZones
  match field bs 7 1 with
  | 0 | 1 => rfl
  | 2 => rfl
  | n + 3 =>
    rw [if_neg (by omega)]
    rfl

theorem actionOfCode_eq_some (n : Nat) (a : Action) :
    actionOfCode n = some a ↔ codeIn [.pass, .hold, .stop] a = n := by
  match n with
  | 0 | 1 | 2 => cases a <;> decide
  | n + 3 => cases a <;> simp [actionOfCode, codeIn]

theorem actionOfCode_eq_none (n : Nat) : actionOfCode n = none ↔ 2 < n := by
  match n with
  | 0 | 1 | 2 => decide
  | n + 3 => simp [actionOfCode]

/-- The numeric field of a split: the n of COUNT (log 17). -/
def Split.ranged : Split → List Ranged
  | .count n => [⟨n, 24, 2, 1, 4095⟩]
  | .mark => []
  | .ticket => []

theorem loadSplit_eq_none (bs : List Byte) : loadSplit bs = none ↔ 2 < field bs 23 1 := by
  unfold loadSplit
  match field bs 23 1 with
  | 0 | 1 | 2 => simp
  | n + 3 => simp

/-- The split by its code, with its n brought into range. -/
theorem loadSplit_spec {bs : List Byte} {split : Split} {clamped : Bool} (h : loadSplit bs = some (split, clamped)) :
    ((split = .mark ↔ field bs 23 1 = 0) ∧ ((∃ n, split = .count n) ↔ field bs 23 1 = 1)
      ∧ (split = .ticket ↔ field bs 23 1 = 2))
    ∧ Clamps bs split.ranged ∧ (clamped = true ↔ OutOfRange bs split.ranged) := by
  have counts := ne_clamp (v := field bs 24 2) (low := 1) (high := 4095) (by decide)
  unfold loadSplit at h
  split at h
  all_goals cases h
  all_goals simp_all [Split.ranged, Clamps, OutOfRange, clamp]

theorem loadBlank_eq_none (bs : List Byte) : loadBlank bs = none ↔ 1 < field bs 26 1 := by
  unfold loadBlank
  match field bs 26 1 with
  | 0 | 1 => simp
  | n + 2 => simp

theorem loadBlank_eq_some {bs : List Byte} {drop : Bool} (h : loadBlank bs = some drop) :
    drop.toNat = field bs 26 1 := by
  unfold loadBlank at h
  split at h
  all_goals cases h
  all_goals simp [*]

/-- The numeric fields of a PROFILE record but those of its zones and its split. -/
def ProfileRec.numbers (r : ProfileRec) : List Ranged :=
  [⟨r.lenMin, 0, 2, 50, 1000⟩, ⟨r.lenMax, 2, 2, 50, 1000⟩, ⟨r.tThick, 4, 1, 1, 254⟩, ⟨r.hyst, 5, 1, 0, 63⟩,
    ⟨r.minRun, 6, 1, 1, 255⟩, ⟨r.markmap.val, 21, 1, 0, 3⟩, ⟨r.defaultClass.val, 22, 1, 0, 31⟩]

theorem ProfileRec.ranged_eq (r : ProfileRec) : r.ranged = r.numbers ++ r.rangedZones ++ r.split.ranged := by
  unfold ProfileRec.ranged
  cases r.split <;> rfl

/-- The numeric fields of the `i`-th mask zone. -/
def Zone.ranged (z : Zone) (i : Nat) : List Ranged :=
  [⟨z.start, 8 + 4 * i, 2, 0, 999⟩, ⟨z.stop, 10 + 4 * i, 2, 1, 1000⟩]

theorem loadZone_clamps (bs : List Byte) (i : Nat) : Clamps bs ((loadZone bs i).1.ranged i) := by
  simp [Clamps, Zone.ranged, loadZone, clamp]

theorem loadZone_clamped (bs : List Byte) (i : Nat) :
    (loadZone bs i).2 = true ↔ OutOfRange bs ((loadZone bs i).1.ranged i) :=
  anyChanged_ranged (loadZone_clamps bs i) (by simp [Zone.ranged])

/-- The fields of the zones read are those of each zone at its place. -/
theorem ProfileRec.rangedZones_eq {bs : List Byte} {n : Nat} {r : ProfileRec}
    (zones : r.zones = ((List.range n).map (loadZone bs)).map (·.1)) :
    r.rangedZones = (List.range n).flatMap fun i => (loadZone bs i).1.ranged i := by
  have places : r.zones.zipIdx = (List.range n).map fun i => ((loadZone bs i).1, i) :=
    List.ext_getElem (by simp [zones]) (by simp [zones])
  rw [ProfileRec.rangedZones, places, List.flatMap_map]
  rfl

/-- A record that is accepted: its coded fields, and its numbers brought into range. -/
theorem ProfileRec.load_spec {bs : List Byte} {r : ProfileRec} {clamped : Bool}
    (h : ProfileRec.load bs = some (r, clamped)) :
    ∃ zones counted, loadZones bs = some zones ∧ r.zones = zones.map (·.1)
      ∧ (actionOfCode (field bs 16 1) = some r.polDouble ∧ actionOfCode (field bs 17 1) = some r.polLong
        ∧ actionOfCode (field bs 18 1) = some r.polShort ∧ actionOfCode (field bs 19 1) = some r.polUnverified
        ∧ actionOfCode (field bs 20 1) = some r.polTruncated)
      ∧ loadSplit bs = some (r.split, counted) ∧ loadBlank bs = some r.blankDrop ∧ Clamps bs r.numbers
      ∧ clamped = (anyChanged (r.numbers.map (Ranged.pair bs)) || zones.any (·.2) || counted) := by
  simp only [ProfileRec.load, Option.bind_eq_bind, Option.bind_eq_some_iff, Option.pure_def, Option.some.injEq,
    Prod.mk.injEq] at h
  obtain ⟨zones, hz, a, ha, b, hb, c, hc, d, hd, e, he, split, hs, blank, hk, rfl, rfl⟩ := h
  refine ⟨zones, split.2, hz, rfl, ⟨ha, hb, hc, hd, he⟩, hs, hk, ?_, rfl⟩
  simp [Clamps, ProfileRec.numbers, clamp, clampIndex]

/-- The zones of an accepted record are as many as its zone count, and each is brought into range. -/
theorem ProfileRec.load_zones {bs : List Byte} {r : ProfileRec} {zones : List (Zone × Bool)}
    (h : loadZones bs = some zones) (written : r.zones = zones.map (·.1)) :
    r.zones.length = field bs 7 1 ∧ field bs 7 1 ≤ 2 ∧ Clamps bs r.rangedZones
      ∧ (zones.any (·.2) = true ↔ OutOfRange bs r.rangedZones) := by
  rw [loadZones_eq] at h
  split_ifs at h with few
  cases h
  refine ⟨by simp [written], few, ?_, ?_⟩ <;> rw [rangedZones_eq written]
  · intro f hf
    obtain ⟨i, _, hi⟩ := List.mem_flatMap.1 hf
    exact loadZone_clamps bs i f hi
  · simp only [List.any_map, List.any_eq_true, Function.comp_apply, loadZone_clamped, OutOfRange, List.mem_flatMap]
    exact ⟨fun ⟨i, hi, f, hf, out⟩ => ⟨f, ⟨i, hi, hf⟩, out⟩, fun ⟨f, ⟨i, hi, hf⟩, out⟩ => ⟨i, hi, f, hf, out⟩⟩

/-- An accepted record is written with its numeric fields brought into range. -/
theorem ProfileRec.load_clamps {bs : List Byte} {r : ProfileRec} {clamped : Bool}
    (h : ProfileRec.load bs = some (r, clamped)) :
    Clamps bs r.ranged ∧ (clamped = true ↔ OutOfRange bs r.ranged) := by
  obtain ⟨zones, counted, read, written, _, split, _, numbers, rfl⟩ := load_spec h
  obtain ⟨_, _, zonesWritten, zonesChanged⟩ := load_zones read written
  obtain ⟨_, splitWritten, splitChanged⟩ := loadSplit_spec split
  rw [ranged_eq, OutOfRange_append, OutOfRange_append]
  refine ⟨(numbers.append zonesWritten).append splitWritten, ?_⟩
  rw [Bool.or_eq_true, Bool.or_eq_true, anyChanged_ranged numbers (by simp [ProfileRec.numbers]), zonesChanged,
    splitChanged]

theorem ProfileRec.load_inRange {bs : List Byte} {r : ProfileRec} {clamped : Bool}
    (h : ProfileRec.load bs = some (r, clamped)) : r.InRange := by
  obtain ⟨zones, counted, read, written, _, split, _, numbers, rfl⟩ := load_spec h
  obtain ⟨count, few, _, _⟩ := load_zones read written
  obtain ⟨_, splitWritten, _⟩ := loadSplit_spec split
  simp only [Clamps, ProfileRec.numbers, List.forall_mem_cons] at numbers
  obtain ⟨lenMin, lenMax, tThick, hyst, minRun, _⟩ := numbers
  refine ⟨by omega, by omega, by omega, by omega, by omega, by omega, fun z hz => ?_, ?_⟩
  · rw [loadZones_eq, if_pos few] at read
    cases read
    rw [written, List.map_map] at hz
    obtain ⟨i, _, rfl⟩ := List.mem_map.1 hz
    simp only [Zone.InRange, Function.comp_apply, loadZone, clamp]
    omega
  · cases s : r.split with
    | count n =>
      have n_written := splitWritten ⟨n, 24, 2, 1, 4095⟩ (by simp [s, Split.ranged])
      simp only [Split.InRange] at n_written ⊢
      omega
    | mark => trivial
    | ticket => trivial

/-- A record is refused exactly when a coded field of it names no code (R174). -/
theorem ProfileRec.load_eq_none (bs : List Byte) : ProfileRec.load bs = none ↔ badProfileCodes bs := by
  have codes : badProfileCodes bs ↔ loadZones bs = none ∨ actionOfCode (field bs 16 1) = none
      ∨ actionOfCode (field bs 17 1) = none ∨ actionOfCode (field bs 18 1) = none
      ∨ actionOfCode (field bs 19 1) = none ∨ actionOfCode (field bs 20 1) = none ∨ loadSplit bs = none
      ∨ loadBlank bs = none := by
    simp [badProfileCodes, loadZones_eq, actionOfCode_eq_none, loadSplit_eq_none, loadBlank_eq_none, or_assoc]
  rw [codes]
  constructor
  · intro none
    by_contra all
    simp only [not_or, ← ne_eq, Option.ne_none_iff_exists'] at all
    obtain ⟨⟨_, hz⟩, ⟨_, ha⟩, ⟨_, hb⟩, ⟨_, hc⟩, ⟨_, hd⟩, ⟨_, he⟩, ⟨_, hs⟩, ⟨_, hk⟩⟩ := all
    simp [ProfileRec.load, hz, ha, hb, hc, hd, he, hs, hk] at none
  · intro bad
    by_contra accepted
    obtain ⟨⟨r, clamped⟩, h⟩ := Option.ne_none_iff_exists'.1 accepted
    obtain ⟨zones, counted, hz, _, ⟨ha, hb, hc, hd, he⟩, hs, hk, _⟩ := load_spec h
    simp [hz, ha, hb, hc, hd, he, hs, hk] at bad

/-! ### MARKMAP -/

theorem loadMark_eq_none (bs : List Byte) (i : Nat) : loadMark bs i = none ↔ 6 < field bs (2 * i) 1 := by
  unfold loadMark
  dsimp only
  match field bs (2 * i) 1 with
  | 0 | 1 | 2 | 3 | 4 | 5 | 6 => simp
  | n + 7 => simp

/-- The action by its code, with its class brought into range. -/
theorem loadMark_spec {bs : List Byte} {i : Nat} {a : MarkAction} {clamped : Bool}
    (h : loadMark bs i = some (a, clamped)) :
    ((a = .ignore ↔ field bs (2 * i) 1 = 0) ∧ (a = .sepKeep ↔ field bs (2 * i) 1 = 1)
      ∧ (a = .sepDrop ↔ field bs (2 * i) 1 = 2) ∧ (a = .ticketKeep ↔ field bs (2 * i) 1 = 3)
      ∧ (a = .ticketDrop ↔ field bs (2 * i) 1 = 4) ∧ ((∃ c, a = .classKeep c) ↔ field bs (2 * i) 1 = 5)
      ∧ ((∃ c, a = .classDrop c) ↔ field bs (2 * i) 1 = 6))
    ∧ Clamps bs (a.ranged i) ∧ (clamped = true ↔ OutOfRange bs (a.ranged i)) := by
  unfold loadMark at h
  dsimp only at h
  split at h
  all_goals cases h
  all_goals simp_all [MarkAction.ranged, Clamps, OutOfRange, clampIndex]

/-- Options are collected exactly when each of them is there. -/
theorem mapM_eq_some {α β : Type} (f : α → Option β) (xs : List α) (ys : List β) :
    xs.mapM f = some ys ↔ xs.map f = ys.map some := by
  induction xs generalizing ys with
  | nil => cases ys <;> simp
  | cons x xs ih => cases ys <;> simp [List.mapM_cons, Option.bind_eq_some_iff, ih]

theorem mapM_eq_none {α β : Type} (f : α → Option β) (xs : List α) : xs.mapM f = none ↔ ∃ x ∈ xs, f x = none := by
  induction xs with
  | nil => simp
  | cons x xs ih =>
    cases h : f x with
    | none => simp [List.mapM_cons, h]
    | some y =>
      have collected : (x :: xs).mapM f = (xs.mapM f).map (y :: ·) := by
        simp only [List.mapM_cons, h]
        cases xs.mapM f <;> rfl
      rw [collected, Option.map_eq_none_iff, ih]
      simp [h]

/-- A map is refused exactly when an action of it names no code (R174). -/
theorem loadMarkMap_eq_none (bs : List Byte) : loadMarkMap bs = none ↔ badMarkCodes bs := by
  have none : loadMarkMap bs = none ↔ (List.range 15).mapM (loadMark bs) = none := by
    unfold loadMarkMap
    cases (List.range 15).mapM (loadMark bs) <;> simp
  simp [none, mapM_eq_none, loadMark_eq_none, badMarkCodes]

/-- An accepted map holds its fifteen entries as they are read. -/
theorem loadMarkMap_spec {bs : List Byte} {m : Vector MarkAction 15} {clamped : Bool}
    (h : loadMarkMap bs = some (m, clamped)) : ∃ changed : Fin 15 → Bool,
      (∀ k, loadMark bs k.val = some (m[k], changed k)) ∧ (clamped = true ↔ ∃ k, changed k = true) := by
  simp only [loadMarkMap, Option.bind_eq_bind, Option.bind_eq_some_iff, mapM_eq_some, Option.pure_def,
    Option.some.injEq, Prod.mk.injEq] at h
  obtain ⟨entries, read, rfl, rfl⟩ := h
  have count : entries.length = 15 := by simpa using (congrArg List.length read).symm
  refine ⟨fun k => entries[k].2, fun k => ?_, ?_⟩
  · have entry := congrArg (·[k.val]?) read
    simpa [count] using entry
  · simp only [List.any_eq_true, List.mem_iff_getElem]
    constructor
    · rintro ⟨_, ⟨k, hk, rfl⟩, changed⟩
      exact ⟨⟨k, by omega⟩, changed⟩
    · rintro ⟨k, changed⟩
      exact ⟨_, ⟨k.val, by omega, rfl⟩, changed⟩

/-! ### Whole banks -/

/-- A value written into a vector keeps what holds of all its values, when it holds of the value. -/
theorem forall_vector_set {α : Type} {n i : Nat} {P : α → Prop} {v : Vector α n} (h : ∀ j : Fin n, P v[j]) (hi : i < n)
    {x : α} (hx : P x) (j : Fin n) : P (v.set i x)[j] := by
  rw [Fin.getElem_fin, Vector.getElem_set]
  split
  · exact hx
  · exact h j

theorem Tables.zeroed_inRange : Tables.zeroed.InRange := by
  simp [Tables.InRange, Tables.zeroed, LaneRec.InRange, LaneRec.zeroed, GroupRec.InRange, GroupRec.zeroed,
    ProfileRec.InRange, ProfileRec.zeroed, Split.InRange, ClassRec.InRange, ClassRec.zeroed, ChannelRec.InRange,
    ChannelRec.zeroed]

section
variable {t u : Tables} {i : Nat} {bs : List Byte} {clamped : Bool}

/-! A load writes one record of one table. -/

theorem Tables.load_lane (h : t.load .lane i bs = some (u, clamped)) :
    ∃ hi : i < 6, u = { t with lane := t.lane.set i (LaneRec.load bs).1 } ∧ clamped = (LaneRec.load bs).2 := by
  rw [Tables.load] at h
  split_ifs at h with hi
  cases h
  exact ⟨hi, rfl, rfl⟩

theorem Tables.load_group (h : t.load .group i bs = some (u, clamped)) :
    ∃ hi : i < 3, u = { t with group := t.group.set i (GroupRec.load bs).1 } ∧ clamped = (GroupRec.load bs).2 := by
  rw [Tables.load] at h
  split_ifs at h with hi
  cases h
  exact ⟨hi, rfl, rfl⟩

theorem Tables.load_profile (h : t.load .profile i bs = some (u, clamped)) :
    ∃ (hi : i < 16) (r : ProfileRec), ProfileRec.load bs = some (r, clamped)
      ∧ u = { t with profile := t.profile.set i r } := by
  rw [Tables.load] at h
  split_ifs at h with hi
  obtain ⟨⟨r, _⟩, accepted, written⟩ := Option.map_eq_some_iff.1 h
  cases written
  exact ⟨hi, r, accepted, rfl⟩

theorem Tables.load_markmap (h : t.load .markmap i bs = some (u, clamped)) :
    ∃ (hi : i < 4) (m : Vector MarkAction 15), loadMarkMap bs = some (m, clamped)
      ∧ u = { t with markmap := t.markmap.set i m } := by
  rw [Tables.load] at h
  split_ifs at h with hi
  obtain ⟨⟨m, _⟩, accepted, written⟩ := Option.map_eq_some_iff.1 h
  cases written
  exact ⟨hi, m, accepted, rfl⟩

theorem Tables.load_cls (h : t.load .cls i bs = some (u, clamped)) :
    ∃ hi : i < 32, u = { t with cls := t.cls.set i (ClassRec.load bs).1 } ∧ clamped = (ClassRec.load bs).2 := by
  rw [Tables.load] at h
  split_ifs at h with hi
  cases h
  exact ⟨hi, rfl, rfl⟩

theorem Tables.load_channel (h : t.load .channel i bs = some (u, clamped)) :
    ∃ hi : i < 16, u = { t with channel := t.channel.set i (ChannelRec.load bs).1 }
      ∧ clamped = (ChannelRec.load bs).2 := by
  rw [Tables.load] at h
  split_ifs at h with hi
  cases h
  exact ⟨hi, rfl, rfl⟩

/-- A bank in range is in range after a load (R174). -/
theorem Tables.load_inRange {id : TableId} (h : t.InRange) (loaded : t.load id i bs = some (u, clamped)) :
    u.InRange := by
  obtain ⟨lane, group, profile, cls, channel⟩ := h
  cases id with
  | lane =>
    obtain ⟨hi, rfl, _⟩ := load_lane loaded
    exact ⟨forall_vector_set lane hi (LaneRec.load_inRange bs), group, profile, cls, channel⟩
  | group =>
    obtain ⟨hi, rfl, _⟩ := load_group loaded
    exact ⟨lane, forall_vector_set group hi (GroupRec.load_inRange bs), profile, cls, channel⟩
  | profile =>
    obtain ⟨hi, r, accepted, rfl⟩ := load_profile loaded
    exact ⟨lane, group, forall_vector_set profile hi (ProfileRec.load_inRange accepted), cls, channel⟩
  | markmap =>
    obtain ⟨_, _, _, rfl⟩ := load_markmap loaded
    exact ⟨lane, group, profile, cls, channel⟩
  | cls =>
    obtain ⟨hi, rfl, _⟩ := load_cls loaded
    exact ⟨lane, group, profile, forall_vector_set cls hi (ClassRec.load_inRange bs), channel⟩
  | channel =>
    obtain ⟨hi, rfl, _⟩ := load_channel loaded
    exact ⟨lane, group, profile, cls, forall_vector_set channel hi (ChannelRec.load_inRange bs)⟩

end

/-- Settles O5: a zeroed bank is a finite value. LANE and GROUP have no fault, and the profiles look up class 0, which
is disabled until it is written. -/
theorem zeroedBankValues : Obligations.ZeroedBankValues := by
  unfold Obligations.ZeroedBankValues
  refine ⟨?lane, ?group, ?profile, ?markmap, ?cls, ?channel, ?fault, ?repaired⟩
  case lane => decide
  case group => decide
  case profile => decide
  case markmap => decide
  case cls => decide
  case channel => decide
  case fault => decide
  case repaired => decide

end Sys2Proof.Machine
end

section
/-! The forms of the data (R95, R174, R184, R192, R199, log 11): what the updates of the state keep of the pool's
content, the tables' ranges, the queues and the counts that stop. -/

namespace Sys2Proof.Machine

/- One proof after another: every thread of a parallel elaboration reserves memory, which the check limits. -/
set_option Elab.async false

/-! ### The three properties at once -/

/-- What the three properties speak of. -/
def State.forms (s : State) :
    Memory × Vector Tables 2 × Vector HeadPort 6 × TrunkPort × TrunkPort × Vector EventState 20 :=
  (s.mem, s.banks, s.heads, s.trunkA, s.trunkB, s.events)

/-- Of the three properties those that are assumed: `m` asks for the first, `b` for the second, `c` for the third. One
walk over the commands then shows that each is kept without the others. -/
structure FormsSound (m b c : Prop) (s : State) : Prop where
  mem : m → MemorySound s
  tables : b → TablesSound s
  counts : c → CountsSound s

/-- The bounds of a trunk's port. -/
def TrunkPort.Bounded (x : TrunkPort) : Prop :=
  x.requests.length ≤ 4 ∧ x.discards ≤ 255 ∧ x.link.errors ≤ 65535

/-- The bounds of a head's port. -/
def HeadPort.Bounded (x : HeadPort) : Prop := x.staleCount ≤ 65535 ∧ x.link.errors ≤ 65535

/-- The bounds, port by port and class by class. -/
theorem countsSound_iff (s : State) : CountsSound s ↔
    (∀ k, (s.trunk k).Bounded) ∧ (∀ l, (s.head l).Bounded) ∧ ∀ c, (s.event c).count ≤ 255 := by
  constructor
  · rintro ⟨trunks, links, stale, events⟩
    exact ⟨fun k => ⟨(trunks k).1, (trunks k).2, links (.trunk k)⟩, fun l => ⟨stale l, links (.head l)⟩, events⟩
  · rintro ⟨trunks, heads, events⟩
    refine ⟨fun k => ⟨(trunks k).1, (trunks k).2.1⟩, fun p => ?_, fun l => (heads l).1, events⟩
    cases p with
    | head l => exact (heads l).2
    | trunk k => exact (trunks k).2.2

/-! ### The updates that leave the forms -/

section
variable (s : State)

theorem State.modToken_forms (token : Nat) (f : Page → Page) : (s.modToken token f).forms = s.forms := by
  rw [s.modToken_frame]
  rfl

theorem State.freeEntry_forms (i : Fin 64) : (s.freeEntry i).forms = s.forms := by
  rw [s.freeEntry_frame]
  rfl

theorem State.takeOne_forms (l : LaneId) (ls : List LaneId) : (s.takeOne l ls).2.forms = s.forms := by
  rw [(s.takeOne_spec l ls).2]
  rfl

theorem State.fgcPass_forms : s.fgcPass.forms = s.forms := by
  rw [s.fgcPass_frame]
  rfl

theorem State.holdAll_forms : s.holdAll.forms = s.forms := by
  rw [s.holdAll_frame]
  rfl

theorem State.leaveRampUp_forms (l : LaneId) : (s.leaveRampUp l).forms = s.forms := by
  rw [s.leaveRampUp_frame]
  rfl

end

namespace FormsSound

variable {m b c : Prop} {s t : State}

/-- An update beside the forms. -/
theorem same (h : FormsSound m b c s) (kept : t.forms = s.forms := by rfl) : FormsSound m b c t := by
  simp only [State.forms, Prod.mk.injEq] at kept
  obtain ⟨mem, banks, heads, trunkA, trunkB, events⟩ := kept
  refine ⟨fun hm => ?_, fun hb => ?_, fun hc => ?_⟩
  · rw [MemorySound, mem]
    exact h.mem hm
  · rw [TablesSound, banks]
    exact h.tables hb
  · have counts := (countsSound_iff s).1 (h.counts hc)
    have trunk (k : Trunk) : t.trunk k = s.trunk k := by cases k <;> simp [State.trunk, trunkA, trunkB]
    simpa only [countsSound_iff, trunk, State.head, heads, State.event, events] using counts

theorem foldl {α : Type} (h : FormsSound m b c s) (f : State → α → State)
    (hf : ∀ u x, FormsSound m b c u → FormsSound m b c (f u x)) (xs : List α) : FormsSound m b c (xs.foldl f s) :=
  List.foldlRecOn xs f h fun u hu x _ => hf u x hu

theorem modToken (h : FormsSound m b c s) (token : Nat) (f : Page → Page) : FormsSound m b c (s.modToken token f) :=
  h.same (s.modToken_forms token f)

theorem freeEntry (h : FormsSound m b c s) (i : Fin 64) : FormsSound m b c (s.freeEntry i) :=
  h.same (s.freeEntry_forms i)

/-! ### Ports and events -/

theorem setTrunk (h : FormsSound m b c s) (k : Trunk) {x : TrunkPort}
    (hx : (s.trunk k).Bounded → x.Bounded := by exact id) : FormsSound m b c (s.setTrunk k x) := by
  refine ⟨fun hm => ?_, fun hb => ?_, fun hc => ?_⟩
  · rw [MemorySound, State.setTrunk_mem]
    exact h.mem hm
  · rw [TablesSound, State.setTrunk_banks]
    exact h.tables hb
  · obtain ⟨trunks, heads, events⟩ := (countsSound_iff s).1 (h.counts hc)
    refine (countsSound_iff _).2 ⟨fun j => ?_, by simpa using heads, by simpa using events⟩
    by_cases e : k = j
    · subst e
      rw [State.setTrunk_trunk_self]
      exact hx (trunks k)
    · rw [State.setTrunk_trunk_ne s k j x e]
      exact trunks j

theorem setHead (h : FormsSound m b c s) (l : LaneId) {x : HeadPort}
    (hx : (s.head l).Bounded → x.Bounded := by exact id) : FormsSound m b c (s.setHead l x) := by
  refine ⟨h.mem, h.tables, fun hc => ?_⟩
  obtain ⟨trunks, heads, events⟩ := (countsSound_iff s).1 (h.counts hc)
  refine (countsSound_iff _).2 ⟨trunks, fun j => ?_, events⟩
  by_cases e : l = j
  · subst e
    rw [State.setHead_head_self]
    exact hx (heads l)
  · rw [State.setHead_head_ne s l j x e]
    exact heads j

theorem setLink (h : FormsSound m b c s) (p : Port) {x : Link}
    (hx : (s.link p).errors ≤ 65535 → x.errors ≤ 65535 := by exact id) : FormsSound m b c (s.setLink p x) := by
  cases p with
  | head l => exact h.setHead l fun k => ⟨k.1, hx k.2⟩
  | trunk t => exact h.setTrunk t fun k => ⟨k.1, k.2.1, hx k.2.2⟩

theorem setEvent (h : FormsSound m b c s) (i : Fin 20) {x : EventState}
    (hx : (s.event i).count ≤ 255 → x.count ≤ 255 := by exact id) : FormsSound m b c (s.setEvent i x) := by
  refine ⟨h.mem, h.tables, fun hc => ?_⟩
  obtain ⟨trunks, heads, events⟩ := (countsSound_iff s).1 (h.counts hc)
  refine (countsSound_iff _).2 ⟨trunks, heads, fun j => ?_⟩
  by_cases e : i = j
  · subst e
    rw [State.setEvent_event_self]
    exact hx (events i)
  · rw [State.setEvent_event_ne s i j x e]
    exact events j

/-- An occurrence counts to 255 (R193). -/
theorem occur (h : FormsSound m b c s) (i : Fin 20) (src : Nat) : FormsSound m b c (s.occur i src) := by
  unfold State.occur
  split
  · exact h.setEvent i fun _ => Nat.min_le_left _ _
  · exact h

theorem setRaw (h : FormsSound m b c s) (i : Fin 20) (src : Nat) (level : Bool) :
    FormsSound m b c (s.setRaw i src level) := by
  unfold State.setRaw
  split_ifs
  · exact h
  · exact h
  · exact h.setEvent i fun _ => Nat.min_le_left _ _
  · exact h.setEvent i

theorem sendHead (h : FormsSound m b c s) (l : LaneId) (kind : HeadKind) (token : Nat) :
    FormsSound m b c (s.sendHead l kind token) := by
  unfold State.sendHead
  split
  · exact h.setHead l
  · exact h

/-! ### The banks and the content of the pool -/

/-- A record written into one bank, beside which the state may change in the roles of the banks. -/
theorem setBank (h : FormsSound m b c s) (i : Fin 2) {x : Tables} (hx : TablesSound s → x.InRange) :
    FormsSound m b c { s with banks := s.banks.set i x } :=
  ⟨h.mem, fun hb => forall_vector_set (h.tables hb) i.isLt (hx (h.tables hb)), h.counts⟩

/-- A cell is written. -/
theorem write (h : FormsSound m b c s) (cell : Nat) (payload : List Byte) :
    FormsSound m b c { s with mem := Memory.write cell payload s.mem } :=
  ⟨fun hm => Memory.write_wf cell payload s.mem (h.mem hm), h.tables, h.counts⟩

end FormsSound
end Sys2Proof.Machine
end

section
/-! The forms of the data: every sub-act and every reset keeps them. -/

namespace Sys2Proof.Machine

/- One proof after another: every thread of a parallel elaboration reserves memory, which the check limits. -/
set_option Elab.async false

namespace FormsSound

variable {m b c : Prop} {s t : State}

/-! ### The Double-Feed Monitor and the Head Intake -/

theorem evalDrift (h : FormsSound m b c s) (l : LaneId) : FormsSound m b c (s.evalDrift l) :=
  (h.same (t := s.modDfm l _)).setRaw _ _ _

theorem toggled (h : FormsSound m b c s) (l : LaneId) (f : Dfm → Dfm) (level : Bool) :
    FormsSound m b c (((s.modDfm l f).setRaw Ev.sonicDegraded l.val level).evalDrift l) :=
  ((h.same (t := s.modDfm l f)).setRaw _ _ _).evalDrift l

theorem airSample (h : FormsSound m b c s) (l : LaneId) (a : Nat) : FormsSound m b c (s.airSample l a) := by
  have noted (f : Dfm → Dfm) : FormsSound m b c (s.modDfm l f) := h.same
  unfold State.airSample
  split
  · unfold State.calibrationSample
    dsimp only
    split_ifs
    · exact h.toggled l _ _
    · exact noted _
    · exact noted _
    · exact (noted _).toggled l _ _
  · unfold State.baselineSample
    dsimp only
    split_ifs
    · exact h
    · exact (noted _).evalDrift l
    · exact (noted _).toggled l _ _
    · exact noted _
  · exact h

theorem onAir (h : FormsSound m b c s) (l : LaneId) : FormsSound m b c (Machine.onAir l s).1 := by
  unfold Machine.onAir
  dsimp only
  split_ifs
  · exact (h.same (t := s.modDfm l _)).airSample l _
  · exact h.same
  · exact h

theorem onSamples (h : FormsSound m b c s) (l : LaneId) : FormsSound m b c (Machine.onSamples l s).1 := by
  unfold Machine.onSamples
  split
  · exact (h.same (t := s.modDfm l _)).foldl _ (fun _ w k => k.modToken _ _) _
  · exact h

theorem gateOpen (h : FormsSound m b c s) (l : LaneId) (token : Nat) : FormsSound m b c (s.gateOpen l token) := by
  unfold State.gateOpen
  split
  · exact h
  · dsimp only
    refine sendHead ?_ l _ token
    split_ifs <;> exact h.same

theorem gateClose (h : FormsSound m b c s) (l : LaneId) (token timeout : Nat) :
    FormsSound m b c (s.gateClose l token timeout) := by
  unfold State.gateClose
  split
  · exact h
  · dsimp only
    refine sendHead ?_ l _ token
    split_ifs <;> exact h.same

theorem cancelImage (h : FormsSound m b c s) (l : LaneId) (token : Nat) : FormsSound m b c (s.cancelImage l token) := by
  unfold State.cancelImage
  split
  · exact h
  · split
    · exact (h.same (t := s.modPage _ _)).sendHead l _ token
    · exact h

/-! ### The Lane Transport Controller -/

theorem toRest (h : FormsSound m b c s) (l : LaneId) : FormsSound m b c (s.toRest l) := by
  unfold State.toRest
  dsimp only
  split
  · exact occur h.same _ _
  · exact h.same

theorem trayFoundEmpty (h : FormsSound m b c s) (l : LaneId) : FormsSound m b c (Machine.trayFoundEmpty l s).1 := by
  unfold Machine.trayFoundEmpty
  split <;> exact h.same

theorem onHolds (h : FormsSound m b c s) : FormsSound m b c (Machine.onHolds s).1 := by
  have held : FormsSound m b c s.holdAll := h.same s.holdAll_forms
  unfold Machine.onHolds feedNext
  split
  · exact held.same
  · exact held
  · exact (held.same (State.takeOne_forms _ _ _)).same

theorem onPickTest (h : FormsSound m b c s) (l : LaneId) : FormsSound m b c (Machine.onPickTest l s).1 := by
  unfold Machine.onPickTest
  split
  · split
    · split <;> exact h.same
    · exact h.trayFoundEmpty l
  · exact h

theorem trailingEdge (h : FormsSound m b c s) (l : LaneId) (token : Nat) :
    FormsSound m b c (s.trailingEdge l token) := by
  have passed (f : Page → Page) : FormsSound m b c ((s.modLane l fun x => x.passed token).modToken token f) :=
    (h.same (t := s.modLane l _)).modToken token f
  unfold State.trailingEdge
  dsimp only
  split
  · exact (passed _).modToken token _
  · exact passed _

theorem onEdge (h : FormsSound m b c s) (l : LaneId) : FormsSound m b c (Machine.onEdge l s).1 := by
  have noted : FormsSound m b c (s.modLane l fun x => { x with lastSensor := x.entryBlocked }) := h.same
  unfold Machine.onEdge
  dsimp only
  split
  · split
    · unfold leadingEdgeTaken
      split
      · exact noted.same
      · split
        · split
          · unfold State.unexpectedSheet
            dsimp only
            split <;> exact noted.same
          · exact noted
        · exact noted
    · unfold trailingEdgeTaken
      split
      · exact noted.trailingEdge l _
      · exact noted
  · exact h

theorem onScheduled (h : FormsSound m b c s) (l : LaneId) : FormsSound m b c (Machine.onScheduled l s).1 := by
  have gated (sel : Sheet → Bool) (g : GateProgress) : FormsSound m b c (s.setGate l sel g) := h.same
  unfold Machine.onScheduled
  dsimp only
  split
  · split
    · exact (gated _ _).gateOpen l _
    · split
      · exact (gated _ _).gateClose l _ _
      · split
        · exact h.same
        · exact h
  · exact h

theorem toJammed (h : FormsSound m b c s) (l : LaneId) (cause : JamCause) : FormsSound m b c (s.toJammed l cause) := by
  have moved : FormsSound m b c (((s.modLane l fun x => x.jammed cause).evalDrift l).modTokens Page.addLost
      (s.lane l).pathTokens) :=
    foldl (evalDrift h.same l) _ (fun _ _ k => k.modToken _ _) _
  rw [State.toJammed_eq]
  exact occur (moved.foldl _ (fun _ _ k => k.cancelImage l _) _) _ _

theorem onJam (h : FormsSound m b c s) (l : LaneId) (cause : JamCause) :
    FormsSound m b c (Machine.onJam l cause s).1 := by
  unfold Machine.onJam
  split
  · exact h.toJammed l cause
  · exact h

theorem misfeedExhausted (h : FormsSound m b c s) (l : LaneId) (i : Fin 64) :
    FormsSound m b c (Machine.misfeedExhausted l i s).1 := by
  have given : FormsSound m b c ((s.giveUpPick l i).occur Ev.feedFailure l.val) :=
    (freeEntry h.same i).occur _ _
  unfold Machine.misfeedExhausted
  dsimp only
  split_ifs
  · exact given.same
  · exact given.same
  · exact given

theorem misfeedExpiry (h : FormsSound m b c s) (l : LaneId) : FormsSound m b c (Machine.misfeedExpiry l s).1 := by
  unfold Machine.misfeedExpiry
  split
  · split_ifs
    · exact h.same
    · exact h.misfeedExhausted l _
    · exact h.misfeedExhausted l _
    · exact h
  · exact h

theorem retryEnd (h : FormsSound m b c s) (l : LaneId) : FormsSound m b c (Machine.retryEnd l s).1 := by
  unfold Machine.retryEnd
  split
  · split_ifs
    · exact h.same
    · exact (freeEntry h.same _).trayFoundEmpty l
    · exact h
  · exact h

theorem adoptEnabled (h : FormsSound m b c s) (l : LaneId) : FormsSound m b c (s.adoptEnabled l) := by
  unfold State.adoptEnabled
  split
  case h_1 | h_2 | h_3 | h_4 | h_5 | h_6 => split <;> exact h.same
  case h_7 | h_8 | h_9 => exact h

/-! ### Release and the channels -/

theorem takePage (h : FormsSound m b c s) (l : LaneId) (i : Fin 64) (p : Page) :
    FormsSound m b c (Machine.takePage l i p s).1 := by
  unfold Machine.takePage
  dsimp only
  split_ifs
  · exact occur h.same _ _
  · exact h.same
  · exact h.same

theorem admitCopies (h : FormsSound m b c s) (l : LaneId) (i : Fin 64) (token size : Nat) (cs : List ChanId) :
    FormsSound m b c (s.admitCopies l i token size cs) := by
  have copied : FormsSound m b c (cs.foldl (State.enqueue token size) s) := h.foldl _ (fun _ _ k => k.same) cs
  exact setRaw copied.same _ _ _

theorem onAttempt (h : FormsSound m b c s) (l : LaneId) (token : Nat) :
    FormsSound m b c (Machine.onAttempt l token s).1 := by
  unfold Machine.onAttempt
  split
  · exact h
  · split
    · split
      · exact h
      · split
        · exact h.admitCopies l _ _ _ _
        · unfold State.refuse
          split <;> exact h.same
    · exact h

theorem cellSent (h : FormsSound m b c s) (d : ChanId) : FormsSound m b c (Machine.cellSent d s).1 := by
  unfold Machine.cellSent
  split
  · exact h
  · have sent : FormsSound m b c (s.setChan d { s.chan d with queue := advanceQueue (s.chan d).queue }) := h.same
    dsimp only
    split
    · unfold State.copyDone
      dsimp only
      split
      · exact sent
      · split
        · exact sent.freeEntry _
        · exact sent.same
    · exact sent

/-! ### Each sub-act -/

theorem handle (task : Task) (h : FormsSound m b c s) : FormsSound m b c (Machine.handle task s).1 := by
  cases task with
  | fgc => exact h.same s.fgcPass_forms
  | holds => exact h.onHolds
  | pickTest l => exact h.onPickTest l
  | edge l => exact h.onEdge l
  | jam l cause => exact h.onJam l cause
  | scheduled l => exact h.onScheduled l
  | air l => exact h.onAir l
  | samples l => exact h.onSamples l
  | attempt l token => exact h.onAttempt l token
  | adoptLtc l => exact (h.adoptEnabled l).setRaw _ _ _
  | adoptDfm l => exact evalDrift h.same l
  | adoptFgc l =>
    change FormsSound m b c (State.fgcPass _)
    exact same h.same (State.fgcPass_forms _)
  | adoptLsq l => exact h.same
  | adoptEnd => exact h.occur Ev.tablesAdopted 0
  | speedCheck l =>
    rw [handle_speedCheck, onSpeedCheck]
    split_ifs
    · exact h.same (s.leaveRampUp_forms l)
    · exact h.toRest l
    · exact h
  | runoutTest l =>
    rw [handle_runoutTest, onRunoutTest]
    split <;> exact h.same
  | enterRunout l =>
    rw [handle_enterRunout, onEnterRunout]
    split <;> exact h.same
  | assemble token =>
    rw [handle_assemble, onAssemble]
    split
    · exact h
    · split
      · dsimp only
        split
        · exact h.same
        · exact occur h.same _ _
      · exact h
  | retire =>
    rw [handle_retire, onRetire]
    split
    · split <;> exact h.same
    · exact h
  | release l =>
    rw [handle_release, onRelease]
    split
    · split
      · exact h.takePage l _ _
      · exact h
    · exact h
    · exact h
  | adoptMoment l =>
    rw [handle_adoptMoment, onAdoptMoment]
    split <;> exact h
  | adopt l =>
    rw [handle_adopt, onAdopt]
    split
    · exact h
    · split <;> exact h.same
  | adoptAll ls =>
    rw [handle_adoptAll, onAdoptAll]
    unfold adoptNext
    split
    · exact h
    · exact h
    · exact h.same (s.takeOne_forms _ _)
  | adoptChannels old =>
    rw [handle_adoptChannels, onAdoptChannels]
    split <;> exact h
  | newBatch l token =>
    rw [handle_newBatch, onNewBatch]
    split
    · exact h
    · exact occur h.same Ev.batchNew l.val
  | lsqMarks l token action blankDrop =>
    rw [handle_lsqMarks, onLsqMarks]
    split
    · exact h
    · dsimp only
      split
      · exact freeEntry h.same _
      · exact h.same
  | lsqNumber l token =>
    rw [handle_lsqNumber, onLsqNumber]
    split
    · exact h
    · dsimp only
      split
      · exact occur h.same _ _
      · exact h.same
  | retries d =>
    rw [handle_retries, onRetries]
    unfold retryNext
    split
    · exact h
    · exact h.same (s.takeOne_forms _ _)
  | fillEval d =>
    rw [handle_fillEval, onFillEval]
    split
    · exact h
    · exact setRaw (setRaw h.same _ _ _) _ _ _
  | gapPick l =>
    rw [handle_gapPick, onGapPick]
    split <;> exact h
  | jamChecks l =>
    rw [handle_jamChecks, onJamChecks]
    split_ifs <;> exact h

/-! ### Time and resets -/

/-- A hard reset keeps the content of the pool and zeroes the tables and the counts (R191, log 11). -/
theorem hardReset (h : FormsSound m b c s) (cause : ResetCause) : FormsSound m b c (s.hardReset cause) := by
  refine ⟨h.mem, fun _ i => ?_, fun _ => (countsSound_iff _).2 ⟨fun k => ?_, fun l => ?_, fun i => ?_⟩⟩
  · have zeroed : (s.hardReset cause).banks[i] = Tables.zeroed := by simp [State.hardReset, State.reset]
    rw [zeroed]
    exact Tables.zeroed_inRange
  · cases k <;>
      simp [TrunkPort.Bounded, State.trunk, State.hardReset, State.reset, TrunkPort.reset, Link.reset]
  · simp [HeadPort.Bounded, State.head, State.hardReset, State.reset, HeadPort.reset, Link.reset]
  · have fresh : ∀ i : Fin 20, ((State.reset).event i).count ≤ 255 := by decide
    exact fresh i

/-- A line reset keeps the bounds, the tables and the content (R191). -/
theorem lineReset (h : FormsSound m b c s) : FormsSound m b c s.lineReset := by
  have cancelled := h.foldl State.cancelAtReset (fun u i k => by
    unfold State.cancelAtReset
    split
    · split
      · exact k.sendHead _ _ _
      · exact k
    · exact k) allEntries
  have cleared {u : State} (k : FormsSound m b c u) : FormsSound m b c u.clearAtReset :=
    ((k.setTrunk .a (x := u.trunkA.lineReset)).setTrunk .b (x := u.trunkB.lineReset)).same
  have adopted {u : State} (k : FormsSound m b c u) : FormsSound m b c u.adoptAtReset := by
    unfold State.adoptAtReset
    split
    · exact k
    · dsimp only
      split
      · exact k.same
      · exact (occur k.same Ev.tablesAdopted 0).same
  have rested := ((adopted (cleared cancelled)).same
    (t := { (allEntries.foldl State.cancelAtReset s).clearAtReset.adoptAtReset with
      lanes := (allEntries.foldl State.cancelAtReset s).clearAtReset.adoptAtReset.lanes.map Lane.lineReset })).foldl
    State.restAtReset (fun _ _ k => k.same) allLanes
  have lanes := rested.foldl State.laneRawsAtReset
    (fun _ _ k => (((k.setRaw _ _ _).setRaw _ _ _).setRaw _ _ _).setRaw _ _ _) allLanes
  have channels := lanes.foldl State.chanRawsAtReset (fun _ _ k => (k.setRaw _ _ _).setRaw _ _ _) allChans
  exact channels.occur _ _

theorem takeReset (h : FormsSound m b c s) (r : Option ResetKind) : FormsSound m b c (s.takeReset r) := by
  match r with
  | none => exact h
  | some .full => exact h.hardReset _
  | some .line => exact h.lineReset

end FormsSound
end Sys2Proof.Machine
end

section
/-! The forms of the data (R95, R174, R184, R192, R199, log 11): every step keeps each of the three. -/

namespace Sys2Proof.Machine

/- One proof after another: every thread of a parallel elaboration reserves memory, which the check limits. -/
set_option Elab.async false

namespace FormsSound

variable {m b c : Prop} {s t : State}

/-! ### Acts, cells and requests -/

/-- The transmit slots of an act give cells to the trunks' paths, and take report-pending (R165). -/
theorem slots (h : FormsSound m b c s) (slots : SlotsKept s t) : FormsSound m b c t := by
  obtain ⟨_, _, _, mem, _, heads⟩ := slots.paper
  refine ⟨fun hm => ?_, fun hb => ?_, fun hc => ?_⟩
  · rw [MemorySound, mem]
    exact h.mem hm
  · rw [TablesSound, slots.tables.1]
    exact h.tables hb
  · obtain ⟨trunks, bounded, events⟩ := (countsSound_iff s).1 (h.counts hc)
    refine (countsSound_iff t).2 ⟨fun k => ?_, by simpa only [State.head, heads] using bounded, fun i => ?_⟩
    · obtain ⟨_, requests, discards, _, _⟩ := slots.port k
      have link : (t.trunk k).link = (s.trunk k).link := slots.links.1 (.trunk k)
      rw [TrunkPort.Bounded, requests, discards, link]
      exact trunks k
    · obtain ⟨_, _, _, count, _, _⟩ := slots.events i
      rw [count]
      exact events i

theorem act {mv : Move} (h : FormsSound m b c mv.1) : Answers (FormsSound m b c) (Machine.act mv) := by
  rintro _ ⟨⟩
  exact settle_keeps (fun task _ k => handle task k) (fun _ _ kept k => k.slots kept) mv h

theorem validCell_errors (x : Link) : x.validCell.errors = x.errors := by
  unfold Link.validCell
  split <;> rfl

theorem deliver (h : FormsSound m b c s) (p : Port) (f : State → Move)
    (hf : ∀ {u}, FormsSound m b c u → FormsSound m b c (f u).1) :
    Answers (FormsSound m b c) (Machine.deliver p f s) := by
  have received := h.setLink p (x := (s.link p).validCell) fun e => by rwa [validCell_errors]
  unfold Machine.deliver
  split
  · exact act (hf received)
  · exact .next received

theorem serve (h : FormsSound m b c s) (want : Request → Bool) {body : List Byte → State → Answer}
    (hb : KeptByCommands.Body (FormsSound m b c) body) : Answers (FormsSound m b c) (Machine.serve want body s) := by
  unfold Machine.serve
  split
  · exact .next h
  · rename_i k r _
    split
    · have taken : FormsSound m b c (s.takeOff k) :=
        (h.setTrunk k (x := { s.trunk k with requests := (s.trunk k).requests.tail }) fun ⟨few, discards, errors⟩ =>
          ⟨(List.length_tail ▸ (Nat.sub_le _ _).trans few), discards, errors⟩).same
      exact act ((hb r.payload taken).setTrunk k)
    · exact .next h

/-! ### Head cells -/

theorem truncateData (h : FormsSound m b c s) (i : Fin 64) (l : LaneId) : FormsSound m b c (s.truncateData i l) :=
  occur h.same _ _

theorem abortImage (h : FormsSound m b c s) (i : Fin 64) (l : LaneId) : FormsSound m b c (s.abortImage i l) :=
  occur h.same _ _

theorem staleCell (h : FormsSound m b c s) (l : LaneId) : FormsSound m b c (s.staleCell l) :=
  (h.setHead l (x := { s.head l with staleCount := min 65535 ((s.head l).staleCount + 1) }) fun k =>
    ⟨Nat.min_le_left _ _, k.2⟩).occur _ _

/-- A granted cell is written in the canonical form (log 11). -/
theorem takeData (h : FormsSound m b c s) (l : LaneId) (token : Nat) (payload : List Byte) :
    FormsSound m b c (Machine.takeData l token payload s).1 := by
  unfold Machine.takeData
  split
  · exact h.staleCell l
  · split_ifs
    · exact h
    · exact h.truncateData _ l
    · split
      · exact h.truncateData _ l
      · exact (h.write _ payload).same

theorem takeClose (h : FormsSound m b c s) (l : LaneId) (token : Nat) (mark : BitVec 4) (blank : Bool)
    (ticket : Option (List Byte)) : FormsSound m b c (Machine.takeClose l token mark blank ticket s).1 := by
  unfold Machine.takeClose
  split
  · exact h.staleCell l
  · dsimp only
    split
    · exact truncateData h.same _ l
    · exact h.same

theorem takeAbort (h : FormsSound m b c s) (l : LaneId) (token : Nat) :
    FormsSound m b c (Machine.takeAbort l token s).1 := by
  unfold Machine.takeAbort
  split
  · exact h.staleCell l
  · exact h.abortImage _ l

theorem imageExpiry (h : FormsSound m b c s) (token : Nat) : FormsSound m b c (Machine.imageExpiry token s).1 := by
  unfold Machine.imageExpiry
  split
  · exact h
  · split
    · exact h.abortImage _ _
    · exact h

/-! ### Trunk cells and links -/

/-- A request joins a queue of fewer than 4, or is counted up to 255 (R184). -/
theorem takeRequest (h : FormsSound m b c s) (k : Trunk) (r : Request) :
    FormsSound m b c (Machine.takeRequest k r s).1 := by
  unfold Machine.takeRequest
  split
  · rename_i room
    have joined : FormsSound m b c (s.setTrunk k { s.trunk k with requests := (s.trunk k).requests ++ [r] }) := by
      refine h.setTrunk k fun bounded => ⟨?_, bounded.2⟩
      rw [List.length_append]
      exact room
    exact joined.same
  · exact h.setTrunk k fun bounded => ⟨bounded.1, Nat.min_le_left _ _, bounded.2.2⟩

theorem takePause (h : FormsSound m b c s) (k : Trunk) (n : Nat) (timer : Option Nat) :
    FormsSound m b c (Machine.takePause k n timer s).1 := by
  unfold Machine.takePause
  split <;> exact h.same

theorem portUp (h : FormsSound m b c s) (p : Port) : FormsSound m b c (s.portUp p) := by
  cases p with
  | head l => exact h.setRaw _ _ _
  | trunk k =>
    have up := h.setTrunk k (x := { s.trunk k with hasBeenUp := true })
    refine setRaw ?_ _ _ _
    dsimp only
    split
    · exact up
    · exact up.same

/-- The loss of a trunk empties its queue (R188). -/
theorem trunkLoss (h : FormsSound m b c s) (k : Trunk) : FormsSound m b c (s.trunkLoss k) := by
  have restored (tx : Option TxCell) :
      FormsSound m b c (s.restoreReport tx) ∧ (s.restoreReport tx).trunk k = s.trunk k := by
    unfold State.restoreReport
    split
    · split
      · exact ⟨h.setEvent _, by simp⟩
      · exact ⟨h, rfl⟩
    · exact ⟨h, rfl⟩
  obtain ⟨sound, trunk⟩ := restored (s.trunk k).tx
  have lost := sound.setTrunk k (x := { s.trunk k with tx := none, reply := none, requests := [] }) fun bounded =>
    ⟨Nat.zero_le _, (trunk ▸ bounded).2⟩
  refine setRaw ?_ _ _ _
  dsimp only
  split
  · exact lost.same
  · exact lost

theorem headLeavesUp (h : FormsSound m b c s) (l : LaneId) : FormsSound m b c (Machine.headLeavesUp l s).1 :=
  (h.foldl (fun u i => u.modPage i Page.closeTruncated) (fun _ _ k => k.same) _).setRaw _ _ _

theorem goDown (h : FormsSound m b c s) (p : Port) {x : Link} (hx : (s.link p).errors ≤ 65535 → x.errors ≤ 65535) :
    FormsSound m b c (Machine.goDown p x s).1 := by
  have down := h.setLink p (x := x.toDown) hx
  unfold Machine.goDown
  dsimp only
  split
  · cases p with
    | head l => exact (down.setHead l).headLeavesUp l
    | trunk k => exact (down.trunkLoss k).takeReset _
  · exact down

/-! ### The effects on a lane, and the bank copy -/

theorem forwardStep (h : FormsSound m b c s) (l : LaneId) (a : BitVec 10) :
    FormsSound m b c (Machine.forwardStep l a s).1 := by
  by_cases rest : (s.lane l).state.resting = true
  · rw [forwardStep_of_resting a rest]
    exact h.same
  · by_cases new : ((s.lane l).high : Int) < (s.lane l).nextCounter
    · rw [forwardStep_of_new a (by simpa using rest) new]
      exact h.same
    · rw [forwardStep_of_not_new a (by simpa using rest) new]
      exact h.same

theorem reverseStep (h : FormsSound m b c s) (l : LaneId) : FormsSound m b c (Machine.reverseStep l s).1 := by
  unfold Machine.reverseStep
  split
  · exact h
  · exact h.same

theorem trayChange (h : FormsSound m b c s) (l : LaneId) (paper : Bool) :
    FormsSound m b c (Machine.trayChange l paper s).1 := by
  unfold Machine.trayChange
  dsimp only
  split <;> exact h.same

theorem runoutExpiry (h : FormsSound m b c s) (l : LaneId) : FormsSound m b c (Machine.runoutExpiry l s).1 := by
  unfold Machine.runoutExpiry
  split
  · exact h.onJam l _
  · exact h

theorem waitExpiry (h : FormsSound m b c s) (l : LaneId) : FormsSound m b c (Machine.waitExpiry l s).1 := by
  unfold Machine.waitExpiry
  split
  · split
    · exact h
    · exact setRaw h.same _ _ _
  · exact h

theorem pauseExpiry (h : FormsSound m b c s) (d : ChanId) : FormsSound m b c (Machine.pauseExpiry d s).1 := by
  unfold Machine.pauseExpiry
  split
  · exact occur h.same _ _
  · exact h

/-- The bank copied is in range (R181). -/
theorem copyComplete (h : FormsSound m b c s) : FormsSound m b c (Machine.copyComplete s).1 := by
  have copied : FormsSound m b c
      { s with banks := s.banks.set s.otherBank s.banks[s.activeBank], otherRole := .shadow } :=
    (h.setBank s.otherBank fun sound => sound s.activeBank).same
  unfold Machine.copyComplete
  split
  · exact copied.occur Ev.tablesReady 0
  · exact h

/-! ### The requests -/

theorem startLane (h : FormsSound m b c s) (l : LaneId) : FormsSound m b c (Machine.startLane l s).1.1 := by
  have rampUp {u : State} (k : FormsSound m b c u) : FormsSound m b c (u.toRampUp l) := evalDrift k.same l
  unfold Machine.startLane
  split
  · exact h
  · split
    case h_1 => exact rampUp h.same
    case h_2 => exact h.same
    case h_3 => exact rampUp h
    all_goals exact h

theorem clearLane (h : FormsSound m b c s) (l : LaneId) : FormsSound m b c (Machine.clearLane l s).1.1 := by
  unfold Machine.clearLane
  split
  · exact (h.toRest l).same
  · exact h

theorem acceptPage (h : FormsSound m b c s) (token : Nat) : FormsSound m b c (Machine.acceptPage token s).1.1 := by
  unfold Machine.acceptPage
  split
  · exact h
  · exact h.same

theorem dropPage (h : FormsSound m b c s) (token : Nat) : FormsSound m b c (Machine.dropPage token s).1.1 := by
  unfold Machine.dropPage
  split
  · exact h
  · exact h.freeEntry _

theorem rescanPage (h : FormsSound m b c s) (token n : Nat) :
    FormsSound m b c (Machine.rescanPage token n s).1.1 := by
  unfold Machine.rescanPage
  split
  · exact h
  · split
    · exact h
    · split
      · exact h
      · exact (h.freeEntry _).same

theorem cancelSlot (h : FormsSound m b c s) (l : LaneId) (pos : SeqPos) :
    FormsSound m b c (Machine.cancelSlot l pos s).1.1 := by
  unfold Machine.cancelSlot
  split
  · exact h.same
  · exact h

/-- A record is loaded in range (R174). -/
theorem loadTable (h : FormsSound m b c s) (table index : Nat) (record : List Byte) :
    FormsSound m b c (Machine.loadTable table index record s).1.1 := by
  unfold Machine.loadTable
  split
  · exact h
  · split
    · exact h
    · split
      · exact h
      · rename_i loaded
        split
        · exact h
        · exact h
        · exact h.setBank _ fun sound => Tables.load_inRange (sound _) loaded

theorem commitTables (h : FormsSound m b c s) (mode : Nat) : FormsSound m b c (Machine.commitTables mode s).1.1 := by
  unfold Machine.commitTables
  split
  · exact h
  · split
    · exact h
    · exact h
    · split <;> exact h.same

theorem cleared_count (e : EventState) (named : BitVec 16) (h : e.count ≤ 255) : (e.cleared named).count ≤ 255 := by
  unfold EventState.cleared
  split
  · exact Nat.zero_le _
  · exact h

open KeptByCommands (Body)

theorem tableLoad : Body (FormsSound m b c) bodyTableLoad := by
  intro bs s h
  unfold bodyTableLoad
  split
  · exact h
  · exact h.loadTable _ _ _

theorem slotCancel : Body (FormsSound m b c) bodySlotCancel := by
  refine .sized 6 fun bs s h => ?_
  split
  · split
    · exact h
    · exact h.cancelSlot _ _
  · exact h

theorem partReset (k : Nat) (reset : ResetKind) : Body (FormsSound m b c) (bodyPartReset k reset) := by
  refine .sized 1 fun bs s h => ?_
  split <;> exact h

theorem eventSet : Body (FormsSound m b c) bodyEventSet := by
  refine .sized 3 fun bs s h => ?_
  split
  · split
    · exact h.setEvent _
    · exact h
  · exact h

theorem eventClear : Body (FormsSound m b c) bodyEventClear := by
  refine .sized 3 fun bs s h => ?_
  split
  · split
    · exact h
    · exact h.setEvent _ (cleared_count _ _)
  · exact h

/-! ### Each command -/

theorem exec (h : FormsSound m b c s) (i : Instr) : Answers (FormsSound m b c) (Machine.exec i s) := by
  have bad (p : Port) (_ : (s.link p).errors ≤ 65535) : (s.link p).bad.errors ≤ 65535 := Nat.min_le_left _ _
  cases i with
  | powerOn => exact .next (h.hardReset _)
  | resetPin => exact .next (h.hardReset _)
  | signalDetected p =>
    change Answers (FormsSound m b c) (execSignalDetected p s)
    unfold execSignalDetected
    split
    · exact .next (h.setLink p)
    · exact .next h
  | lossOfSignal p => exact act (h.goDown p id)
  | idleCellReceived p =>
    change Answers (FormsSound m b c) (execIdleCellReceived p s)
    unfold execIdleCellReceived
    split
    · exact .next h
    · split
      · exact .next (h.setLink p)
      · exact act ((h.setLink p).portUp p)
    · exact .next (h.setLink p)
  | badCellReceived p =>
    change Answers (FormsSound m b c) (execBadCellReceived p s)
    unfold execBadCellReceived
    split
    · exact .next h
    all_goals
      split
      · exact .next (h.setLink p (bad p))
      · exact act (h.goDown p (bad p))
  | cellDiscarded p => exact .next (h.setLink p fun e => by rwa [validCell_errors])
  | data l token payload => exact h.deliver _ _ fun k => k.takeData l _ payload
  | close l token mark blank ticket => exact h.deliver _ _ fun k => k.takeClose l _ mark blank ticket
  | abort l token => exact h.deliver _ _ fun k => k.takeAbort l _
  | request k kind tag payload => exact h.deliver _ _ fun k => k.takeRequest _ _
  | pauseOn k channel => exact h.deliver _ _ fun k => k.takePause _ _ _
  | pauseOff k channel => exact h.deliver _ _ fun k => k.takePause _ _ _
  | tableLoad => exact h.serve _ tableLoad
  | tableCommit => exact h.serve _ (.sized 1 fun _ _ k => k.commitTables _)
  | tableRead => exact h.serve _ (.sized 3 fun _ _ k => k)
  | laneStart => exact h.serve _ (.lane fun l _ k => k.startLane l)
  | laneStop => exact h.serve _ (.lane fun l _ k => handle (.enterRunout l) k)
  | laneHalt => exact h.serve _ (.lane fun l _ k => k.onJam l _)
  | laneClear => exact h.serve _ (.lane fun l _ k => k.clearLane l)
  | pageResolveAccept => exact h.serve _ (.resolve 0 fun token _ _ k => k.acceptPage token)
  | pageResolveDrop => exact h.serve _ (.resolve 1 fun token _ _ k => k.dropPage token)
  | pageResolveRescan => exact h.serve _ (.resolve 2 fun token n _ k => k.rescanPage token n)
  | slotCancel => exact h.serve _ slotCancel
  | statusRead => exact h.serve _ (.sized 2 fun _ _ k => k)
  | partResetFull => exact h.serve _ (partReset 0 .full)
  | partResetLine => exact h.serve _ (partReset 1 .line)
  | eventSet => exact h.serve _ eventSet
  | eventClear => exact h.serve _ eventClear
  | unknownRequest =>
    change Answers (FormsSound m b c) (execUnknownRequest s)
    exact h.serve _ fun _ _ k => k
  | encoderForwardStep l a => exact act (h.forwardStep l a)
  | encoderReverseStep l => exact act (h.reverseStep l)
  | entrySensorChange l blocked => exact .next h.same
  | traySensorChange l paper => exact act (h.trayChange l paper)
  | speedControlPeriod l =>
    change Answers (FormsSound m b c) (execSpeedControlPeriod l s)
    unfold execSpeedControlPeriod
    split
    · exact act h.same
    · exact .next h
  | misfeedTimerExpiry l => exact act (h.misfeedExpiry l)
  | retryWaitEnd l => exact act (h.retryEnd l)
  | runoutTimerExpiry l => exact act (h.runoutExpiry l)
  | imageTimerExpiry token => exact act (h.imageExpiry _)
  | pauseTimerExpiry d => exact act (h.pauseExpiry d)
  | waitTimerExpiry l => exact act (h.waitExpiry l)
  | bankCopyComplete => exact act h.copyComplete
  | channelCellSent k =>
    have free : FormsSound m b c (s.freePath k) := h.setTrunk k
    change Answers (FormsSound m b c) (execChannelCellSent k s)
    unfold execChannelCellSent
    split
    · exact act (free.cellSent _)
    · exact act free
    all_goals exact .next h
  | replySent k =>
    have free : FormsSound m b c (s.freePath k) := h.setTrunk k
    have gone : FormsSound m b c ((s.freePath k).setTrunk k { (s.freePath k).trunk k with reply := none }) :=
      free.setTrunk k
    change Answers (FormsSound m b c) (execReplySent k s)
    unfold execReplySent
    split
    · exact act (gone.takeReset _)
    all_goals exact .next h
  | reportSent k =>
    have free : FormsSound m b c (s.freePath k) := h.setTrunk k
    change Answers (FormsSound m b c) (execReportSent k s)
    unfold execReportSent
    split
    · exact act free
    all_goals exact .next h
  | headCellSent l => exact .next (h.setHead l)

/-- Time and every command keep the forms of the data. -/
theorem step (h : FormsSound m b c s) (ran : Machine.step s = .next t) : FormsSound m b c t := by
  unfold Machine.step at ran
  split at ran
  · cases ran
    exact h.same
  · rename_i i rest _
    exact exec (s := { s with pending := rest }) h.same i t ran

end FormsSound

/-- Settles O9: a step keeps those of the three that hold before it. Cells are written in the canonical form, records
are loaded in range, and the queues and the counts that stop are the bounded ones. -/
theorem stepKeepsDataForms : Obligations.StepKeepsDataForms := fun s t ran => by
  have before : FormsSound (MemorySound s) (TablesSound s) (CountsSound s) s := ⟨id, id, id⟩
  obtain ⟨mem, tables, counts⟩ := before.step ran
  exact ⟨mem, tables, counts⟩

end Sys2Proof.Machine
end

section
/-! TABLE_LOAD (R173, R174, R186): what the act of a table request leaves, when a load is refused, what it writes. -/

namespace Sys2Proof.Machine

/- One proof after another: every thread of a parallel elaboration reserves memory, which the check limits. -/
set_option Elab.async false

/-! ### Acts of requests that leave the trunks to their reply -/

theorem SameEvents.trans {s t u : State} (h : SameEvents s t) (k : SameEvents t u) : SameEvents s u := fun c => by
  obtain ⟨raw, latch, sources, count, enabled, priority⟩ := h c
  obtain ⟨raw', latch', sources', count', enabled', priority'⟩ := k c
  exact ⟨raw'.trans raw, latch'.trans latch, sources'.trans sources, count'.trans count, enabled'.trans enabled,
    priority'.trans priority⟩

theorem SamePaper.trans {s t u : State} (h : SamePaper s t) (k : SamePaper t u) : SamePaper s u := by
  obtain ⟨lanes, entries, pool, mem, channels, heads⟩ := h
  obtain ⟨lanes', entries', pool', mem', channels', heads'⟩ := k
  exact ⟨lanes'.trans lanes, entries'.trans entries, pool'.trans pool, mem'.trans mem, channels'.trans channels,
    heads'.trans heads⟩

theorem SameLinks.trans {s t u : State} (h : SameLinks s t) (k : SameLinks t u) : SameLinks s u := by
  obtain ⟨link, mgmt, cause, pending⟩ := h
  obtain ⟨link', mgmt', cause', pending'⟩ := k
  exact ⟨fun p => (link' p).trans (link p), mgmt'.trans mgmt, cause'.trans cause, pending'.trans pending⟩

theorem SameTables.trans {s t u : State} (h : SameTables s t) (k : SameTables t u) : SameTables s u := by
  obtain ⟨banks, bank, gen, role, counter, channel⟩ := h
  obtain ⟨banks', bank', gen', role', counter', channel'⟩ := k
  exact ⟨banks'.trans banks, bank'.trans bank, gen'.trans gen, role'.trans role, counter'.trans counter,
    channel'.trans channel⟩

theorem Untouched.trans {s t u : State} (h : Untouched s t) (k : Untouched t u) : Untouched s u := by
  obtain ⟨paper, tables, events, links⟩ := h
  obtain ⟨paper', tables', events', links'⟩ := k
  exact ⟨paper.trans paper', tables.trans tables', events.trans events', links.trans links'⟩

/-- Taking a request off its queue leaves all but the trunk. -/
theorem State.takeOff_untouched (s : State) (k : Trunk) : Untouched s (s.takeOff k) := by
  refine ⟨?_, ?_, fun c => ?_, fun p => ?_, ?_⟩
  · cases k <;> exact ⟨rfl, rfl, rfl, rfl, rfl, rfl⟩
  · cases k <;> exact ⟨rfl, rfl, rfl, rfl, rfl, rfl⟩
  · rw [State.takeOff_event]
    exact SlotsKept.sameEvent _
  · cases p with
    | head l => cases k <;> rfl
    | trunk j => cases k <;> cases j <;> rfl
  · cases k <;> exact ⟨rfl, rfl, rfl⟩

/-- A reply and the transmit slots after it leave all but the trunks and report-pending. -/
theorem settle_giveReply_untouched (u : State) (k : Trunk) (reply : Reply) :
    Untouched u (settle (u.giveReply k reply, [])) := by
  rw [settle_nil]
  have kept := SlotsKept.slots (u.giveReply k reply)
  obtain ⟨link, mgmt, cause, pending⟩ := kept.links
  refine ⟨?_, ?_, fun c => ?_, fun p => (link p).trans ?_, mgmt.trans ?_, cause.trans ?_, pending.trans ?_⟩
  · cases k <;> exact kept.paper
  · cases k <;> exact kept.tables
  · cases k <;> exact kept.events c
  · cases p with
    | head l => cases k <;> rfl
    | trunk j => cases k <;> cases j <;> rfl
  all_goals cases k <;> rfl

theorem State.giveReply_lastServed (s : State) (k : Trunk) (reply : Reply) :
    (s.giveReply k reply).lastServed = s.lastServed := by
  cases k <;> rfl

/-- An act that leaves the trunks and the trunk served last answers the request with its status and record (R186). -/
theorem settle_giveReply_replied {s u : State} {k : Trunk} {r : Request} {st : Status} {record : List Byte}
    {ts : List Task} (trunks : ∀ j, u.trunk j = (s.takeOff k).trunk j) (last : u.lastServed = k) :
    Replied s (settle (u.giveReply k ⟨r.kind, r.tag, st, record, none⟩, ts)) k r st record := by
  have port := (settle_settled (u.giveReply k ⟨r.kind, r.tag, st, record, none⟩, ts)).port
  have served := (settle_settled (u.giveReply k ⟨r.kind, r.tag, st, record, none⟩, ts)).lastServed
  have other : k ≠ otherTrunk k := by cases k <;> decide
  have same : (u.giveReply k ⟨r.kind, r.tag, st, record, none⟩).trunk (otherTrunk k) = s.trunk (otherTrunk k) := by
    rw [State.giveReply, State.setTrunk_trunk_ne _ _ _ _ other, trunks, State.takeOff_trunk_ne _ _ _ other]
  obtain ⟨_, requests, _, reply, _⟩ := port k
  obtain ⟨_, requests', _, reply', _⟩ := port (otherTrunk k)
  refine ⟨reply.trans ?_, requests.trans ?_, served.trans ?_, requests'.trans (by rw [same]),
    reply'.trans (by rw [same])⟩
  · rw [State.giveReply_trunk]
  · rw [State.giveReply_trunk, trunks, State.takeOff_trunk]
  · exact (State.giveReply_lastServed u k _).trans last

/-- A read: the record goes out with the reply, and the rest is left alone. -/
theorem completes_read {i : Instr} {s : State} {k : Trunk} {r : Request} {st : Status} {record : List Byte}
    (ran : exec i s = act ((s.takeOff k).giveReply k ⟨r.kind, r.tag, st, record, none⟩, [])) :
    Completes i s fun t => Replied s t k r st record ∧ Untouched s t :=
  ⟨_, ran, settle_giveReply_replied (fun _ => rfl) (State.takeOff_lastServed s k),
    (s.takeOff_untouched k).trans (settle_giveReply_untouched _ k _)⟩

/-! ### The tables by their codes (section 11.5) -/

theorem tableOfCode_eq_some (n : Nat) (id : TableId) : tableOfCode n = some id ↔ n = id.code := by
  match n with
  | 0 | 1 | 2 | 3 | 4 | 5 => cases id <;> decide
  | n + 6 => cases id <;> simp [tableOfCode, TableId.code]

theorem tableOfCode_eq_none (n : Nat) : tableOfCode n = none ↔ 5 < n := by
  match n with
  | 0 | 1 | 2 | 3 | 4 | 5 => decide
  | n + 6 => simp [tableOfCode]

/-! ### A load and its refusals (R173, R174) -/

section
variable {s : State} {table index : Nat} {record : List Byte} {id : TableId} {tables : Tables} {clamped : Bool}

theorem loadTable_unknown (unknown : 5 < table) : loadTable table index record s = ((s, []), .range) := by
  rw [loadTable, (tableOfCode_eq_none table).2 unknown]

theorem loadTable_length (code : table = id.code) (length : record.length ≠ id.recordLength) :
    loadTable table index record s = ((s, []), .range) := by
  simp [loadTable, (tableOfCode_eq_some table id).2 code, length]

theorem loadTable_refused (code : table = id.code) (refused : (s.banks[s.otherBank]).load id index record = none) :
    loadTable table index record s = ((s, []), .range) := by
  simp only [loadTable, (tableOfCode_eq_some table id).2 code, refused, ite_self]

variable (code : table = id.code) (length : record.length = id.recordLength)
  (loaded : (s.banks[s.otherBank]).load id index record = some (tables, clamped))
include code length loaded

theorem loadTable_busy {n : Nat} (role : s.otherRole = .retired n) :
    loadTable table index record s = ((s, []), .busy) := by
  simp only [loadTable, (tableOfCode_eq_some table id).2 code, length, loaded, role, ne_eq, not_true, if_false]

theorem loadTable_pending {g : Gen} (role : s.otherRole = .pending g) :
    loadTable table index record s = ((s, []), .pending) := by
  simp only [loadTable, (tableOfCode_eq_some table id).2 code, length, loaded, role, ne_eq, not_true, if_false]

theorem loadTable_written (role : s.otherRole = .shadow) : loadTable table index record s
    = (({ s with banks := s.banks.set s.otherBank tables }, []), if clamped then .clamped else .ok) := by
  simp only [loadTable, (tableOfCode_eq_some table id).2 code, length, loaded, role, ne_eq, not_true, if_false]

end

/-- A load is refused for an entry outside the table and for a coded field that names no code (R174). -/
theorem Tables.load_eq_none (t : Tables) (id : TableId) (i : Nat) (bs : List Byte) : t.load id i bs = none
    ↔ id.entries ≤ i ∨ (id = .profile ∧ badProfileCodes bs) ∨ (id = .markmap ∧ badMarkCodes bs) := by
  cases id with
  | profile =>
    by_cases inside : i < 16
    · simp [Tables.load, TableId.entries, inside, ProfileRec.load_eq_none]
    · simp [Tables.load, TableId.entries, inside, Nat.le_of_not_lt inside]
  | markmap =>
    by_cases inside : i < 4
    · simp [Tables.load, TableId.entries, inside, loadMarkMap_eq_none]
    · simp [Tables.load, TableId.entries, inside, Nat.le_of_not_lt inside]
  | lane => simp [Tables.load, TableId.entries]
  | group => simp [Tables.load, TableId.entries]
  | cls => simp [Tables.load, TableId.entries]
  | channel => simp [Tables.load, TableId.entries]

/-! ### Carrying out TABLE_LOAD -/

section
variable {s u : State} {k : Trunk} {r : Request} {st : Status}

/-- TABLE_LOAD takes the table, the index and the record from its payload. -/
theorem exec_tableLoad (h : s.nextRequest = some (k, r)) (kind : r.kind = 0) (room : 2 ≤ r.payload.length)
    (hf : loadTable (field r.payload 0 1) (field r.payload 1 1) (r.payload.drop 2) (s.takeOff k) = ((u, []), st)) :
    exec .tableLoad s = act (u.answered k r st, []) := by
  refine serve_answered (body := bodyTableLoad) h (isKind_of_eq kind) ?_
  rw [bodyTableLoad, if_neg (by omega), hf]

/-- A payload without a table and an index is refused (R201). -/
theorem exec_tableLoad_short (h : s.nextRequest = some (k, r)) (kind : r.kind = 0) (short : r.payload.length < 2) :
    exec .tableLoad s = act ((s.takeOff k).answered k r .range, []) := by
  refine serve_answered (body := bodyTableLoad) h (isKind_of_eq kind) ?_
  rw [bodyTableLoad, if_pos short]
  rfl

theorem State.takeOff_otherRole (s : State) (k : Trunk) : (s.takeOff k).otherRole = s.otherRole := by cases k <;> rfl

theorem State.takeOff_load (s : State) (k : Trunk) (id : TableId) (i : Nat) (bs : List Byte) :
    ((s.takeOff k).banks[(s.takeOff k).otherBank]).load id i bs = (s.banks[s.otherBank]).load id i bs := by
  cases k <;> rfl

theorem State.otherBank_ne_activeBank (s : State) : s.otherBank ≠ s.activeBank := by
  unfold State.otherBank
  split <;> omega

/-- A record written into the other bank, with its reply. -/
theorem completes_written {i : Instr} {tables : Tables}
    (ran : exec i s = act (State.answered { s.takeOff k with banks := s.banks.set s.otherBank tables } k r st, [])) :
    Completes i s fun t => Replied s t k r st [] ∧ t.banks[s.otherBank] = tables
      ∧ t.banks[s.activeBank] = s.banks[s.activeBank] ∧ t.otherRole = s.otherRole ∧ t.activeBank = s.activeBank
      ∧ t.activeGen = s.activeGen ∧ t.genCounter = s.genCounter ∧ t.channelGen = s.channelGen
      ∧ SamePaper s t ∧ SameEvents s t ∧ SameLinks s t := by
  obtain ⟨paper, ⟨_, bank, gen, role, counter, channel⟩, events, links⟩ := s.takeOff_untouched k
  obtain ⟨paper', ⟨banks', bank', gen', role', counter', channel'⟩, events', links'⟩ :=
    settle_giveReply_untouched { s.takeOff k with banks := s.banks.set s.otherBank tables } k
      ⟨r.kind, r.tag, st, [], none⟩
  have kept : SameLinks (s.takeOff k) { s.takeOff k with banks := s.banks.set s.otherBank tables } :=
    ⟨fun p => by cases p <;> rfl, rfl, rfl, rfl⟩
  refine ⟨_, ran, settle_giveReply_replied (fun j => by cases j <;> rfl) (State.takeOff_lastServed s k), ?_, ?_,
    role'.trans role, bank'.trans bank, gen'.trans gen, counter'.trans counter, channel'.trans channel,
    paper.trans paper', events.trans events', (links.trans kept).trans links'⟩
  · exact (congrArg (·[s.otherBank]) banks').trans (by simp)
  · refine (congrArg (·[s.activeBank]) banks').trans ?_
    have apart : s.otherBank.val ≠ s.activeBank.val := fun e => s.otherBank_ne_activeBank (Fin.ext e)
    simp [apart]

end

/-! ### The entries a load writes -/

/-- Settles O47: of the tests in their order the first that applies refuses the load, and of a record that passes all,
each field is the one its bytes give. -/
theorem tableLoadWritesShadow : Obligations.TableLoadWritesShadow := by
  refine ⟨fun s k r id next kind code size => ?accepted, fun s k r next kind malformed => ?malformed,
    Tables.load_eq_none, fun t u i bs clamped => ⟨?lane, ?group, ?profile, ?markmap, ?cls, ?channel⟩⟩
  case accepted =>
    have length : (r.payload.drop 2).length = id.recordLength := by simp [size]
    have room : 2 ≤ r.payload.length := by omega
    refine ⟨fun tables clamped loaded => ⟨fun shadow => ?_, fun n retired => ?_, fun g pending => ?_⟩,
      fun refused => ?_⟩
    · rw [← s.takeOff_load k] at loaded
      rw [← shadow]
      refine completes_written (exec_tableLoad next kind room ?_)
      rw [loadTable_written code length loaded ((s.takeOff_otherRole k).trans shadow)]
      cases k <;> rfl
    · rw [← s.takeOff_load k] at loaded
      exact completes_untouched (exec_tableLoad next kind room
        (loadTable_busy code length loaded ((s.takeOff_otherRole k).trans retired)))
    · rw [← s.takeOff_load k] at loaded
      exact completes_untouched (exec_tableLoad next kind room
        (loadTable_pending code length loaded ((s.takeOff_otherRole k).trans pending)))
    · rw [← s.takeOff_load k] at refused
      exact completes_untouched (exec_tableLoad next kind room (loadTable_refused code refused))
  case malformed =>
    refine completes_untouched ?_
    by_cases short : r.payload.length < 2
    · exact exec_tableLoad_short next kind short
    · refine exec_tableLoad next kind (by omega) ?_
      rcases malformed with unknown | ⟨id, code, size⟩
      · exact loadTable_unknown unknown
      · exact loadTable_length code (by rw [List.length_drop]; omega)
  case lane =>
    intro loaded
    obtain ⟨inside, rfl, rfl⟩ := Tables.load_lane loaded
    exact ⟨_, Vector.toList_set inside, rfl, LaneRec.load_clamps bs, LaneRec.load_clamped bs, rfl, rfl, rfl⟩
  case group =>
    intro loaded
    obtain ⟨inside, rfl, rfl⟩ := Tables.load_group loaded
    obtain ⟨step, below, greatest⟩ := clampSlope_greatest (field bs 4 2)
    exact ⟨_, Vector.toList_set inside, rfl, GroupRec.load_clamps bs, step, below, greatest, GroupRec.load_clamped bs⟩
  case profile =>
    intro loaded
    obtain ⟨inside, r, accepted, rfl⟩ := Tables.load_profile loaded
    obtain ⟨written, clamps⟩ := ProfileRec.load_clamps accepted
    obtain ⟨zones, counted, read, kept, ⟨ha, hb, hc, hd, he⟩, split, blank, _, _⟩ := ProfileRec.load_spec accepted
    obtain ⟨⟨mark, count, ticket⟩, _⟩ := loadSplit_spec split
    simp only [actionOfCode_eq_some] at ha hb hc hd he
    refine ⟨r, Vector.toList_set inside, rfl, written, clamps, (ProfileRec.load_zones read kept).1, ?_, mark, count,
      ticket, loadBlank_eq_some blank⟩
    simp [ha, hb, hc, hd, he]
  case markmap =>
    intro loaded
    obtain ⟨inside, m, accepted, rfl⟩ := Tables.load_markmap loaded
    obtain ⟨changed, entries, clamps⟩ := loadMarkMap_spec accepted
    refine ⟨m, Vector.toList_set inside, rfl, fun k => (loadMark_spec (entries k)).2.1, clamps.trans ?_,
      fun k => (loadMark_spec (entries k)).1⟩
    exact exists_congr fun k => (loadMark_spec (entries k)).2.2
  case cls =>
    intro loaded
    obtain ⟨inside, rfl, rfl⟩ := Tables.load_cls loaded
    refine ⟨_, Vector.toList_set inside, rfl, ClassRec.load_clamps bs, ClassRec.load_clamped bs, rfl, ?_⟩
    cases mirrored : flagAt bs 0 1 <;> simp [ClassRec.load, mirrored]
  case channel =>
    intro loaded
    obtain ⟨inside, rfl, rfl⟩ := Tables.load_channel loaded
    exact ⟨_, Vector.toList_set inside, rfl, ChannelRec.load_clamps bs, ChannelRec.load_clamped bs, rfl⟩

end Sys2Proof.Machine
end

section
/-! TABLE_READ (R182): what a read answers from each bank in each role of the other bank. -/

namespace Sys2Proof.Machine

/- One proof after another: every thread of a parallel elaboration reserves memory, which the check limits. -/
set_option Elab.async false

theorem State.pendingGen_eq_some (s : State) (g : Gen) : s.pendingGen = some g ↔ s.otherRole = .pending g := by
  unfold State.pendingGen
  cases s.otherRole <;> simp

theorem State.pendingGen_eq_none (s : State) : s.pendingGen = none ↔ ∀ g, s.otherRole ≠ .pending g := by
  unfold State.pendingGen
  cases s.otherRole <;> simp

/-! ### What a read answers -/

section
variable {s : State} {bank table index : Nat}

theorem readTable_range
    (range : 2 < bank ∨ 5 < table ∨ ∃ id : TableId, table = id.code ∧ id.entries ≤ index) :
    readTable bank table index s = (.range, []) := by
  unfold readTable
  split
  · rfl
  · rename_i id named
    have code := (tableOfCode_eq_some table id).1 named
    refine if_pos (range.imp_right fun outside => ?_)
    rcases outside with above | ⟨other, code', outside⟩
    · rw [(tableOfCode_eq_none table).2 above] at named
      cases named
    · rw [(tableOfCode_eq_some table other).2 code'] at named
      cases named
      exact outside

variable {id : TableId} (code : table = id.code) (inside : index < id.entries)
include code inside

/-- A read of a bank that has the role it names gives its generation and its record. -/
theorem readTable_active : readTable 0 table index s =
    (.ok, tableReply (some s.activeGen) (((s.banks[s.activeBank]).recordBytes id index).getD [])) := by
  rw [readTable, (tableOfCode_eq_some table id).2 code]
  exact if_neg (by omega)

theorem readTable_pending {g : Gen} (role : s.otherRole = .pending g) : readTable 1 table index s =
    (.ok, tableReply (some g) (((s.banks[s.otherBank]).recordBytes id index).getD [])) := by
  rw [readTable, (tableOfCode_eq_some table id).2 code, role]
  exact if_neg (by omega)

theorem readTable_shadow (role : s.otherRole = .shadow) : readTable 2 table index s =
    (.ok, tableReply none (((s.banks[s.otherBank]).recordBytes id index).getD [])) := by
  rw [readTable, (tableOfCode_eq_some table id).2 code, role]
  exact if_neg (by omega)

/-- A read of PENDING, or of SHADOW, while there is none. -/
theorem readTable_notPending (role : s.pendingGen = none) : readTable 1 table index s = (.state, []) := by
  have outside : ¬(2 < 1 ∨ id.entries ≤ index) := by omega
  rw [readTable, (tableOfCode_eq_some table id).2 code]
  dsimp only
  rw [if_neg outside]
  cases other : s.otherRole with
  | pending g => exact absurd other ((s.pendingGen_eq_none.1 role) g)
  | shadow => rfl
  | retired n => rfl

theorem readTable_copying {n : Nat} (role : s.otherRole = .retired n) : readTable 2 table index s = (.busy, []) := by
  rw [readTable, (tableOfCode_eq_some table id).2 code, role]
  exact if_neg (by omega)

theorem readTable_committed {g : Gen} (role : s.otherRole = .pending g) :
    readTable 2 table index s = (.state, []) := by
  rw [readTable, (tableOfCode_eq_some table id).2 code, role]
  exact if_neg (by omega)

end

/-! ### Carrying out TABLE_READ -/

/-- A TABLE_READ as it stands in a request queue. -/
def readRequest (tag bank table index : Byte) : Request := ⟨2, tag, [bank, table, index]⟩

/-- What is read before a request is taken off its queue is read after as well. -/
theorem readTable_takeOff (bank table index : Nat) (s : State) (k : Trunk) :
    readTable bank table index (s.takeOff k) = readTable bank table index s := by
  cases k <;> rfl

/-- A read answers what stands in the banks, and changes no state (R182, R186). -/
theorem completes_tableRead {s : State} {k : Trunk} {tag bank table index : Byte}
    (next : s.nextRequest = some (k, readRequest tag bank table index)) :
    Completes .tableRead s fun t => Replied s t k (readRequest tag bank table index)
        (readTable bank.toNat table.toNat index.toNat s).1 (readTable bank.toNat table.toNat index.toNat s).2
      ∧ Untouched s t := by
  refine completes_read ((serve_act (want := Request.isKind 2) (body := bodyTableRead) next rfl).trans ?_)
  have operands : bodyTableRead (readRequest tag bank table index).payload (s.takeOff k)
      = .read (s.takeOff k) (readTable bank.toNat table.toNat index.toNat s) := by
    rw [bodyTableRead, sized, if_pos (by rfl), ← readTable_takeOff _ _ _ s k]
    simp [readRequest, field, ofLe]
  rw [operands]
  rfl

/-- Settles O50: the reply carries what the tables of the named bank give, with that bank's generation, or a refusal. -/
theorem tableReadAnswersRecord : Obligations.TableReadAnswersRecord := by
  refine ⟨fun s k tag bank table index next range => ?_, fun s k tag bank table index id next code inside rec0 rec1
    active other => ?_⟩
  · have read := completes_tableRead next
    rw [readTable_range range] at read
    exact read
  · obtain ⟨t, ran, replied, paper, tables, events, links⟩ := completes_tableRead next
    refine ⟨t, ran, paper, tables, events, links, ?active, ?pending, ?notPending, ?shadow, ?copying, ?committed, ?range⟩
    case active =>
      rintro rfl
      rwa [show (0 : Byte).toNat = 0 from rfl, readTable_active code inside, active] at replied
    case pending =>
      rintro g rfl role
      rwa [show (1 : Byte).toNat = 1 from rfl, readTable_pending code inside role, other] at replied
    case notPending =>
      rintro rfl role
      rwa [show (1 : Byte).toNat = 1 from rfl, readTable_notPending code inside role] at replied
    case shadow =>
      rintro rfl role
      rwa [show (2 : Byte).toNat = 2 from rfl, readTable_shadow code inside role, other] at replied
    case copying =>
      rintro n rfl role
      rwa [show (2 : Byte).toNat = 2 from rfl, readTable_copying code inside role] at replied
    case committed =>
      rintro g rfl role
      rwa [show (2 : Byte).toNat = 2 from rfl, readTable_committed code inside role] at replied
    case range =>
      intro above
      rwa [readTable_range (.inl above)] at replied

end Sys2Proof.Machine
end

section
/-! Records as bytes (R174, R182, section 11.5): loading the bytes of a record in range gives the record. -/

namespace Sys2Proof.Machine

/- One proof after another: every thread of a parallel elaboration reserves memory, which the check limits. -/
set_option Elab.async false

/-! ### Fields of bytes written one after another -/

/-- A field behind the bytes written first. -/
theorem field_append_of_le {before : List Byte} (rest : List Byte) {a : Nat} (n : Nat) (h : before.length ≤ a) :
    field (before ++ rest) a n = field rest (a - before.length) n := by
  rw [field, field, List.drop_append, List.drop_eq_nil_of_le h, List.nil_append]

theorem field_le_skip {m a : Nat} (v n : Nat) (rest : List Byte) (h : m ≤ a) :
    field (le m v ++ rest) a n = field rest (a - m) n := by
  rw [field_append_of_le rest n (by rwa [le_length]), le_length]

/-- The field of the number written first. -/
theorem field_le_append {n v : Nat} (rest : List Byte) (h : v < 256 ^ n) : field (le n v ++ rest) 0 n = v := by
  have first := field_append [] (le n v) rest
  rwa [le_length, ofLe_le_of_lt h] at first

theorem field_le {n v : Nat} (h : v < 256 ^ n) : field (le n v) 0 n = v := by
  simpa using field_le_append [] h

theorem byteOf_eq (b : Bool) : byteOf b = le 1 b.toNat := by cases b <;> rfl

/-! ### Values in range are not clamped -/

theorem clamp_of_mem {lo hi v : Nat} (low : lo ≤ v) (high : v ≤ hi) : clamp lo hi v = v := by
  unfold clamp
  omega

theorem clampIndex_val {n : Nat} (i : Fin (n + 1)) : clampIndex n i.val = i := by
  ext
  exact Nat.min_eq_left (Nat.le_of_lt_succ i.isLt)

theorem clampSlope_of_mem {v : Nat} (h : v ∈ [0, 50, 100, 200, 400, 800]) : clampSlope v = v := by
  simp only [List.mem_cons, List.not_mem_nil, or_false] at h
  rcases h with rfl | rfl | rfl | rfl | rfl | rfl <;> rfl

theorem actionOfCode_code (a : Action) : actionOfCode a.code = some a := by cases a <;> rfl

/-- The flags of a record's first byte. -/
theorem flags_testBit (a b c : Bool) : (bitOf a 0 + bitOf b 1 + bitOf c 2).testBit 0 = a
    ∧ (bitOf a 0 + bitOf b 1 + bitOf c 2).testBit 1 = b ∧ (bitOf a 0 + bitOf b 1 + bitOf c 2).testBit 2 = c
    ∧ bitOf a 0 + bitOf b 1 + bitOf c 2 < 256 := by
  cases a <;> cases b <;> cases c <;> decide

/-! ### Each record

The bytes of each field are behind those of the fields before it, and a value in its range is not clamped. -/

theorem LaneRec.bytes_length (r : LaneRec) : r.bytes.length = 24 := by simp [LaneRec.bytes]

theorem LaneRec.load_bytes {r : LaneRec} (h : r.InRange) : LaneRec.load r.bytes = (r, false) := by
  obtain ⟨pitch, dSonic, dImage, dExit, gapMm, pickToEntry, pickRetries, holdLimit, pickReserve, reverseLimit, runoutMs,
    imageTimeout⟩ := h
  obtain ⟨enabled, sonic, autostop, bound⟩ := flags_testBit r.enabled r.sonicEnabled r.autostop
  simp (disch := omega) only [LaneRec.load, LaneRec.bytes, List.append_assoc, flagAt, field_le_skip, Nat.reduceSub,
    field_le_append, clamp_of_mem, clampIndex_val, enabled, sonic, autostop, Nat.min_eq_left]
  simp [anyChanged]

theorem GroupRec.bytes_length (r : GroupRec) : r.bytes.length = 6 := by simp [GroupRec.bytes]

theorem GroupRec.load_bytes {r : GroupRec} (h : r.InRange) : GroupRec.load r.bytes = (r, false) := by
  obtain ⟨target, throttle, slope⟩ := h
  have small : r.slopeMs < 256 ^ 2 := by
    revert slope
    simp only [List.mem_cons, List.not_mem_nil, or_false]
    omega
  simp (disch := omega) only [GroupRec.load, GroupRec.bytes, List.append_assoc, field_le_skip, Nat.reduceSub,
    field_le_append, field_le, clamp_of_mem, clampSlope_of_mem slope]
  simp [anyChanged]

theorem ClassRec.bytes_length (r : ClassRec) : r.bytes.length = 6 := by simp [ClassRec.bytes]

theorem ClassRec.load_bytes {r : ClassRec} (h : r.InRange) : ClassRec.load r.bytes = (r, false) := by
  obtain ⟨low, high⟩ := h
  obtain ⟨enabled, mirror, _, bound⟩ := flags_testBit r.enabled r.mirror.isSome false
  rw [show bitOf false 2 = 0 from rfl, Nat.add_zero] at enabled mirror bound
  have mirrored : (r.mirror.map (·.val)).getD 0 < 16 := by
    cases r.mirror with
    | none => exact Nat.zero_lt_succ _
    | some c => exact c.isLt
  simp (disch := omega) only [ClassRec.load, ClassRec.bytes, List.append_assoc, flagAt, field_le_skip, Nat.reduceSub,
    field_le_append, clamp_of_mem, clampIndex_val, enabled, mirror, Nat.min_eq_left]
  obtain ⟨on, primary, mirror', pages⟩ := r
  cases mirror' <;> simp [anyChanged, clampIndex_val]

theorem ChannelRec.bytes_length (r : ChannelRec) : r.bytes.length = 20 := by simp [ChannelRec.bytes]

theorem ChannelRec.load_bytes {r : ChannelRec} (h : r.InRange) : ChannelRec.load r.bytes = (r, false) := by
  obtain ⟨limit, full, near, ease⟩ := h
  obtain ⟨enabled, _, _, bound⟩ := flags_testBit r.enabled false false
  simp only [show bitOf false 1 = 0 from rfl, show bitOf false 2 = 0 from rfl, Nat.add_zero] at enabled bound
  simp (disch := omega) only [ChannelRec.load, ChannelRec.bytes, List.append_assoc, flagAt, field_le_skip,
    Nat.reduceSub, field_le_append, clamp_of_mem, enabled]
  simp [anyChanged]

/-! ### PROFILE -/

theorem zoneBytes_length (zones : List Zone) (i : Nat) : (zoneBytes zones i).length = 4 := by
  unfold zoneBytes
  cases zones[i]? <;> simp

theorem Split.bytes_length (x : Split) : x.bytes.length = 3 := by cases x <;> simp [Split.bytes]

theorem ProfileRec.bytes_length (r : ProfileRec) : r.bytes.length = 28 := by
  simp [ProfileRec.bytes, zoneBytes_length, Split.bytes_length, byteOf_eq]

/-- The zones, the split and what follows them are behind bytes that do not depend on their lengths. -/
theorem field_zoneBytes_skip {a : Nat} (zones : List Zone) (i n : Nat) (rest : List Byte) (h : 4 ≤ a) :
    field (zoneBytes zones i ++ rest) a n = field rest (a - 4) n := by
  rw [field_append_of_le rest n (by rwa [zoneBytes_length]), zoneBytes_length]

theorem field_splitBytes_skip {a : Nat} (x : Split) (n : Nat) (rest : List Byte) (h : 3 ≤ a) :
    field (x.bytes ++ rest) a n = field rest (a - 3) n := by
  rw [field_append_of_le rest n (by rwa [Split.bytes_length]), Split.bytes_length]

theorem Action.code_lt (a : Action) : a.code < 256 := by cases a <;> decide

section
variable {r : ProfileRec}

/-- Each zone of a record is read from its place. -/
theorem ProfileRec.loadZone_bytes (few : r.zones.length ≤ 2) {i : Nat} (hi : i < r.zones.length)
    (zone : r.zones[i].InRange) : loadZone r.bytes i = (r.zones[i], false) := by
  have bytes : zoneBytes r.zones i = le 2 r.zones[i].start ++ le 2 r.zones[i].stop := by
    rw [zoneBytes, List.getElem?_eq_getElem hi]
  obtain ⟨start, low, stop⟩ := zone
  have place : i = 0 ∨ i = 1 := by omega
  rcases place with rfl | rfl
  all_goals
    simp (disch := omega) only [loadZone, ProfileRec.bytes, bytes, List.append_assoc, Nat.reduceMul, Nat.reduceAdd,
      field_le_skip, field_zoneBytes_skip, Nat.reduceSub, field_le_append, clamp_of_mem]
    simp [anyChanged]

theorem ProfileRec.loadZones_bytes (h : r.InRange) : loadZones r.bytes = some (r.zones.map fun z => (z, false)) := by
  obtain ⟨_, _, _, _, _, few, zones, _⟩ := h
  have count : field r.bytes 7 1 = r.zones.length := by
    simp (disch := omega) only [ProfileRec.bytes, List.append_assoc, field_le_skip, Nat.reduceSub, field_le_append]
  rw [loadZones_eq, count, if_pos few, Option.some_inj]
  refine List.ext_getElem (by simp) fun i _ hi => ?_
  have inside : i < r.zones.length := by simpa using hi
  simpa using loadZone_bytes few inside (zones _ (List.getElem_mem inside))

theorem ProfileRec.loadSplit_bytes (h : r.InRange) : loadSplit r.bytes = some (r.split, false) := by
  obtain ⟨_, _, _, _, _, _, _, range⟩ := h
  cases split : r.split with
  | mark =>
    simp (disch := omega) only [loadSplit, ProfileRec.bytes, split, Split.bytes, List.append_assoc, field_le_skip,
      field_zoneBytes_skip, Nat.reduceSub, field_le_append]
  | ticket =>
    simp (disch := omega) only [loadSplit, ProfileRec.bytes, split, Split.bytes, List.append_assoc, field_le_skip,
      field_zoneBytes_skip, Nat.reduceSub, field_le_append]
  | count n =>
    rw [split] at range
    obtain ⟨low, high⟩ := range
    simp (disch := omega) only [loadSplit, ProfileRec.bytes, split, Split.bytes, List.append_assoc, field_le_skip,
      field_zoneBytes_skip, Nat.reduceSub, field_le_append, clamp_of_mem, bne_self_eq_false]

theorem ProfileRec.loadBlank_bytes : loadBlank r.bytes = some r.blankDrop := by
  have code : field r.bytes 26 1 = r.blankDrop.toNat := by
    have small : r.blankDrop.toNat < 256 := by cases r.blankDrop <;> decide
    simp (disch := omega) only [ProfileRec.bytes, List.append_assoc, field_le_skip, field_zoneBytes_skip,
      field_splitBytes_skip, Nat.reduceSub, byteOf_eq, field_le_append]
  rw [loadBlank, code]
  cases r.blankDrop <;> rfl

/-- The actions are read by their codes. -/
theorem ProfileRec.actions_bytes : actionOfCode (field r.bytes 16 1) = some r.polDouble
    ∧ actionOfCode (field r.bytes 17 1) = some r.polLong ∧ actionOfCode (field r.bytes 18 1) = some r.polShort
    ∧ actionOfCode (field r.bytes 19 1) = some r.polUnverified
    ∧ actionOfCode (field r.bytes 20 1) = some r.polTruncated := by
  have double := r.polDouble.code_lt
  have long := r.polLong.code_lt
  have short := r.polShort.code_lt
  have unverified := r.polUnverified.code_lt
  have truncated := r.polTruncated.code_lt
  simp (disch := omega) only [ProfileRec.bytes, List.append_assoc, field_le_skip, field_zoneBytes_skip, Nat.reduceSub,
    field_le_append, actionOfCode_code, and_self]

/-- The numbers beside the zones and the split. -/
theorem ProfileRec.numbers_bytes (h : r.InRange) : ∀ f ∈ r.numbers,
    field r.bytes f.at_ f.width = f.written ∧ f.written ≤ f.high ∧ f.low ≤ f.written := by
  obtain ⟨lenMin, lenMax, tThick, hyst, minRun, _⟩ := h
  simp only [ProfileRec.numbers, List.forall_mem_cons]
  simp (disch := omega) only [ProfileRec.bytes, List.append_assoc, field_le_skip, field_zoneBytes_skip, Nat.reduceSub,
    field_le_append, true_and]
  refine ⟨by omega, by omega, by omega, by omega, by omega, by omega, by omega, nofun⟩

theorem ProfileRec.load_bytes (h : r.InRange) : ProfileRec.load r.bytes = some (r, false) := by
  have zones := loadZones_bytes h
  have split := loadSplit_bytes h
  have numbers := numbers_bytes h
  simp only [ProfileRec.numbers, List.forall_mem_cons] at numbers
  obtain ⟨⟨lenMin, _, _⟩, ⟨lenMax, _, _⟩, ⟨tThick, _, _⟩, ⟨hyst, _, _⟩, ⟨minRun, _, _⟩, ⟨markmap, _, _⟩,
    ⟨cls, _, _⟩, _⟩ := numbers
  obtain ⟨double, long, short, unverified, truncated⟩ := actions_bytes (r := r)
  simp (disch := omega) only [ProfileRec.load, zones, double, long, short, unverified, truncated, split,
    loadBlank_bytes, lenMin, lenMax, tThick, hyst, minRun, markmap, cls, Option.bind_eq_bind, Option.bind_some,
    clamp_of_mem, clampIndex_val, Nat.min_eq_left]
  simp [anyChanged, Function.comp_def]

end

/-! ### MARKMAP -/

theorem MarkAction.bytes_length (a : MarkAction) : a.bytes.length = 2 := by cases a <;> rfl

/-- An action is read by its code, and a class by its number. -/
theorem loadMark_bytes_append (a : MarkAction) (rest : List Byte) : loadMark (a.bytes ++ rest) 0 = some (a, false) := by
  cases a with
  | classKeep c =>
    rw [show (MarkAction.classKeep c).bytes = le 1 5 ++ le 1 c.val from rfl, List.append_assoc]
    simp (disch := omega) only [loadMark, Nat.reduceMul, Nat.reduceAdd, field_le_skip, Nat.reduceSub, field_le_append,
      clampIndex_val, Nat.min_eq_left, bne_self_eq_false]
  | classDrop c =>
    rw [show (MarkAction.classDrop c).bytes = le 1 6 ++ le 1 c.val from rfl, List.append_assoc]
    simp (disch := omega) only [loadMark, Nat.reduceMul, Nat.reduceAdd, field_le_skip, Nat.reduceSub, field_le_append,
      clampIndex_val, Nat.min_eq_left, bne_self_eq_false]
  | ignore => rfl
  | sepKeep => rfl
  | sepDrop => rfl
  | ticketKeep => rfl
  | ticketDrop => rfl

/-- The bytes of a map, action by action. -/
def markBytes (as : List MarkAction) : List Byte := (as.map MarkAction.bytes).flatten

theorem markBytes_cons (a : MarkAction) (as : List MarkAction) : markBytes (a :: as) = a.bytes ++ markBytes as := rfl

theorem markBytes_length (as : List MarkAction) : (markBytes as).length = 2 * as.length := by
  induction as with
  | nil => rfl
  | cons a as ih =>
    rw [markBytes_cons, List.length_append, a.bytes_length, ih, List.length_cons]
    omega

/-- Each action is read from its place. -/
theorem loadMark_markBytes (as : List MarkAction) (i : Nat) (hi : i < as.length) :
    loadMark (markBytes as) i = some (as[i], false) := by
  induction as generalizing i with
  | nil => exact absurd hi (Nat.not_lt_zero i)
  | cons a as ih =>
    rw [markBytes_cons]
    cases i with
    | zero => exact loadMark_bytes_append a (markBytes as)
    | succ i =>
      have skip (j : Nat) : field (a.bytes ++ markBytes as) (2 + j) 1 = field (markBytes as) j 1 := by
        rw [field_append_of_le _ _ (by rw [a.bytes_length]; omega), a.bytes_length, Nat.add_sub_cancel_left]
      rw [List.getElem_cons_succ, ← ih i (by simpa using hi)]
      unfold loadMark
      rw [show 2 * (i + 1) = 2 + 2 * i by omega, skip, Nat.add_assoc, skip]

theorem loadMarkMap_bytes (m : Vector MarkAction 15) : loadMarkMap (markBytes m.toList) = some (m, false) := by
  have entries : (List.range 15).mapM (loadMark (markBytes m.toList)) = some (m.toList.map fun a => (a, false)) := by
    refine (mapM_eq_some _ _ _).2 (List.ext_getElem (by simp) fun i hi _ => ?_)
    have inside : i < 15 := by simpa using hi
    simp [loadMark_markBytes m.toList i (by simpa using inside)]
  rw [loadMarkMap, entries]
  simp only [Option.bind_eq_bind, Option.bind_some, Option.pure_def, Option.some.injEq, Prod.mk.injEq]
  exact ⟨Vector.ext fun i hi => by simp, List.any_eq_false.2 (by simp)⟩

/-! ### Each table -/

/-- Settles O48: entry by entry, the bytes that a read gives are the ones the load takes the same record from. -/
theorem recordsReadAndLoadAgree : Obligations.RecordsReadAndLoadAgree := by
  intro t id i h inside
  obtain ⟨lane, group, profile, cls, channel⟩ := h
  cases id with
  | lane =>
    have hi : i < 6 := inside
    refine ⟨t.lane[i].bytes, by simp [Tables.recordBytes, hi], LaneRec.bytes_length _, ?_⟩
    have read : LaneRec.load t.lane[i].bytes = (t.lane[i], false) := LaneRec.load_bytes (lane ⟨i, hi⟩)
    simp [Tables.load, hi, read]
  | group =>
    have hi : i < 3 := inside
    refine ⟨t.group[i].bytes, by simp [Tables.recordBytes, hi], GroupRec.bytes_length _, ?_⟩
    have read : GroupRec.load t.group[i].bytes = (t.group[i], false) := GroupRec.load_bytes (group ⟨i, hi⟩)
    simp [Tables.load, hi, read]
  | profile =>
    have hi : i < 16 := inside
    refine ⟨t.profile[i].bytes, by simp [Tables.recordBytes, hi], ProfileRec.bytes_length _, ?_⟩
    have read : ProfileRec.load t.profile[i].bytes = some (t.profile[i], false) :=
      ProfileRec.load_bytes (profile ⟨i, hi⟩)
    simp [Tables.load, hi, read]
  | markmap =>
    have hi : i < 4 := inside
    refine ⟨markBytes t.markmap[i].toList, by simp [Tables.recordBytes, hi, markBytes],
      (markBytes_length _).trans (by simp [TableId.recordLength]), ?_⟩
    simp [Tables.load, hi, loadMarkMap_bytes]
  | cls =>
    have hi : i < 32 := inside
    refine ⟨t.cls[i].bytes, by simp [Tables.recordBytes, hi], ClassRec.bytes_length _, ?_⟩
    have read : ClassRec.load t.cls[i].bytes = (t.cls[i], false) := ClassRec.load_bytes (cls ⟨i, hi⟩)
    simp [Tables.load, hi, read]
  | channel =>
    have hi : i < 16 := inside
    refine ⟨t.channel[i].bytes, by simp [Tables.recordBytes, hi], ChannelRec.bytes_length _, ?_⟩
    have read : ChannelRec.load t.channel[i].bytes = (t.channel[i], false) := ChannelRec.load_bytes (channel ⟨i, hi⟩)
    simp [Tables.load, hi, read]

end Sys2Proof.Machine
end

section
/-! The fault of a bank (R175): the first record that breaks the rule of its table, in the order of the tables. -/

namespace Sys2Proof.Machine

/- One proof after another: every thread of a parallel elaboration reserves memory, which the check limits. -/
set_option Elab.async false

/-! ### The first bad record of a table -/

/-- The entry exists and its record is bad. -/
def BadAt {α : Type} {n : Nat} (ok : α → Bool) (rs : Vector α n) (i : Nat) : Prop :=
  ∃ r, rs[i]? = some r ∧ ok r = false

section
variable {α : Type} {n : Nat} (ok : α → Bool) (rs : Vector α n)

theorem firstBad_eq_none : firstBad ok rs.toList = none ↔ ∀ i, ¬BadAt ok rs i := by
  simp only [firstBad, List.findIdx?_eq_none_iff, BadAt, not_exists, not_and, Bool.not_eq_false]
  constructor
  · intro good i r entry
    simpa using good r (Vector.mem_toList_iff.2 (Vector.mem_of_getElem? entry))
  · intro good r entry
    obtain ⟨i, hi, rfl⟩ := Vector.mem_iff_getElem.1 (Vector.mem_toList_iff.1 entry)
    simpa using good i _ (Vector.getElem?_eq_getElem hi)

theorem firstBad_eq_some (i : Nat) :
    firstBad ok rs.toList = some i ↔ BadAt ok rs i ∧ ∀ j, BadAt ok rs j → i ≤ j := by
  have bad (j : Nat) : BadAt ok rs j ↔ ∃ hj : j < n, ok rs[j] = false := by
    simp [BadAt, Vector.getElem?_eq_some_iff]
  rw [firstBad, List.findIdx?_eq_some_iff_getElem]
  simp only [bad, Vector.length_toList, Vector.getElem_toList, Bool.not_eq_true', Bool.not_eq_false]
  constructor
  · rintro ⟨hi, first, before⟩
    refine ⟨⟨hi, first⟩, fun j ⟨_, later⟩ => Nat.le_of_not_lt fun lt => ?_⟩
    exact absurd (before j lt) (by simp [later])
  · rintro ⟨⟨hi, first⟩, least⟩
    refine ⟨hi, first, fun j lt => ?_⟩
    by_contra later
    exact absurd (least j ⟨lt.trans hi, by simpa using later⟩) (Nat.not_le_of_lt lt)

end

/-! ### The rules of the records -/

theorem zonesOrdered_iff (zs : List Zone) : zonesOrdered zs = true
    ↔ (∀ z ∈ zs, z.start < z.stop) ∧ zs.IsChain fun a b => a.stop ≤ b.start := by
  induction zs with
  | nil => simp [zonesOrdered]
  | cons z zs ih =>
    cases zs with
    | nil => simp [zonesOrdered]
    | cons w rest =>
      rw [zonesOrdered, Bool.and_eq_true, Bool.and_eq_true, ih, List.isChain_cons_cons, List.forall_mem_cons (a := z),
        decide_eq_true_eq, decide_eq_true_eq]
      tauto

theorem zonesOrdered_eq_false (zs : List Zone) : zonesOrdered zs = false ↔ (∃ z ∈ zs, z.stop ≤ z.start)
    ∨ ∃ pre a b post, zs = pre ++ a :: b :: post ∧ b.start < a.stop := by
  rw [← Bool.not_eq_true, zonesOrdered_iff, List.isChain_iff_forall_rel_of_append_cons_cons, not_and_or]
  refine or_congr (by simp) ?_
  constructor
  · intro broken
    push Not at broken
    obtain ⟨a, b, pre, post, split, before⟩ := broken
    exact ⟨pre, a, b, post, split, before⟩
  · rintro ⟨pre, a, b, post, split, before⟩ chained
    exact absurd (chained split) (by omega)

theorem LaneRec.valid_eq_false (r : LaneRec) :
    r.valid = false ↔ r.enabled = true ∧ ¬(r.dSonic < r.dImage ∧ r.dImage < r.dExit) := by
  simp [LaneRec.valid]

theorem GroupRec.valid_eq_false (r : GroupRec) : r.valid = false ↔ r.targetSpeed < r.throttleSpeed := by
  simp [GroupRec.valid]

theorem ProfileRec.valid_eq_false (classes : Vector ClassRec 32) (r : ProfileRec) :
    r.valid classes = false ↔ r.lenMax < r.lenMin ∨ (∃ z ∈ r.zones, z.stop ≤ z.start)
      ∨ (∃ pre a b post, r.zones = pre ++ a :: b :: post ∧ b.start < a.stop)
      ∨ (classes[r.defaultClass]).enabled = false := by
  rw [ProfileRec.valid, Bool.and_eq_false_iff, Bool.and_eq_false_iff, zonesOrdered_eq_false, decide_eq_false_iff_not,
    Nat.not_le, or_assoc, or_assoc]

theorem marksValid_eq_false (classes : Vector ClassRec 32) (m : Vector MarkAction 15) :
    m.toList.all (MarkAction.valid classes) = false ↔
      ∃ (k : Fin 15) (c : Fin 32), (m[k] = .classKeep c ∨ m[k] = .classDrop c) ∧ (classes[c]).enabled = false := by
  have names (a : MarkAction) : a.valid classes = false ↔
      ∃ c, (a = .classKeep c ∨ a = .classDrop c) ∧ (classes[c]).enabled = false := by
    cases a <;> simp [MarkAction.valid]
  rw [List.all_eq_false]
  simp only [Bool.not_eq_true, names, Vector.mem_toList_iff, Vector.mem_iff_getElem]
  constructor
  · rintro ⟨_, ⟨k, hk, rfl⟩, c, named⟩
    exact ⟨⟨k, hk⟩, c, named⟩
  · rintro ⟨k, c, named⟩
    exact ⟨_, ⟨k, k.isLt, rfl⟩, c, named⟩

theorem ClassRec.valid_eq_false (r : ClassRec) : r.valid = false ↔ r.mirror = some r.primary := by
  simp [ClassRec.valid]

theorem ChannelRec.valid_eq_false (r : ChannelRec) :
    r.valid = false ↔ r.enabled = true ∧ ¬(r.ease < r.near ∧ r.near ≤ r.full ∧ r.full ≤ r.limit) := by
  simp [ChannelRec.valid]

/-! ### Table by table -/

/-- The first bad record of a table. -/
def Tables.firstFault (t : Tables) : TableId → Option Nat
  | .lane => firstBad LaneRec.valid t.lane.toList
  | .group => firstBad GroupRec.valid t.group.toList
  | .profile => firstBad (ProfileRec.valid t.cls) t.profile.toList
  | .markmap => firstBad (fun m => m.toList.all (MarkAction.valid t.cls)) t.markmap.toList
  | .cls => firstBad ClassRec.valid t.cls.toList
  | .channel => firstBad ChannelRec.valid t.channel.toList

theorem Tables.firstFault_eq_none (t : Tables) (id : TableId) : t.firstFault id = none ↔ ∀ i, ¬t.Breaks id i := by
  cases id with
  | lane => simp only [firstFault, firstBad_eq_none, BadAt, Breaks, LaneRec.valid_eq_false]
  | group => simp only [firstFault, firstBad_eq_none, BadAt, Breaks, GroupRec.valid_eq_false]
  | profile => simp only [firstFault, firstBad_eq_none, BadAt, Breaks, ProfileRec.valid_eq_false]
  | markmap => simp only [firstFault, firstBad_eq_none, BadAt, Breaks, marksValid_eq_false]
  | cls => simp only [firstFault, firstBad_eq_none, BadAt, Breaks, ClassRec.valid_eq_false]
  | channel => simp only [firstFault, firstBad_eq_none, BadAt, Breaks, ChannelRec.valid_eq_false]

theorem Tables.firstFault_eq_some (t : Tables) (id : TableId) (i : Nat) :
    t.firstFault id = some i ↔ t.Breaks id i ∧ ∀ j, t.Breaks id j → i ≤ j := by
  cases id with
  | lane => simp only [firstFault, firstBad_eq_some, BadAt, Breaks, LaneRec.valid_eq_false]
  | group => simp only [firstFault, firstBad_eq_some, BadAt, Breaks, GroupRec.valid_eq_false]
  | profile => simp only [firstFault, firstBad_eq_some, BadAt, Breaks, ProfileRec.valid_eq_false]
  | markmap => simp only [firstFault, firstBad_eq_some, BadAt, Breaks, marksValid_eq_false]
  | cls => simp only [firstFault, firstBad_eq_some, BadAt, Breaks, ClassRec.valid_eq_false]
  | channel => simp only [firstFault, firstBad_eq_some, BadAt, Breaks, ChannelRec.valid_eq_false]

/-! ### The order of the tables -/

/-- The tables in the order of their codes. -/
def TableId.all : List TableId := [.lane, .group, .profile, .markmap, .cls, .channel]

theorem TableId.mem_all (id : TableId) : id ∈ TableId.all := by cases id <;> decide

theorem TableId.all_ordered : TableId.all.Pairwise fun a b => a.code < b.code := by decide

theorem TableId.code_injective {a b : TableId} (h : a.code = b.code) : a = b := by
  have named := (tableOfCode_eq_some a.code a).2 rfl
  rwa [(tableOfCode_eq_some a.code b).2 h, Option.some_inj, eq_comm] at named

theorem findSome?_cons_orElse {α β : Type} (f : α → Option β) (a : α) (as : List α) :
    (a :: as).findSome? f = (f a <|> as.findSome? f) := by
  rw [List.findSome?_cons]
  cases f a <;> rfl

theorem Tables.fault_eq (t : Tables) : t.fault = TableId.all.findSome? fun id => (t.firstFault id).map (id, ·) := by
  have last : ((t.firstFault .channel).map (TableId.channel, ·) <|> none)
      = (t.firstFault .channel).map (TableId.channel, ·) := by
    cases t.firstFault .channel <;> rfl
  simp only [TableId.all, findSome?_cons_orElse, List.findSome?_nil, last]
  rfl

/-- In an ordered list, the first that has a fault is the one before which none has. -/
theorem findSome?_ordered {f : TableId → Option Nat} {ids : List TableId}
    (ordered : ids.Pairwise fun a b => a.code < b.code) (id : TableId) (i : Nat) :
    ids.findSome? (fun id => (f id).map (id, ·)) = some (id, i)
      ↔ id ∈ ids ∧ f id = some i ∧ ∀ other ∈ ids, other.code < id.code → f other = none := by
  induction ids with
  | nil => simp
  | cons a ids ih =>
    obtain ⟨first, ordered⟩ := List.pairwise_cons.1 ordered
    rw [List.findSome?_cons]
    cases fault : f a with
    | none =>
      have others : f id = some i → id ≠ a := by
        rintro some rfl
        rw [fault] at some
        cases some
      simp only [Option.map_none, ih ordered, List.mem_cons, forall_eq_or_imp, fault, implies_true, true_and]
      exact ⟨fun ⟨mem, rest⟩ => ⟨.inr mem, rest⟩, fun ⟨mem, rest⟩ => ⟨mem.resolve_left (others rest.1), rest⟩⟩
    | some j =>
      simp only [Option.map_some, Option.some.injEq, Prod.mk.injEq, List.mem_cons, forall_eq_or_imp, fault,
        reduceCtorEq, imp_false]
      constructor
      · rintro ⟨rfl, rfl⟩
        exact ⟨.inl rfl, fault, lt_irrefl _, fun other mem lt => absurd lt (first other mem).asymm⟩
      · rintro ⟨mem, some, after, _⟩
        have same : id = a := mem.resolve_right fun later => after (first id later)
        subst same
        exact ⟨rfl, Option.some.inj (fault.symm.trans some)⟩

theorem Tables.fault_eq_none (t : Tables) : t.fault = none ↔ ∀ id i, ¬t.Breaks id i := by
  simp [fault_eq, firstFault_eq_none, TableId.mem_all]

theorem Tables.fault_eq_some (t : Tables) (id : TableId) (i : Nat) : t.fault = some (id, i) ↔ t.Breaks id i
    ∧ ∀ other j, t.Breaks other j → id.code < other.code ∨ (id = other ∧ i ≤ j) := by
  rw [fault_eq, findSome?_ordered TableId.all_ordered, firstFault_eq_some]
  simp only [TableId.mem_all, true_and, firstFault_eq_none, forall_const]
  constructor
  · rintro ⟨⟨breaks, least⟩, before⟩
    refine ⟨breaks, fun other j bad => ?_⟩
    rcases lt_trichotomy id.code other.code with lt | eq | gt
    · exact .inl lt
    · obtain rfl := TableId.code_injective eq
      exact .inr ⟨rfl, least j bad⟩
    · exact absurd bad (before other gt j)
  · rintro ⟨breaks, first⟩
    refine ⟨⟨breaks, fun j bad => ((first id j bad).resolve_left (lt_irrefl _)).2⟩, fun other lt j bad => ?_⟩
    rcases first other j bad with gt | ⟨rfl, _⟩
    · exact absurd gt lt.asymm
    · exact lt_irrefl _ lt

end Sys2Proof.Machine
end

section
/-! TABLE_COMMIT (R175, R176, R178): who adopts at a commit, in which order, and what the commit leaves. -/

namespace Sys2Proof.Machine

/- One proof after another: every thread of a parallel elaboration reserves memory, which the check limits. -/
set_option Elab.async false

/-! ### Which lanes adopt (R177) -/

theorem State.mayAdopt_iff (s : State) (l : LaneId) :
    s.mayAdopt l = true ↔ (∃ g, s.otherRole = .pending g) ∧ (s.lane l).adopted = false := by
  simp [State.mayAdopt, Option.isSome_iff_exists, State.pendingGen_eq_some]

theorem State.adoptsAlone_iff (s : State) (l : LaneId) : s.adoptsAlone l = true
    ↔ ((s.lane l).state = .off ∨ (s.lane l).state = .idle) ∧ (s.lane l).batch.seqState = .idle := by
  cases state : (s.lane l).state <;> simp [State.adoptsAlone, LaneState.resting, state]

theorem State.atMoment_iff (s : State) (l : LaneId) : s.atMoment l = true ↔ (s.lane l).state = .off
    ∨ ((s.lane l).state = .idle ∧ (s.lane l).slots = [] ∧ ∀ i p, s.pageAt i = some p → p.lane ≠ l) := by
  simp only [State.atMoment, Bool.or_eq_true, Bool.and_eq_true, beq_iff_eq, List.isEmpty_iff, s.laneNonFree_zero l]
  tauto

/-- The lanes left after one has been taken out. -/
theorem mem_erase_filter_iff {p : LaneId → Bool} {ls : List LaneId} {l m : LaneId} (h : m ≠ l) :
    m ∈ (ls.filter p).erase l ↔ m ∈ ls ∧ p m = true := by
  rw [List.mem_erase_of_ne h, List.mem_filter]

theorem not_mem_erase_filter {p : LaneId → Bool} {ls : List LaneId} (nodup : ls.Nodup) (l : LaneId) :
    l ∉ (ls.filter p).erase l := (nodup.filter p).not_mem_erase

section
variable {s : State} {ls : List LaneId}

theorem adoptAll_none (h : ∀ l ∈ ls, s.mayAdopt l = false) : handle (.adoptAll ls) s = (s, []) := by
  have none : ls.filter s.mayAdopt = [] := List.filter_eq_nil_iff.2 fun l mem => by simp [h l mem]
  rw [handle_adoptAll, onAdoptAll, none]
  rfl

/-- The first lane in the order of the list that adopts alone goes first, and nothing is drawn. -/
theorem adoptAll_alone (h : ∃ m ∈ ls, s.mayAdopt m = true ∧ s.adoptsAlone m = true) :
    ∃ l before after, ls = before ++ l :: after
      ∧ (∀ m ∈ before, ¬(s.mayAdopt m = true ∧ s.adoptsAlone m = true)) ∧ s.mayAdopt l = true ∧ s.adoptsAlone l = true
      ∧ handle (.adoptAll ls) s = (s, [.adopt l, .adoptAll ((ls.filter s.mayAdopt).erase l)]) := by
  obtain ⟨m, mem, may, alone⟩ := h
  cases first : (ls.filter s.mayAdopt).filter s.adoptsAlone with
  | nil =>
    have inside : m ∈ (ls.filter s.mayAdopt).filter s.adoptsAlone :=
      List.mem_filter.2 ⟨List.mem_filter.2 ⟨mem, may⟩, alone⟩
    rw [first] at inside
    cases inside
  | cons l rest =>
    have found := first
    rw [List.filter_filter, List.filter_eq_cons_iff] at found
    obtain ⟨before, after, split, others, here, _⟩ := found
    obtain ⟨aloneHere, mayHere⟩ := Bool.and_eq_true_iff.1 here
    refine ⟨l, before, after, split, fun m mem both => others m mem ?_, mayHere, aloneHere, ?_⟩
    · rw [both.1, both.2]
      rfl
    · rw [handle_adoptAll, onAdoptAll, first]
      rfl

/-- When none adopts alone, one of those that may adopt goes first. -/
theorem adoptAll_drawn (h : ∃ m ∈ ls, s.mayAdopt m = true)
    (none : ∀ m ∈ ls, ¬(s.mayAdopt m = true ∧ s.adoptsAlone m = true)) :
    ∃ l t, l ∈ ls ∧ s.mayAdopt l = true ∧ t = { s with freeDraws := t.freeDraws }
      ∧ handle (.adoptAll ls) s = (t, [.adopt l, .adoptAll ((ls.filter s.mayAdopt).erase l)]) := by
  obtain ⟨m, mem, may⟩ := h
  have alone : (ls.filter s.mayAdopt).filter s.adoptsAlone = [] := by
    refine List.filter_eq_nil_iff.2 fun k inside => ?_
    obtain ⟨listed, mayAdopt⟩ := List.mem_filter.1 inside
    exact fun alone => none k listed ⟨mayAdopt, alone⟩
  cases left : ls.filter s.mayAdopt with
  | nil =>
    have inside : m ∈ ls.filter s.mayAdopt := List.mem_filter.2 ⟨mem, may⟩
    rw [left] at inside
    cases inside
  | cons a rest =>
    obtain ⟨taken, draws⟩ := s.takeOne_spec a rest
    rw [← left] at taken
    obtain ⟨listed, mayAdopt⟩ := List.mem_filter.1 taken
    refine ⟨_, _, listed, mayAdopt, draws, ?_⟩
    rw [handle_adoptAll, onAdoptAll, alone, left]
    rfl

end

/-! ### The commit (R175, R176) -/

section
variable {s : State} {mode : Nat}

theorem commitTables_range (above : 1 < mode) : commitTables mode s = ((s, []), .range) := if_pos above

variable (valid : mode ≤ 1)
include valid

theorem commitTables_busy {n : Nat} (role : s.otherRole = .retired n) : commitTables mode s = ((s, []), .busy) := by
  rw [commitTables, if_neg (by omega), role]

theorem commitTables_pending {g : Gen} (role : s.otherRole = .pending g) :
    commitTables mode s = ((s, []), .pending) := by
  rw [commitTables, if_neg (by omega), role]

theorem commitTables_invalid {id : TableId} {i : Nat} (role : s.otherRole = .shadow)
    (fault : (s.banks[s.otherBank]).fault = some (id, i)) :
    commitTables mode s = ((s, []), .invalid id.code i) := by
  rw [commitTables, if_neg (by omega), role]
  dsimp only
  rw [fault]

theorem commitTables_ok (role : s.otherRole = .shadow) (fault : (s.banks[s.otherBank]).fault = none) :
    commitTables mode s = ((s.makePending, [.adoptAll (s.committed (mode == 1))]), .ok) := by
  rw [commitTables, if_neg (by omega), role]
  dsimp only
  rw [fault]

end

theorem State.makePending_lane (s : State) (l : LaneId) :
    s.makePending.lane l = { s.lane l with adopted := false } := by
  simp [State.makePending, State.lane]

/-- Under NOW all lanes adopt at the commit, under BOUNDARY those at their moment. -/
theorem State.mem_committed (s : State) (now : Bool) (l : LaneId) :
    l ∈ s.committed now ↔ now = true ∨ s.atMoment l = true := by
  simp [State.committed, mem_allLanes]

theorem State.committed_nodup (s : State) (now : Bool) : (s.committed now).Nodup := allLanes_nodup.filter _

/-- A TABLE_COMMIT as it stands in a request queue. -/
def commitRequest (tag b : Byte) : Request := ⟨1, tag, [b]⟩

section
variable {s u : State} {k : Trunk} {tag b : Byte} {ts : List Task} {st : Status}

/-- TABLE_COMMIT takes its mode from its payload. -/
theorem exec_tableCommit (h : s.nextRequest = some (k, commitRequest tag b))
    (hf : commitTables b.toNat (s.takeOff k) = ((u, ts), st)) :
    exec .tableCommit s = act (u.answered k (commitRequest tag b) st, ts) := by
  refine serve_answered (want := Request.isKind 1) (body := bodyTableCommit) h rfl ?_
  rw [bodyTableCommit, sized, if_pos (by rfl), ← hf]
  simp [commitRequest, field, ofLe]

theorem State.takeOff_fault (s : State) (k : Trunk) :
    ((s.takeOff k).banks[(s.takeOff k).otherBank]).fault = (s.banks[s.otherBank]).fault := by
  cases k <;> rfl

theorem State.takeOff_committed (s : State) (k : Trunk) (now : Bool) :
    (s.takeOff k).committed now = s.committed now := by
  cases k <;> rfl

/-- The state that an accepted commit begins with. -/
def State.commitBegun (s : State) (k : Trunk) (tag b : Byte) : State :=
  (s.takeOff k).makePending.answered k (commitRequest tag b) .ok

theorem State.commitBegun_lane (s : State) (k : Trunk) (tag b : Byte) (l : LaneId) :
    (s.commitBegun k tag b).lane l = { s.lane l with adopted := false } := by
  rw [State.commitBegun, State.answered_lane, State.makePending_lane, State.takeOff_lane]

theorem State.commitBegun_frame (s : State) (k : Trunk) (tag b : Byte) :
    (s.commitBegun k tag b).otherRole = .pending (s.genCounter + 1)
      ∧ (s.commitBegun k tag b).genCounter = s.genCounter + 1 ∧ (s.commitBegun k tag b).entries = s.entries
      ∧ (s.commitBegun k tag b).banks = s.banks ∧ (s.commitBegun k tag b).activeBank = s.activeBank := by
  cases k <;> exact ⟨rfl, rfl, rfl, rfl, rfl⟩

end

/-- Settles O49: the fault is the first of the first faults; who adopts next is the first alone, or one drawn; and the
commit is refused by the first test that applies, or makes PENDING. -/
theorem commitMakesPending : Obligations.CommitMakesPending := by
  refine ⟨fun t => ⟨t.fault_eq_none, t.fault_eq_some⟩, fun s ls May Alone hMay hAlone => ?order,
    fun s k tag b next => ⟨fun above => ?range, fun valid => ⟨fun n role => ?busy, fun g role => ?pending, fun role =>
      ⟨fun id i fault => ?invalid, fun fault => ?accepted⟩⟩⟩⟩
  case order =>
    have may (l : LaneId) : May l ↔ s.mayAdopt l = true := (hMay l).trans (s.mayAdopt_iff l).symm
    have alone (l : LaneId) : Alone l ↔ s.mayAdopt l = true ∧ s.adoptsAlone l = true := by
      rw [hAlone, may, s.adoptsAlone_iff]
    simp only [may, alone]
    refine ⟨fun none => adoptAll_none fun l mem => by simpa using none l mem, fun some => ?_⟩
    by_cases any : ∃ m ∈ ls, s.mayAdopt m = true ∧ s.adoptsAlone m = true
    · obtain ⟨l, before, after, split, others, mayHere, aloneHere, ran⟩ := adoptAll_alone any
      exact ⟨l, _, s, by simp [split], mayHere, ran, fun m hm => mem_erase_filter_iff hm,
        fun nodup => not_mem_erase_filter nodup l,
        fun _ => ⟨⟨mayHere, aloneHere⟩, rfl, before, after, split, others⟩, rfl⟩
    · obtain ⟨l, t, listed, mayHere, draws, ran⟩ := adoptAll_drawn some fun m mem both => any ⟨m, mem, both⟩
      exact ⟨l, _, t, listed, mayHere, ran, fun m hm => mem_erase_filter_iff hm,
        fun nodup => not_mem_erase_filter nodup l, fun found => absurd found any, draws⟩
  case range => exact completes_untouched (exec_tableCommit next (commitTables_range above))
  case busy =>
    exact completes_untouched (exec_tableCommit next (commitTables_busy valid ((s.takeOff_otherRole k).trans role)))
  case pending =>
    exact completes_untouched (exec_tableCommit next (commitTables_pending valid ((s.takeOff_otherRole k).trans role)))
  case invalid =>
    exact completes_untouched (exec_tableCommit next
      (commitTables_invalid valid ((s.takeOff_otherRole k).trans role) ((s.takeOff_fault k).trans fault)))
  case accepted =>
    have ran : Begins .tableCommit s (s.commitBegun k tag b) [.adoptAll (s.committed (b.toNat == 1))] := by
      have ok := commitTables_ok (s := s.takeOff k) valid ((s.takeOff_otherRole k).trans role)
        ((s.takeOff_fault k).trans fault)
      rw [State.takeOff_committed] at ok
      exact exec_tableCommit next ok
    obtain ⟨pending, counter, entries, banks, active⟩ := s.commitBegun_frame k tag b
    refine ⟨⟨_, _, ran, s.committed_nodup _, pending, counter, fun l => ?_, fun l => ?_, entries, banks, active⟩,
      _, ran, settle_giveReply_replied (fun _ => rfl) (State.takeOff_lastServed s k), ?_, ?_⟩
    · rw [State.commitBegun_lane]
      exact ⟨rfl, rfl, rfl⟩
    · rw [State.mem_committed, beq_iff_eq, State.atMoment_iff]
    · exact (settle_settled _).genCounter.trans counter
    · exact (settle_settled _).banks.trans banks

end Sys2Proof.Machine
end

section
/-! Retirement and the bank copy (R12, R180, R181): when the old generation is retired, and the end of the copy. -/

namespace Sys2Proof.Machine

/- One proof after another: every thread of a parallel elaboration reserves memory, which the check limits. -/
set_option Elab.async false

/-! ### Retirement (R180) -/

theorem State.allAdopted_iff (s : State) : s.allAdopted = true ↔ ∀ l, (s.lane l).adopted = true := by
  simp [State.allAdopted, mem_allLanes]

/-- No page is counted exactly when none of the records satisfies the test. -/
theorem State.countPages_eq_zero (s : State) (f : Page → Bool) :
    s.countPages f = 0 ↔ ∀ i p, s.pageAt i = some p → f p = false := by
  rw [State.countPages, List.countP_eq_zero]
  constructor
  · intro none i p page
    have entry := none (s.entry i) (by simp [State.entry])
    rw [State.pageAt] at page
    simpa [page] using entry
  · intro none e mem
    obtain ⟨i, hi, rfl⟩ := Vector.mem_iff_getElem.1 (Vector.mem_toList_iff.1 mem)
    cases page : s.entries[i].page with
    | none => simp
    | some p => simp [none ⟨i, hi⟩ p page]

/-- A generation is referenced by no page exactly when no PICKED or IN_PATH page carries it (R12). -/
theorem State.refCount_eq_zero (s : State) (g : Gen) : s.refCount g = 0 ↔
    ∀ i p, s.pageAt i = some p → p.genPick = g → p.state ≠ .picked ∧ p.state ≠ .inPath := by
  rw [State.refCount, s.countPages_eq_zero]
  refine forall_congr' fun i => forall_congr' fun p => imp_congr_right fun _ => ?_
  rw [Page.unjudged, Bool.and_eq_false_iff, Bool.or_eq_false_iff, beq_eq_false_iff_ne, beq_eq_false_iff_ne,
    beq_eq_false_iff_ne]
  tauto

theorem State.retireTo_lane (s : State) (g : Gen) (l : LaneId) :
    (s.retireTo g).lane l = { s.lane l with adopted := false } := by
  simp [State.retireTo, State.lane]

theorem retire_of_retired {s : State} {g : Gen} (role : s.otherRole = .pending g) (all : s.allAdopted = true)
    (free : s.refCount s.activeGen = 0) : handle .retire s = (s.retireTo g, []) := by
  rw [handle_retire, onRetire, (s.pendingGen_eq_some g).2 role]
  exact if_pos ⟨all, free⟩

theorem retire_of_none {s : State} (role : s.pendingGen = none) : handle .retire s = (s, []) := by
  rw [handle_retire, onRetire, role]

theorem retire_of_waiting {s : State} (waits : ¬(s.allAdopted = true ∧ s.refCount s.activeGen = 0)) :
    handle .retire s = (s, []) := by
  rw [handle_retire, onRetire]
  split
  · exact if_neg waits
  · rfl

/-! ### The bank copy (R181) -/

theorem exec_bankCopyComplete (s : State) : exec .bankCopyComplete s = act (copyComplete s) := rfl

theorem State.copying_iff (s : State) : s.copying = true ↔ ∃ n, s.otherRole = .retired n := by
  unfold State.copying
  cases s.otherRole <;> simp

/-- The other bank is the equal of ACTIVE, and is SHADOW. -/
def State.copied (s : State) : State :=
  { s with banks := s.banks.set s.otherBank s.banks[s.activeBank], otherRole := .shadow }

theorem copyComplete_of_copying {s : State} (copying : s.copying = true) :
    copyComplete s = (s.copied.occur Ev.tablesReady 0, []) := if_pos copying

theorem copyComplete_of_idle {s : State} (idle : s.copying = false) : copyComplete s = (s, []) :=
  if_neg (by simp [idle])

theorem State.copied_banks (s : State) : s.copied.banks[s.otherBank] = s.banks[s.activeBank]
    ∧ s.copied.banks[s.activeBank] = s.banks[s.activeBank] := by
  have apart : s.otherBank.val ≠ s.activeBank.val := fun e => s.otherBank_ne_activeBank (Fin.ext e)
  simp [State.copied, apart]

/-- What the end of the copy leaves beside the banks and the events. -/
theorem State.copied_occur_frame (s : State) (c : Fin 20) (src : Nat) : s.copied.occur c src =
    { s with banks := s.copied.banks, otherRole := .shadow, events := (s.copied.occur c src).events } := by
  rw [State.occur_frame]
  rfl

/-- Settles O52: retirement tests the adopted set and the references of the ACTIVE generation; the copy's end writes one
bank and latches one event. -/
theorem retirementAndBankCopy : Obligations.RetirementAndBankCopy := by
  refine ⟨fun s => ⟨fun g role all free => ?retired, fun waits => ?waiting⟩, fun s => ⟨fun n role => ?copied,
    fun idle => ?idle⟩⟩
  case retired =>
    refine ⟨_, retire_of_retired role (s.allAdopted_iff.2 all) ((s.refCount_eq_zero _).2 free), rfl, rfl, rfl,
      s.retireTo_lane g, rfl, rfl, rfl⟩
  case waiting =>
    rcases waits with none | ⟨l, left⟩ | ⟨i, p, page, gen, unjudged⟩
    · exact retire_of_none none
    · refine retire_of_waiting fun ⟨all, _⟩ => ?_
      rw [s.allAdopted_iff.1 all l] at left
      cases left
    · refine retire_of_waiting fun ⟨_, free⟩ => ?_
      obtain ⟨picked, inPath⟩ := (s.refCount_eq_zero _).1 free i p page gen
      exact unjudged.elim picked inPath
  case copied =>
    have begun := copyComplete_of_copying (s.copying_iff.2 ⟨n, role⟩)
    obtain ⟨t, ran, kept⟩ := completes_slots (s := s) (u := s.copied.occur Ev.tablesReady 0)
      ((exec_bankCopyComplete s).trans (congrArg act begun))
    obtain ⟨_, latch, sources, _⟩ := kept.events Ev.tablesReady
    rw [State.occur_event_self s.copied (src := 0) (by decide)] at latch sources
    have paper := kept.paper
    obtain ⟨banks, active, gen, shadow, counter, channel⟩ := kept.tables
    obtain ⟨link, mgmt, cause, pending⟩ := kept.links
    rw [State.copied_occur_frame] at paper banks active gen shadow counter channel mgmt cause pending
    obtain ⟨copied, original⟩ := s.copied_banks
    refine ⟨t, ran, shadow, by rw [banks, copied], by rw [banks, original], active, gen, counter, channel,
      latch, ?_, paper, fun p => (link p).trans ?_, mgmt, cause, pending⟩
    · rw [sources]
      exact EventState.occur_sources _ (by decide)
    · rw [State.copied_occur_frame]
      cases p <;> rfl
  case idle =>
    refine completes_unchanged ?_
    have still : s.copying = false := Bool.eq_false_iff.2 fun copying => by
      obtain ⟨n, role⟩ := s.copying_iff.1 copying
      exact idle n role
    rw [exec_bankCopyComplete, copyComplete_of_idle still]

end Sys2Proof.Machine
end

section
/-! Adoption by a lane (R157, R177, R178; logs 32, 37, 39): the moment, the switch, and what each of its steps does. -/

namespace Sys2Proof.Machine

/- One proof after another: every thread of a parallel elaboration reserves memory, which the check limits. -/
set_option Elab.async false

/-! ### The moment (R177) -/

theorem adoptMoment_taken {s : State} {l : LaneId} (may : s.mayAdopt l = true) (moment : s.atMoment l = true) :
    handle (.adoptMoment l) s = (s, [.adopt l]) := by
  rw [handle_adoptMoment, onAdoptMoment, if_pos ⟨may, moment⟩]

theorem adoptMoment_passed {s : State} {l : LaneId} (h : ¬(s.mayAdopt l = true ∧ s.atMoment l = true)) :
    handle (.adoptMoment l) s = (s, []) := by
  rw [handle_adoptMoment, onAdoptMoment, if_neg h]

/-! ### The switch (R178) -/

theorem State.switchTo_lane_self (s : State) (l : LaneId) (g : Gen) : (s.switchTo l g).lane l =
    { s.lane l with gen := g, adopted := true, adoptingFrom := some (s.lane l).gen } :=
  s.modLane_lane_self l fun x => { x with gen := g, adopted := true, adoptingFrom := some x.gen }

theorem State.switchTo_otherLanes (s : State) (l : LaneId) (g : Gen) : OtherLanes s (s.switchTo l g) l :=
  s.modLane_otherLanes l fun x => { x with gen := g, adopted := true, adoptingFrom := some x.gen }

/-- After the switch of a lane the adopted set is whole exactly when the others were in it. -/
theorem State.switchTo_allAdopted (s : State) (l : LaneId) (g : Gen) :
    (s.switchTo l g).allAdopted = true ↔ ∀ m, m ≠ l → (s.lane m).adopted = true := by
  rw [State.allAdopted_iff]
  constructor
  · intro all m hm
    rw [← s.switchTo_otherLanes l g m hm]
    exact all m
  · intro others m
    by_cases hm : m = l
    · rw [hm, State.switchTo_lane_self]
    · rw [s.switchTo_otherLanes l g m hm]
      exact others m hm

/-- The retry of step 7: that of the page its sequencer waits with. -/
def SeqState.retry (l : LaneId) : SeqState → List Task
  | .waiting token => [.attempt l token]
  | .idle => []

/-- Step 8, by the last of the six. -/
def State.adoptLast (s : State) : List Task := if s.allAdopted then [.adoptEnd] else []

theorem adopt_switched {s : State} {l : LaneId} {g : Gen} (role : s.otherRole = .pending g)
    (left : (s.lane l).adopted = false) : handle (.adopt l) s = (s.switchTo l g,
      [.adoptChannels s.channelGen, .adoptLtc l, .adoptDfm l, .adoptLsq l, .adoptFgc l]
        ++ (s.lane l).batch.seqState.retry l ++ (s.switchTo l g).adoptLast) := by
  rw [handle_adopt, onAdopt, (s.pendingGen_eq_some g).2 role]
  dsimp only
  rw [if_neg (by simp [left])]
  cases (s.lane l).batch.seqState <;> rfl

theorem adopt_nothing {s : State} {l : LaneId} (h : (s.lane l).adopted = true ∨ s.pendingGen = none) :
    handle (.adopt l) s = (s, []) := by
  rw [handle_adopt, onAdopt]
  split
  · rfl
  · rename_i g pending
    rw [pending] at h
    exact if_pos (h.resolve_right nofun)

/-! ### The channels (R151, R157) -/

theorem allChans_eq : allChans = List.finRange 16 := by
  unfold allChans
  rfl

theorem adoptChannels_same {s : State} {old : Gen} (h : old = s.channelGen) :
    handle (.adoptChannels old) s = (s, []) := by
  rw [handle_adoptChannels, onAdoptChannels, if_pos h]

theorem adoptChannels_changed {s : State} {old : Gen} (h : old ≠ s.channelGen) : handle (.adoptChannels old) s
    = (s, (List.finRange 16).map Task.fillEval ++ [.retries none]) := by
  rw [handle_adoptChannels, onAdoptChannels, if_neg h, allChans_eq]

theorem fillEval_kept {s : State} {c : ChanId} (h : s.newFillState c = (s.chan c).fillState) :
    handle (.fillEval c) s = (s, []) := by
  rw [handle_fillEval, onFillEval, if_pos h]

theorem fillEval_changed {s : State} {c : ChanId} (h : s.newFillState c ≠ (s.chan c).fillState) :
    handle (.fillEval c) s = (s.setFillState c (s.newFillState c), [.fgc]) := by
  rw [handle_fillEval, onFillEval, if_neg h]

section
variable (s : State) (c : ChanId) (f : FillState)

theorem State.setFillState_frame : s.setFillState c f =
    { s with channels := (s.setFillState c f).channels, events := (s.setFillState c f).events } := by
  rw [State.setFillState, State.setRaw_frame, State.setRaw_frame]
  rfl

theorem State.setFillState_channels :
    (s.setFillState c f).channels = (s.setChan c { s.chan c with fillState := f }).channels := by
  rw [State.setFillState, State.setRaw_frame, State.setRaw_frame]

theorem State.setFillState_near :
    ((s.setFillState c f).event Ev.channelNear).raw.getLsbD c.val = decide (f ≠ .opened) := by
  have source : c.val < Ev.sourceCount Ev.channelNear := c.isLt
  rw [State.setFillState, State.setRaw_event_ne _ _ _ (by decide), State.setRaw_raw _ source]
  cases f <;> rfl

theorem State.setFillState_full :
    ((s.setFillState c f).event Ev.channelFull).raw.getLsbD c.val = decide (f = .full) := by
  have source : c.val < Ev.sourceCount Ev.channelFull := c.isLt
  rw [State.setFillState, State.setRaw_raw _ source]
  cases f <;> rfl

end

/-! ### The transport (R51) -/

theorem State.modLane_id (s : State) (l : LaneId) : s.modLane l id = s := by
  simp [State.modLane, State.setLane, State.lane]

theorem Lane.drained_gen (x : Lane) : x.drained.gen = x.gen := by
  unfold Lane.drained
  split <;> rfl

/-- The enabled field changes its lane only, and not the lane's generation. -/
theorem State.adoptEnabled_modLane (s : State) (l : LaneId) :
    ∃ f, s.adoptEnabled l = s.modLane l f ∧ (f (s.lane l)).gen = (s.lane l).gen := by
  have stays : ∃ f, s = s.modLane l f ∧ (f (s.lane l)).gen = (s.lane l).gen := ⟨id, (s.modLane_id l).symm, rfl⟩
  unfold State.adoptEnabled
  split
  case h_1 =>
    split
    · exact ⟨_, rfl, rfl⟩
    · exact stays
  case h_2 =>
    split
    · exact stays
    · exact ⟨_, rfl, rfl⟩
  case h_3 | h_4 | h_5 | h_6 =>
    split
    · exact stays
    · exact ⟨_, rfl, Lane.drained_gen _⟩
  case h_7 | h_8 | h_9 => exact stays

theorem State.evalHeadDown_frame (s : State) (l : LaneId) :
    s.evalHeadDown l = { s with events := (s.evalHeadDown l).events } := s.setRaw_frame _ _ _

section
variable {s : State} {l : LaneId}

theorem State.adoptEnabled_off (state : (s.lane l).state = .off) (enabled : s.laneEnabled l = true) :
    s.adoptEnabled l = s.modLane l fun x => { x.zeroCounter with state := .idle } := by
  rw [State.adoptEnabled, state]
  exact if_pos enabled

theorem State.adoptEnabled_idle (state : (s.lane l).state = .idle) (disabled : s.laneEnabled l = false) :
    s.adoptEnabled l = s.modLane l fun x => { x.zeroCounter with state := .off, trayEmpty := false } := by
  rw [State.adoptEnabled, state]
  exact if_neg (by simp [disabled])

/-- A lane that feeds and is no longer enabled runs out, as at a stop (R28). -/
theorem State.adoptEnabled_stoppable (state : (s.lane l).state.stoppable = true) (disabled : s.laneEnabled l = false) :
    s.adoptEnabled l = s.toRunout l := by
  rcases (LaneState.stoppable_iff _).1 state with state | state | state | state
  all_goals
    rw [State.adoptEnabled, state]
    exact if_neg (by simp [disabled])

theorem State.adoptEnabled_stays (h : (s.lane l).state = .runout ∨ (s.lane l).state = .rampDown
    ∨ (s.lane l).state = .jammed ∨ ((s.lane l).state = .off ∧ s.laneEnabled l = false)
    ∨ ((s.lane l).state ≠ .off ∧ s.laneEnabled l = true)) : s.adoptEnabled l = s := by
  unfold State.adoptEnabled
  split
  all_goals simp_all

end

/-! ### The monitor (R80, log 32) -/

/-- The monitor at step 4: a new air grid, and no calibration without a sonic sensor. -/
def Dfm.regrid (d : Dfm) (high : Nat) (sonicEnabled : Bool) : Dfm :=
  { d with gridOrigin := high, gridNext := 1, calibration := if sonicEnabled then d.calibration else .none }

theorem adoptDfm_eq (s : State) (l : LaneId) : handle (.adoptDfm l) s =
    ((s.modDfm l fun d => d.regrid (s.lane l).high (s.laneRec l).sonicEnabled).evalDrift l, [.speedCheck l]) := rfl

theorem State.evalDrift_raw (s : State) (l : LaneId) :
    ((s.evalDrift l).event Ev.sonicDrift).raw.getLsbD l.val = (s.lane l).dfm.drift :=
  State.setRaw_raw _ (Ev.lane_source (by decide) l) _

theorem Dfm.regrid_drift (d : Dfm) (high : Nat) : (d.regrid high false).drift = false := rfl

/-! ### The sequencer (R150) -/

/-- A context that is not opened takes the class. -/
theorem Batch.ite_opened (b : Batch) (c : Fin 32) : (if b.opened then b else { b with cls := c })
    = { b with cls := if b.opened then b.cls else c } := by
  by_cases opened : b.opened = true
  · rw [if_pos opened, if_pos opened]
  · rw [if_neg opened, if_neg opened]

/-- Settles O51: each sub-act of an adoption by its own lemma. -/
theorem adoptionSwitchesLane : Obligations.AdoptionSwitchesLane := by
  intro s l
  refine ⟨fun g role left => ?switch, adopt_nothing, fun pending left moment => ?taken, fun h => ?passed,
    fun _ => adoptChannels_same, fun _ => adoptChannels_changed,
    fun c f hf => ⟨fun enabled changed => ?fill, fun h => ?kept⟩, ?ltc, ?dfm, ?lsq, rfl, rfl⟩
  case switch =>
    refine ⟨_, _, adopt_switched role left, s.switchTo_lane_self l g, s.switchTo_otherLanes l g, rfl, rfl,
      (s.lane l).batch.seqState.retry l, (s.switchTo l g).adoptLast, rfl, fun token waits => ?_, fun idle => ?_,
      fun others => ?_, fun ⟨m, hm, waits⟩ => ?_⟩
    · rw [waits]
      rfl
    · rw [idle]
      rfl
    · exact if_pos ((s.switchTo_allAdopted l g).2 others)
    · refine if_neg fun all => ?_
      rw [(s.switchTo_allAdopted l g).1 all m hm] at waits
      cases waits
  case taken => exact adoptMoment_taken ((s.mayAdopt_iff l).2 ⟨pending, left⟩) ((s.atMoment_iff l).2 moment)
  case passed =>
    refine adoptMoment_passed ?_
    rw [State.mayAdopt_iff, State.atMoment_iff]
    rintro ⟨⟨⟨g, role⟩, left⟩, moment⟩
    rcases h with none | adopted | ⟨on, busy⟩
    · exact none g role
    · rw [adopted] at left
      cases left
    · obtain ⟨idle, slots, pages⟩ := moment.resolve_left on
      rcases busy with other | some | ⟨i, p, page, lane⟩
      · exact other idle
      · exact some slots
      · exact pages i p page lane
  case fill =>
    have new : s.newFillState c = f := by rw [State.newFillState, if_pos enabled, hf]
    have ran := fillEval_changed (s := s) (c := c) (by rwa [new])
    rw [new] at ran
    refine ⟨_, ran, ?_, fun d hd => ?_, s.setFillState_near c f, s.setFillState_full c f, s.setFillState_frame c f⟩
    · rw [chan_of_channels (s.setFillState_channels c f), State.setChan_chan_self]
    · rw [chan_of_channels (s.setFillState_channels c f), State.setChan_otherChannels s c _ d hd]
  case kept =>
    refine fillEval_kept ?_
    rw [State.newFillState]
    split
    · rename_i enabled
      rw [← hf]
      exact h.resolve_left (by simp [enabled])
    · rfl
  case ltc =>
    obtain ⟨f, changed, gen⟩ := s.adoptEnabled_modLane l
    have lanes : ((s.adoptEnabled l).evalHeadDown l).lanes = (s.adoptEnabled l).lanes := State.evalHeadDown_lanes _ _
    have lane := lane_of_lanes lanes
    refine ⟨_, rfl, fun off enabled => ?_, fun idle disabled => ?_, fun feeds disabled => ?_, fun stays => ?_, ?_,
      fun m hm => ?_, ?_⟩
    · rw [lane, State.adoptEnabled_off off enabled, State.modLane_lane_self]
    · rw [lane, State.adoptEnabled_idle idle disabled, State.modLane_lane_self]
    · have stops := (LaneState.stoppable_iff _).2 feeds
      rw [lane, State.adoptEnabled_stoppable stops disabled, handle_enterRunout, onEnterRunout_of_stoppable stops]
    · rw [lane, State.adoptEnabled_stays stays]
    · have enabled : (s.adoptEnabled l).laneEnabled l = s.laneEnabled l := by
        rw [changed, State.laneEnabled, State.modLane_laneRec s l l gen, State.laneEnabled]
      have link : (s.adoptEnabled l).linkUp (.head l) = s.linkUp (.head l) := by
        rw [changed]
        rfl
      rw [← enabled, ← link]
      exact State.setRaw_raw _ (Ev.lane_source (by decide) l) _
    · rw [lane, changed, State.modLane_otherLanes s l f m hm]
    · rw [State.evalHeadDown_frame, changed]
      rfl
  case dfm =>
    refine ⟨_, adoptDfm_eq s l, fun d hd => ⟨?_, ?_⟩, fun none => ?_, fun m hm => ?_, ?_⟩
    · rw [State.evalDrift_lane_self, State.modDfm_lane_self, hd]
      rfl
    · rw [State.evalDrift_raw, State.modDfm_lane_self, hd]
      rfl
    · rw [State.evalDrift_lane_self, State.modDfm_lane_self, none]
      exact (s.lane l).dfm.regrid_drift (s.lane l).high
    · rw [State.evalDrift_lane_ne _ hm, State.modDfm_lane_ne _ _ _ _ hm.symm]
    · rw [State.evalDrift_frame]
      rfl
  case lsq =>
    refine ⟨_, rfl, (s.modLane_lane_self l _).trans ?_, s.modLane_otherLanes l _, rfl⟩
    exact congrArg (fun b => { s.lane l with batch := b }) ((s.lane l).batch.ite_opened (s.profileRec l).defaultClass)

end Sys2Proof.Machine
end

section
/-! The Event Reporter (R193, R194, R195, R196): an occurrence, a change of a raw level, the class that is reported next,
EVENT_SET and EVENT_CLEAR. -/

namespace Sys2Proof.Machine

/- One proof after another: every thread of a parallel elaboration reserves memory, which the check limits. -/
set_option Elab.async false

/-! ### Occurrences and raw levels (R193) -/

theorem sourceBit_getLsbD {src : Nat} (h : src < 16) (j : Nat) : (sourceBit src).getLsbD j = decide (j = src) := by
  simp only [sourceBit, BitVec.getLsbD_shiftLeft, BitVec.getLsbD_one]
  by_cases e : j = src
  · simp [e, h]
  · have apart : j < src ∨ j - src ≠ 0 := by omega
    rcases apart with below | above
    · simp [below, e]
    · simp [above, e]

theorem EventState.occur_getLsbD (e : EventState) {src : Nat} (h : src < 16) (j : Nat) :
    (e.occur src).sources.getLsbD j = (e.sources.getLsbD j || decide (j = src)) := by
  rw [EventState.occur, BitVec.getLsbD_or, sourceBit_getLsbD h]

/-- An occurrence reads nothing of the raw set. -/
theorem EventState.occur_raised (e : EventState) (raw : BitVec 16) (src : Nat) :
    ({ e with raw := raw } : EventState).occur src = { e.occur src with raw := raw } := rfl

/-- A source that a class does not have changes nothing. -/
theorem State.occur_of_no_source (s : State) {c : Fin 20} {src : Nat} (h : Ev.sourceCount c ≤ src) : s.occur c src = s :=
  if_neg (by omega)

theorem State.setRaw_of_no_source (s : State) {c : Fin 20} {src : Nat} (h : Ev.sourceCount c ≤ src) (level : Bool) :
    s.setRaw c src level = s := if_pos h

/-- A raw level that is as it was changes nothing. -/
theorem State.setRaw_same (s : State) (c : Fin 20) (src : Nat) : s.setRaw c src ((s.event c).raw.getLsbD src) = s := by
  rw [State.setRaw, if_pos (c := _ = _) rfl, ite_self]

/-- A level that is low leaves the raw set, and nothing else of its class changes. -/
theorem State.setRaw_low (s : State) {c : Fin 20} {src : Nat} (source : src < Ev.sourceCount c) :
    (s.setRaw c src false).event c = { s.event c with raw := (s.event c).raw &&& ~~~ sourceBit src } := by
  cases was : (s.event c).raw.getLsbD src with
  | true => rw [State.setRaw, if_neg (by omega), if_neg (by simp [was]), if_neg (by simp), State.setEvent_event_self]
  | false =>
    have out : (s.event c).raw &&& ~~~ sourceBit src = (s.event c).raw := by
      refine BitVec.eq_of_getLsbD_eq fun j hj => ?_
      rw [BitVec.getLsbD_and, BitVec.getLsbD_not, sourceBit_getLsbD (Ev.source_lt source)]
      by_cases e : j = src
      · simp [e, was]
      · simp [e, hj]
    have same := s.setRaw_same c src
    rw [was] at same
    rw [same, out]

/-! ### The class that is reported next (R196) -/

/-- Of two pending classes the reports of `c` go out before those of `d`, or they are one. -/
def State.ReportsBefore (s : State) (c d : Fin 20) : Prop :=
  (s.event d).priority < (s.event c).priority ∨ ((s.event d).priority = (s.event c).priority ∧ c ≤ d)

theorem State.ReportsBefore.antisymm {s : State} {c d : Fin 20} (h : s.ReportsBefore c d) (k : s.ReportsBefore d c) :
    c = d := by
  unfold ReportsBefore at h k
  omega

/-- The better of the best class so far and the next one. -/
def State.nextReport (s : State) (best : Option (Fin 20)) (c : Fin 20) : Option (Fin 20) :=
  if (s.event c).reportPending then
    match best with
    | some b => if (s.event b).priority < (s.event c).priority then some c else some b
    | none => some c
  else best

theorem State.reportChoice_eq (s : State) : s.reportChoice = (List.finRange 20).foldl s.nextReport none := rfl

/-- The choice among the classes of a list: none when none is pending. -/
def State.ChoiceAmong (s : State) (cs : List (Fin 20)) : Option (Fin 20) → Prop
  | some c => c ∈ cs ∧ (s.event c).reportPending = true ∧ ∀ d ∈ cs, (s.event d).reportPending = true → s.ReportsBefore c d
  | none => ∀ d ∈ cs, (s.event d).reportPending = false

/-- A class with an index above those before it is the choice when its priority is higher. -/
theorem State.ChoiceAmong.next {s : State} {cs : List (Fin 20)} {best : Option (Fin 20)} (h : s.ChoiceAmong cs best)
    {c : Fin 20} (above : ∀ d ∈ cs, d < c) : s.ChoiceAmong (cs ++ [c]) (s.nextReport best c) := by
  unfold State.nextReport
  split_ifs with pending
  · cases best with
    | none =>
      refine ⟨by simp, pending, fun d hd hp => ?_⟩
      rcases List.mem_append.1 hd with before | last
      · rw [h d before] at hp
        cases hp
      · rw [List.mem_singleton.1 last]
        exact .inr ⟨rfl, le_rfl⟩
    | some b =>
      obtain ⟨mem, bp, first⟩ := h
      dsimp only
      split_ifs with higher
      · refine ⟨by simp, pending, fun d hd hp => ?_⟩
        rcases List.mem_append.1 hd with before | last
        · have := first d before hp
          unfold ReportsBefore at this ⊢
          omega
        · rw [List.mem_singleton.1 last]
          exact .inr ⟨rfl, le_rfl⟩
      · refine ⟨by simp [mem], bp, fun d hd hp => ?_⟩
        rcases List.mem_append.1 hd with before | last
        · exact first d before hp
        · rw [List.mem_singleton.1 last]
          have := above b mem
          unfold ReportsBefore
          omega
  · have free : (s.event c).reportPending = false := by simpa using pending
    cases best with
    | none =>
      intro d hd
      rcases List.mem_append.1 hd with before | last
      · exact h d before
      · rw [List.mem_singleton.1 last, free]
    | some b =>
      obtain ⟨mem, bp, first⟩ := h
      refine ⟨by simp [mem], bp, fun d hd hp => ?_⟩
      rcases List.mem_append.1 hd with before | last
      · exact first d before hp
      · rw [List.mem_singleton.1 last, free] at hp
        cases hp

theorem State.foldl_nextReport (s : State) (cs : List (Fin 20)) (ascending : cs.Pairwise (· < ·)) :
    s.ChoiceAmong cs (cs.foldl s.nextReport none) := by
  induction cs using List.reverseRecOn with
  | nil => exact nofun
  | append_singleton cs c ih =>
    obtain ⟨before, _, above⟩ := List.pairwise_append.1 ascending
    rw [List.foldl_append]
    exact (ih before).next fun d hd => above d hd c (List.mem_singleton_self c)

/-- The class reported next is the pending one that comes before all others. -/
theorem State.reportChoice_eq_some (s : State) (c : Fin 20) : s.reportChoice = some c ↔
    (s.event c).reportPending = true ∧ ∀ d, (s.event d).reportPending = true → s.ReportsBefore c d := by
  have choice := s.foldl_nextReport (List.finRange 20) (List.pairwise_lt_finRange 20)
  rw [← s.reportChoice_eq] at choice
  cases found : s.reportChoice with
  | none =>
    rw [found] at choice
    refine iff_of_false nofun fun h => ?_
    have := choice c (List.mem_finRange c)
    rw [h.1] at this
    cases this
  | some b =>
    rw [found] at choice
    obtain ⟨_, pending, first⟩ := choice
    rw [Option.some.injEq]
    constructor
    · rintro rfl
      exact ⟨pending, fun d => first d (List.mem_finRange d)⟩
    · exact fun h => (first c (List.mem_finRange c) h.1).antisymm (h.2 b pending)

/-- Settles O57: an occurrence by its fields, a rise as an occurrence, a fall as a change of the raw set, and the choice
as the first of the pending classes. -/
theorem occurrencesLatch : Obligations.OccurrencesLatch := by
  refine ⟨fun s c src source => ?_, fun s c src level outside => ?_, State.reportChoice_eq_some⟩
  · have bit := Ev.source_lt source
    have low := s.setRaw_low source
    rw [State.occur_event_self s source]
    refine ⟨rfl, EventState.occur_getLsbD _ bit, rfl, rfl, rfl, s.occur_frame c src,
      fun d hd => s.occur_event_ne src hd, fun was => ?_, s.setRaw_raw source false, ?_, ?_, ?_, ?_,
      s.setRaw_same c src⟩
    · rw [s.setRaw_raw source true, State.setRaw_rise source was, EventState.occur_raised]
      exact ⟨rfl, rfl, rfl, rfl, rfl⟩
    all_goals rw [low]
  · exact ⟨s.occur_of_no_source outside, s.setRaw_of_no_source outside level⟩

end Sys2Proof.Machine
end

section
/-! EVENT_SET and EVENT_CLEAR (R194, R195): what each writes of its class, and when it is refused. -/

namespace Sys2Proof.Machine

/- One proof after another: every thread of a parallel elaboration reserves memory, which the check limits. -/
set_option Elab.async false

/-! ### What a class becomes -/

section
variable (e : EventState) (named : BitVec 16)

/-- The named sources leave the set. -/
theorem EventState.cleared_sources : (e.cleared named).sources = e.sources &&& ~~~ named := by
  unfold EventState.cleared
  split_ifs with last
  · exact last.symm
  · rfl

theorem EventState.cleared_keeps : (e.cleared named).raw = e.raw ∧ (e.cleared named).enabled = e.enabled
    ∧ (e.cleared named).priority = e.priority := by
  unfold EventState.cleared
  split_ifs <;> exact ⟨rfl, rfl, rfl⟩

/-- The last source clears the latch, the count and the report. -/
theorem EventState.cleared_of_last (last : (e.cleared named).sources = 0) :
    (e.cleared named).latch = false ∧ (e.cleared named).count = 0 ∧ (e.cleared named).reportPending = false := by
  rw [EventState.cleared_sources] at last
  rw [EventState.cleared, if_pos last]
  exact ⟨rfl, rfl, rfl⟩

theorem EventState.cleared_of_more (more : (e.cleared named).sources ≠ 0) :
    (e.cleared named).latch = e.latch ∧ (e.cleared named).count = e.count
      ∧ (e.cleared named).reportPending = e.reportPending := by
  rw [EventState.cleared_sources] at more
  rw [EventState.cleared, if_neg more]
  exact ⟨rfl, rfl, rfl⟩

end

/-- The sources left are those that the request does not name. -/
theorem EventState.cleared_getLsbD (e : EventState) (named j : Nat) :
    (e.cleared (BitVec.ofNat 16 named)).sources.getLsbD j = (e.sources.getLsbD j && !named.testBit j) := by
  rw [EventState.cleared_sources, BitVec.getLsbD_and, BitVec.getLsbD_not, BitVec.getLsbD_ofNat]
  by_cases inside : j < 16
  · simp [inside]
  · simp [BitVec.getLsbD_of_ge e.sources j (by omega)]

/-! ### The operands (section 11.5) -/

theorem classOf_of_eq {n : Nat} {c : Fin 20} (h : n = c.val) : classOf n = some c := by
  rw [h, classOf, dif_pos c.isLt]

theorem classOf_above {n : Nat} (h : 19 < n) : classOf n = none := by
  rw [classOf, dif_neg (by omega)]

theorem field_first (a : Byte) (bs : List Byte) : field (a :: bs) 0 1 = a.toNat := by
  simp [field, ofLe]

theorem field_second (a b : Byte) (bs : List Byte) : field (a :: b :: bs) 1 1 = b.toNat := by
  simp [field, ofLe]

theorem field_third (a b c : Byte) (bs : List Byte) : field (a :: b :: c :: bs) 2 1 = c.toNat := by
  simp [field, ofLe]

theorem field_second_pair (a b c : Byte) (bs : List Byte) :
    field (a :: b :: c :: bs) 1 2 = b.toNat + 256 * c.toNat := by
  simp [field, ofLe]

/-- A mask byte enables its class by its lowest bit. -/
theorem flagAt_second (a b : Byte) (bs : List Byte) : flagAt (a :: b :: bs) 1 0 = b.getLsbD 0 := by
  rw [flagAt, field_second]
  rfl

section
variable {cls mask prio : Byte} {c : Fin 20}

theorem bodyEventSet_of_class (named : cls.toNat = c.val) (low : prio.toNat < 4) (s : State) :
    bodyEventSet [cls, mask, prio] s =
      .plain ((s.setEvent c ((s.event c).configured (mask.getLsbD 0) ⟨prio.toNat, low⟩), []), .ok) := by
  rw [bodyEventSet, sized, if_pos (by rfl), field_first, classOf_of_eq named]
  simp only [field_third, flagAt_second, low, dif_pos]

theorem bodyEventSet_range (range : 19 < cls.toNat ∨ 3 < prio.toNat) (s : State) :
    bodyEventSet [cls, mask, prio] s = .refuse s .range := by
  rw [bodyEventSet, sized, if_pos (by rfl), field_first]
  split
  · rename_i c named
    rw [field_third]
    refine dif_neg fun low => ?_
    rw [classOf_above (range.resolve_right (by omega))] at named
    cases named
  · rfl

end

section
variable {cls lo hi : Byte} {c : Fin 20}

theorem bodyEventClear_of_class (numbered : cls.toNat = c.val) (inside : lo.toNat + 256 * hi.toNat < 2 ^ Ev.sourceCount c)
    (s : State) : bodyEventClear [cls, lo, hi] s =
      .plain ((s.setEvent c ((s.event c).cleared (BitVec.ofNat 16 (lo.toNat + 256 * hi.toNat))), []), .ok) := by
  rw [bodyEventClear, sized, if_pos (by rfl), field_first, classOf_of_eq numbered, field_second_pair]
  exact if_neg (by omega)

theorem bodyEventClear_range (range : 19 < cls.toNat
      ∨ ∃ c : Fin 20, cls.toNat = c.val ∧ 2 ^ Ev.sourceCount c ≤ lo.toNat + 256 * hi.toNat) (s : State) :
    bodyEventClear [cls, lo, hi] s = .refuse s .range := by
  rw [bodyEventClear, sized, if_pos (by rfl), field_first, field_second_pair]
  rcases range with above | ⟨c, numbered, foreign⟩
  · rw [classOf_above above]
  · rw [classOf_of_eq numbered]
    exact if_pos foreign

end

/-! ### Carrying them out -/

/-- A reply that waits is beside the paper and the tables. -/
theorem State.answered_keeps (u : State) (k : Trunk) (r : Request) (st : Status) :
    SamePaper u (u.answered k r st) ∧ SameTables u (u.answered k r st) := by
  cases k <;> exact ⟨⟨rfl, rfl, rfl, rfl, rfl, rfl⟩, rfl, rfl, rfl, rfl, rfl, rfl⟩

theorem State.setEvent_keeps (u : State) (c : Fin 20) (x : EventState) :
    SamePaper u (u.setEvent c x) ∧ SameTables u (u.setEvent c x) :=
  ⟨⟨rfl, rfl, rfl, rfl, rfl, rfl⟩, rfl, rfl, rfl, rfl, rfl, rfl⟩

/-- A request that writes one event class: the first state of its act, and its reply. -/
theorem begins_eventWritten {i : Instr} {s : State} {k : Trunk} {r : Request} {c : Fin 20} {x : EventState}
    (ran : exec i s = act (((s.takeOff k).setEvent c x).answered k r .ok, [])) :
    (∃ s1, Begins i s s1 [] ∧ s1.event c = x ∧ (∀ d, d ≠ c → s1.event d = s.event d) ∧ SamePaper s s1 ∧ SameTables s s1)
      ∧ Completes i s fun t => Replied s t k r .ok [] := by
  obtain ⟨paper, tables, _, _⟩ := s.takeOff_untouched k
  obtain ⟨paper', tables'⟩ := (s.takeOff k).setEvent_keeps c x
  obtain ⟨paper'', tables''⟩ := ((s.takeOff k).setEvent c x).answered_keeps k r .ok
  have replied : Replied s (settle (((s.takeOff k).setEvent c x).answered k r .ok, [])) k r .ok [] :=
    settle_giveReply_replied (u := (s.takeOff k).setEvent c x) (fun _ => State.setEvent_trunk _ _ _ _)
      (State.takeOff_lastServed s k)
  refine ⟨⟨_, ran, ?_, fun d hd => ?_, (paper.trans paper').trans paper'',
    (tables.trans tables').trans tables''⟩, _, ran, replied⟩
  · rw [State.answered_event, State.setEvent_event_self]
  · rw [State.answered_event, State.setEvent_event_ne _ _ _ _ hd.symm, State.takeOff_event]

/-- Settles O56: the class that the request names is configured or cleared, or the request is refused. -/
theorem eventSetAndClear : Obligations.EventSetAndClear := by
  refine ⟨fun s k tag cls mask prio next => ⟨fun c named low => ?set, fun range => ?setRange⟩,
    fun s k tag cls lo hi named next value => ⟨fun c numbered inside => ?clear, fun range => ?clearRange⟩⟩
  case set =>
    have ran : exec .eventSet s = _ :=
      serve_answered (want := Request.isKind 11) next rfl (bodyEventSet_of_class named low (s.takeOff k))
    obtain ⟨⟨s1, begun, event, others, paper, tables⟩, replied⟩ := begins_eventWritten ran
    rw [State.takeOff_event] at event
    refine ⟨⟨s1, begun, ?_⟩, replied⟩
    rw [event]
    exact ⟨rfl, rfl, rfl, rfl, rfl, rfl, rfl, others, paper, tables⟩
  case setRange =>
    exact completes_untouched
      (serve_answered (want := Request.isKind 11) next rfl (bodyEventSet_range range (s.takeOff k)))
  case clear =>
    subst value
    have ran : exec .eventClear s = _ :=
      serve_answered (want := Request.isKind 12) next rfl (bodyEventClear_of_class numbered inside (s.takeOff k))
    obtain ⟨⟨s1, begun, event, others, paper, tables⟩, replied⟩ := begins_eventWritten ran
    rw [State.takeOff_event] at event
    refine ⟨⟨s1, begun, ?_⟩, replied⟩
    rw [event]
    obtain ⟨raw, enabled, priority⟩ := (s.event c).cleared_keeps (BitVec.ofNat 16 (lo.toNat + 256 * hi.toNat))
    exact ⟨EventState.cleared_getLsbD _ _, EventState.cleared_of_last _ _, EventState.cleared_of_more _ _, raw,
      enabled, priority, others, paper, tables⟩
  case clearRange =>
    subst value
    exact completes_untouched
      (serve_answered (want := Request.isKind 12) next rfl (bodyEventClear_range range (s.takeOff k)))

end Sys2Proof.Machine
end

section
/-! The requests of the two trunks (R184, R185, R186, R189, R191): how one joins its queue, which one is taken next, and
which are refused for their form. -/

namespace Sys2Proof.Machine

/- One proof after another: every thread of a parallel elaboration reserves memory, which the check limits. -/
set_option Elab.async false

theorem otherTrunk_ne (k : Trunk) : otherTrunk k ≠ k := by cases k <;> decide

/-- A trunk is the one or the other. -/
theorem eq_or_otherTrunk (j k : Trunk) : j = k ∨ j = otherTrunk k := by
  cases j <;> cases k <;> simp [otherTrunk]

/-! ### Joining a queue (R184, R189) -/

/-- The state when a request cell has been taken on an UP link. -/
def State.requestTaken (s : State) (k : Trunk) (r : Request) : State := (takeRequest k r (s.trunkReceived k)).1

section
variable {s : State} {k : Trunk} {r : Request}

theorem State.requestTaken_frame (s : State) (k : Trunk) (r : Request) : s.requestTaken k r =
    { s with
      trunkA := (s.requestTaken k r).trunkA, trunkB := (s.requestTaken k r).trunkB
      mgmtTrunk := (s.requestTaken k r).mgmtTrunk } := by
  unfold State.requestTaken takeRequest
  split_ifs <;> cases k <;> rfl

theorem State.requestTaken_trunk_other (s : State) (k : Trunk) (r : Request) :
    (s.requestTaken k r).trunk (otherTrunk k) = s.trunk (otherTrunk k) := by
  unfold State.requestTaken takeRequest
  split_ifs <;> cases k <;> rfl

/-- A request joins a queue that has room, and its trunk becomes the management trunk. -/
theorem State.requestTaken_of_room (room : (s.trunk k).requests.length < 4) :
    (s.requestTaken k r).trunk k =
        { s.trunk k with link := (s.trunk k).link.validCell, requests := (s.trunk k).requests ++ [r] }
      ∧ (s.requestTaken k r).mgmtTrunk = k := by
  have taken : s.requestTaken k r = { (s.trunkReceived k).setTrunk k
      { (s.trunkReceived k).trunk k with requests := ((s.trunkReceived k).trunk k).requests ++ [r] } with
      mgmtTrunk := k } := by
    rw [State.requestTaken, takeRequest, if_pos (by rw [State.trunkReceived_trunk_self]; exact room)]
  refine ⟨?_, by rw [taken]⟩
  rw [taken]
  cases k <;> rfl

/-- A queue of 4 takes no more: the request is discarded and counted. -/
theorem State.requestTaken_of_full (full : 4 ≤ (s.trunk k).requests.length) :
    (s.requestTaken k r).trunk k =
        { s.trunk k with link := (s.trunk k).link.validCell, discards := min 255 ((s.trunk k).discards + 1) }
      ∧ (s.requestTaken k r).mgmtTrunk = s.mgmtTrunk := by
  have taken : s.requestTaken k r = (s.trunkReceived k).setTrunk k
      { (s.trunkReceived k).trunk k with discards := min 255 (((s.trunkReceived k).trunk k).discards + 1) } := by
    rw [State.requestTaken, takeRequest, if_neg (by rw [State.trunkReceived_trunk_self]; exact Nat.not_lt.2 full)]
  refine ⟨?_, ?_⟩
  · rw [taken, State.setTrunk_trunk_self, State.trunkReceived_trunk_self]
  · rw [taken, State.setTrunk_mgmtTrunk, State.trunkReceived_frame]

/-- What the act of a request cell leaves: the state in which it is taken, but for the transmit slots. -/
theorem completes_requestTaken (up : s.linkUp (.trunk k) = true) :
    Completes (.request k r.kind r.tag r.payload) s fun t => t.mgmtTrunk = (s.requestTaken k r).mgmtTrunk
      ∧ (∀ j, (t.trunk j).requests = ((s.requestTaken k r).trunk j).requests
        ∧ (t.trunk j).discards = ((s.requestTaken k r).trunk j).discards
        ∧ (t.trunk j).reply = ((s.requestTaken k r).trunk j).reply)
      ∧ SamePaper s t ∧ SameTables s t ∧ SameEvents s t := by
  have acts : exec (.request k r.kind r.tag r.payload) s = act (s.requestTaken k r, []) := by
    change deliver (.trunk k) (takeRequest k r) s = _
    rw [deliver, if_pos up, ← State.trunkReceived, State.requestTaken]
    congr 1
    unfold takeRequest
    split_ifs <;> rfl
  obtain ⟨t, next, kept⟩ := completes_slots acts
  obtain ⟨_, mgmt, _, _⟩ := kept.links
  have paper := kept.paper
  have tables := kept.tables
  have events := kept.events
  rw [State.requestTaken_frame] at paper tables events
  refine ⟨t, next, mgmt, fun j => ?_, paper, tables, events⟩
  obtain ⟨_, requests, discards, reply, _⟩ := kept.port j
  exact ⟨requests, discards, reply⟩

end

/-! ### The next request (R185, R191) -/

theorem TrunkPort.servable_iff (x : TrunkPort) : x.servable = true ↔ x.requests ≠ [] ∧ x.reply = none := by
  simp [TrunkPort.servable]

theorem TrunkPort.servable_eq_false (x : TrunkPort) : x.servable = false ↔ x.requests = [] ∨ x.reply.isSome = true := by
  rw [← Bool.not_eq_true, TrunkPort.servable_iff, not_and_or, not_not, ← ne_eq, Option.ne_none_iff_isSome]

theorem State.resetWaits_eq_false (s : State) :
    s.resetWaits = false ↔ ∀ j q, (s.trunk j).reply = some q → q.reset = none := by
  have waits (o : Option Reply) : (o.bind Reply.reset).isSome = false ↔ ∀ q, o = some q → q.reset = none := by
    cases o <;> simp
  rw [State.resetWaits, Bool.or_eq_false_iff, waits, waits]
  refine ⟨fun ⟨a, b⟩ j => ?_, fun h => ⟨h .a, h .b⟩⟩
  cases j
  · exact a
  · exact b

/-- The trunk served next is servable, and is the one served last only when the other is not servable. -/
theorem State.nextTrunk_eq_some (s : State) (k : Trunk) : s.nextTrunk = some k ↔ s.resetWaits = false
    ∧ (s.trunk k).servable = true ∧ (k = s.lastServed → (s.trunk (otherTrunk k)).servable = false) := by
  unfold State.nextTrunk
  cases s.resetWaits with
  | true => simp
  | false =>
    have apart := otherTrunk_ne s.lastServed
    rcases eq_or_otherTrunk k s.lastServed with rfl | rfl
    · cases other : (s.trunk (otherTrunk s.lastServed)).servable <;>
        cases own : (s.trunk s.lastServed).servable <;> simp [apart]
    · cases other : (s.trunk (otherTrunk s.lastServed)).servable <;>
        cases own : (s.trunk s.lastServed).servable <;> simp [apart, apart.symm]

/-- The request taken next is the oldest of its queue. -/
theorem State.nextRequest_eq_some (s : State) (k : Trunk) (r : Request) : s.nextRequest = some (k, r) ↔
    s.nextTrunk = some k ∧ (s.trunk k).requests.head? = some r := by
  unfold State.nextRequest
  cases s.nextTrunk with
  | none => simp
  | some t =>
    rw [Option.map_eq_some_iff, Option.some.injEq]
    constructor
    · rintro ⟨q, head, same⟩
      cases same
      exact ⟨rfl, head⟩
    · rintro ⟨rfl, head⟩
      exact ⟨r, head, rfl⟩

/-- Settles O53: a request by the length of its queue and the state of its link, the next one by the trunk served. -/
theorem requestsQueueAndAlternate : Obligations.RequestsQueueAndAlternate := by
  refine ⟨fun s k kind tag payload => ⟨fun up room => ?room, fun up full => ?full, fun down => ?down⟩,
    fun s k r => ?next⟩
  case room =>
    obtain ⟨t, ran, mgmt, ports, paper, tables, events⟩ := completes_requestTaken (r := ⟨kind, tag, payload⟩) up
    obtain ⟨trunk, manages⟩ := State.requestTaken_of_room (r := ⟨kind, tag, payload⟩) room
    obtain ⟨requests, discards, reply⟩ := ports k
    obtain ⟨requests', _, reply'⟩ := ports (otherTrunk k)
    rw [trunk] at requests discards reply
    rw [State.requestTaken_trunk_other] at requests' reply'
    refine ⟨t, ran, requests, mgmt.trans manages, discards, requests', fun j => ?_, paper, tables, events⟩
    rcases eq_or_otherTrunk j k with rfl | rfl
    · exact reply
    · exact reply'
  case full =>
    obtain ⟨t, ran, mgmt, ports, paper, tables, events⟩ := completes_requestTaken (r := ⟨kind, tag, payload⟩) up
    obtain ⟨trunk, manages⟩ := State.requestTaken_of_full (r := ⟨kind, tag, payload⟩) full
    obtain ⟨requests, discards, reply⟩ := ports k
    obtain ⟨requests', discards', reply'⟩ := ports (otherTrunk k)
    rw [trunk] at requests discards reply
    rw [State.requestTaken_trunk_other] at requests' discards' reply'
    refine ⟨t, ran, requests, discards, mgmt.trans manages, requests', discards', fun j => ?_, paper, tables, events⟩
    rcases eq_or_otherTrunk j k with rfl | rfl
    · exact reply
    · exact reply'
  case down =>
    have next : exec (.request k kind tag payload) s = .next (s.trunkReceived k) := by
      change deliver (.trunk k) _ s = _
      rw [deliver, if_neg (by simp [down]), ← State.trunkReceived]
    refine ⟨_, next, ?_, ?_, ?_, s.trunkReceived_trunk_other k, s.trunkReceived_frame k⟩
    all_goals rw [State.trunkReceived_trunk_self]
    exact Link.validCell_state _
  case next =>
    rw [State.nextRequest_eq_some, State.nextTrunk_eq_some, State.resetWaits_eq_false, TrunkPort.servable_iff,
      TrunkPort.servable_eq_false]
    constructor
    · rintro ⟨⟨noReset, ⟨_, free⟩, alternates⟩, head⟩
      exact ⟨noReset, free, head, alternates⟩
    · rintro ⟨noReset, free, head, alternates⟩
      exact ⟨⟨noReset, ⟨fun empty => by simp [empty] at head, free⟩, alternates⟩, head⟩

/-! ### Requests of a wrong form (R26, R186, R201) -/

section
variable {s : State} {k : Trunk} {r : Request} {want : Request → Bool}

/-- A payload of another length than the kind's is refused. -/
theorem serve_sized_refused {n : Nat} {body : List Byte → State → Answer} (next : s.nextRequest = some (k, r))
    (row : want r = true) (size : r.payload.length ≠ n) :
    serve want (sized n body) s = act ((s.takeOff k).answered k r .range, []) :=
  serve_answered next row (if_neg size)

/-- A byte above 5 names no lane. -/
theorem serve_lane_refused {b : Byte} {f : LaneId → State → Move × Status} (next : s.nextRequest = some (k, r))
    (row : want r = true) (payload : r.payload = [b]) (above : 5 < b.toNat) :
    serve want (bodyLane f) s = act ((s.takeOff k).answered k r .range, []) := by
  refine serve_answered next row ?_
  rw [bodyLane, sized, payload, if_pos (by rfl), field_first, laneOf_above above]
  rfl

theorem isResolve_of_length (a : Nat) (kind : r.kind = 7) (size : r.payload.length ≠ 3) :
    Request.isResolve a r = true := by
  simp [Request.isResolve, Request.isKind, kind, size]

theorem isReset_of_length (n : Nat) (kind : r.kind = 10) (size : r.payload.length ≠ 1) :
    Request.isReset n r = true := by
  simp [Request.isReset, Request.isKind, kind, size]

end

/-- Settles O29: each row refuses a request of its kind with another length, the four lane rows one that names no lane,
and the row of unknown kinds every request. -/
theorem malformedRequestsRefused : Obligations.MalformedRequestsRefused := by
  refine ⟨fun s k r i next form => completes_untouched ?_, fun s k r next unknown => completes_untouched ?_⟩
  · rcases form with ⟨rfl, kind, size⟩ | ⟨rfl, kind, size⟩ | ⟨rfl, kind, size⟩ | ⟨rfl, kind, size⟩ | ⟨rfl, kind, size⟩
      | ⟨rfl, kind, size⟩ | ⟨rfl, kind, size⟩ | ⟨rfl, kind, size⟩ | ⟨rfl, kind, size⟩ | ⟨rfl, kind, size⟩
      | ⟨rfl, kind, size⟩ | ⟨rfl, kind, size⟩ | ⟨rfl, kind, size⟩ | ⟨rfl, kind, size⟩ | ⟨rfl, kind, size⟩
      | ⟨rfl, kind, size⟩ | ⟨b, above, payload, lane⟩
    · exact exec_tableLoad_short next kind size
    iterate 6 exact serve_sized_refused next (isKind_of_eq kind) size
    · exact serve_sized_refused next (isResolve_of_length 0 kind size) size
    · exact serve_sized_refused next (isResolve_of_length 1 kind size) size
    · exact serve_sized_refused next (isResolve_of_length 2 kind size) size
    iterate 2 exact serve_sized_refused next (isKind_of_eq kind) size
    · exact serve_sized_refused next (isReset_of_length 0 kind size) size
    · exact serve_sized_refused next (isReset_of_length 1 kind size) size
    iterate 2 exact serve_sized_refused next (isKind_of_eq kind) size
    · rcases lane with ⟨rfl, kind⟩ | ⟨rfl, kind⟩ | ⟨rfl, kind⟩ | ⟨rfl, kind⟩
      iterate 4 exact serve_lane_refused next (isKind_of_eq kind) payload above
  · exact serve_answered (want := Request.isUnknown) (body := fun _ s => .refuse s .unknown) (u := s.takeOff k) next
      (decide_eq_true unknown) rfl

end Sys2Proof.Machine
end

section
/-! PART_RESET and its reply (R191), and the ends of the part's transmissions (R91, R187, R196, R200). -/

namespace Sys2Proof.Machine

/- One proof after another: every thread of a parallel elaboration reserves memory, which the check limits. -/
set_option Elab.async false

/-! ### PART_RESET (R191) -/

/-- The act that gives a reply, whatever it is, leaves it waiting; the request is gone from its queue. -/
theorem settle_giveReply_port (s : State) (k : Trunk) (reply : Reply) {t : State}
    (ended : t = settle ((s.takeOff k).giveReply k reply, [])) :
    (t.trunk k).reply = some reply ∧ (t.trunk k).requests = (s.trunk k).requests.tail ∧ t.lastServed = k
      ∧ (t.trunk (otherTrunk k)).requests = (s.trunk (otherTrunk k)).requests
      ∧ (t.trunk (otherTrunk k)).reply = (s.trunk (otherTrunk k)).reply := by
  subst ended
  have settled := settle_settled ((s.takeOff k).giveReply k reply, [])
  obtain ⟨_, requests, _, replied, _⟩ := settled.port k
  obtain ⟨_, requests', _, replied', _⟩ := settled.port (otherTrunk k)
  have other : ((s.takeOff k).giveReply k reply).trunk (otherTrunk k) = s.trunk (otherTrunk k) := by
    cases k <;> rfl
  refine ⟨replied.trans ?_, requests.trans ?_, settled.lastServed.trans ?_, requests'.trans (by rw [other]),
    replied'.trans (by rw [other])⟩
  · rw [State.giveReply_trunk]
  · rw [State.giveReply_trunk, State.takeOff_trunk]
  · exact (State.giveReply_lastServed _ k reply).trans (State.takeOff_lastServed s k)

section
variable {s : State} {k : Trunk} {tag b : Byte} {n : Nat} {kind : ResetKind}

/-- The row of the kind that the byte names answers OK, with the reset that waits. -/
theorem serve_partReset (next : s.nextRequest = some (k, ⟨10, tag, [b]⟩)) (named : b.toNat = n) :
    serve (Request.isReset n) (bodyPartReset n kind) s =
      act ((s.takeOff k).giveReply k ⟨10, tag, .ok, [], some kind⟩, []) := by
  have operand : field [b] 0 1 = n := (field_first b []).trans named
  rw [serve_act next (by simp [Request.isReset, Request.isKind, operand]), bodyPartReset, sized, if_pos (by rfl),
    if_pos operand]
  rfl

/-- Both rows refuse a kind above 1 (log 3). -/
theorem serve_partReset_range (next : s.nextRequest = some (k, ⟨10, tag, [b]⟩)) (above : 1 < b.toNat) (row : n ≤ 1) :
    serve (Request.isReset n) (bodyPartReset n kind) s = act ((s.takeOff k).answered k ⟨10, tag, [b]⟩ .range, []) := by
  have operand : field [b] 0 1 = b.toNat := field_first b []
  refine serve_answered next (by simp [Request.isReset, Request.isKind, operand, above]) ?_
  rw [bodyPartReset, sized, if_pos (by rfl)]
  exact if_neg (by rw [operand]; omega)

end

/-! ### A cell handed whole to its link (R187, R196, R200) -/

/-- The trunk when its reply has gone out. -/
def State.replyGone (s : State) (k : Trunk) : State :=
  (s.freePath k).setTrunk k { (s.freePath k).trunk k with reply := none }

section
variable (s : State) (k : Trunk)

theorem State.freePath_trunk_self : (s.freePath k).trunk k = { s.trunk k with tx := none } := s.setTrunk_trunk_self k _

theorem State.freePath_trunk_other : (s.freePath k).trunk (otherTrunk k) = s.trunk (otherTrunk k) :=
  s.setTrunk_trunk_ne k _ _ (otherTrunk_ne k).symm

theorem State.replyGone_trunk_self : (s.replyGone k).trunk k = { s.trunk k with tx := none, reply := none } := by
  rw [State.replyGone, State.setTrunk_trunk_self, State.freePath_trunk_self]

theorem State.replyGone_trunk_other : (s.replyGone k).trunk (otherTrunk k) = s.trunk (otherTrunk k) := by
  rw [State.replyGone, State.setTrunk_trunk_ne _ _ _ _ (otherTrunk_ne k).symm, State.freePath_trunk_other]

theorem State.replyGone_frame :
    s.replyGone k = { s with trunkA := (s.replyGone k).trunkA, trunkB := (s.replyGone k).trunkB } := by
  cases k <;> rfl

end

section
variable {s : State} {k : Trunk} {cell : OutCell}

/-- A reply that has gone out frees the path, and the reset that it holds back takes effect (R191). -/
theorem exec_replySent (sent : (s.trunk k).tx = some ⟨.reply, cell⟩) :
    exec (.replySent k) s = act ((s.replyGone k).takeReset ((s.trunk k).reply.bind Reply.reset), []) := by
  change execReplySent k s = _
  rw [execReplySent, sent]
  rfl

theorem exec_replySent_other (other : ∀ cell, (s.trunk k).tx ≠ some ⟨.reply, cell⟩) :
    exec (.replySent k) s = .next s := by
  change execReplySent k s = _
  unfold execReplySent
  split
  · rename_i cell sent
    exact absurd sent (other cell)
  all_goals rfl

theorem exec_reportSent {c : Fin 20} (sent : (s.trunk k).tx = some ⟨.report c, cell⟩) :
    exec (.reportSent k) s = act (s.freePath k, []) := by
  change execReportSent k s = _
  rw [execReportSent, sent]

theorem exec_reportSent_other (other : ∀ c cell, (s.trunk k).tx ≠ some ⟨.report c, cell⟩) :
    exec (.reportSent k) s = .next s := by
  change execReportSent k s = _
  unfold execReportSent
  split
  · rename_i c cell sent
    exact absurd sent (other c cell)
  all_goals rfl

end

/-- Settles O55: a reset is answered and then holds back the next request; each cell that has gone out frees its path,
and where no such cell is sent nothing changes. -/
theorem repliesAndResetsGoOut : Obligations.RepliesAndResetsGoOut := by
  refine ⟨fun s k tag b i kind row next => ?reset, fun s k tag b i row above next => completes_untouched ?range,
    fun s k r cell sent reply done => ?reply, fun s k c cell sent => ?report,
    fun s k => ⟨fun other => ⟨s, exec_replySent_other other, rfl⟩, fun other => ⟨s, exec_reportSent_other other, rfl⟩⟩,
    fun s l => ?head⟩
  case reset =>
    have ran : exec i s = act ((s.takeOff k).giveReply k ⟨10, tag, .ok, [], some kind⟩, []) := by
      rcases row with ⟨rfl, rfl, rfl⟩ | ⟨rfl, rfl, rfl⟩
      · exact serve_partReset next rfl
      · exact serve_partReset next rfl
    obtain ⟨reply, requests, served, requests', reply'⟩ := settle_giveReply_port s k _ rfl
    refine ⟨_, ran, reply, requests, served, ?_, requests', reply',
      (s.takeOff_untouched k).trans (settle_giveReply_untouched _ k _)⟩
    refine Option.eq_none_iff_forall_not_mem.2 fun ⟨j, r⟩ taken => ?_
    obtain ⟨served, _⟩ := (State.nextRequest_eq_some _ j r).1 taken
    obtain ⟨noReset, _⟩ := (State.nextTrunk_eq_some _ j).1 served
    cases (State.resetWaits_eq_false _).1 noReset k _ reply
  case range =>
    rcases row with rfl | rfl
    · exact serve_partReset_range next above (by omega)
    · exact serve_partReset_range next above le_rfl
  case reply =>
    have ran := exec_replySent sent
    rw [reply, Option.bind_some, done] at ran
    exact ⟨_, ran, s.replyGone_trunk_self k, s.replyGone_trunk_other k, s.replyGone_frame k⟩
  case report =>
    exact ⟨_, exec_reportSent sent, s.freePath_trunk_self k, s.freePath_trunk_other k, s.freePath_frame k⟩
  case head =>
    refine ⟨_, rfl, ?_, ?_, ?_, fun m hm => State.setHead_head_ne s l m _ hm.symm, rfl⟩
    all_goals rw [State.setHead_head_self]

end Sys2Proof.Machine
end

section
/-! The status records (R190, R202, section 11.5): the bytes of each are those of its fields, in their order. -/

namespace Sys2Proof.Machine

/- One proof after another: every thread of a parallel elaboration reserves memory, which the check limits. -/
set_option Elab.async false

/-! ### Codes are places in the lists of section 11.4 -/

theorem LaneState.code_eq (x : LaneState) : x.code =
    codeIn [.off, .idle, .rampUp, .feeding, .holding, .retryWait, .runout, .rampDown, .jammed] x := by
  cases x <;> rfl

theorem PageState.code_eq (x : PageState) : x.code = codeIn [.picked, .inPath, .ready, .held, .queued] x + 1 := by
  cases x <;> rfl

theorem headKindOf_eq (x : PageState) : headKindOf x = codeIn [.queued, .picked, .inPath, .held, .ready] x := by
  cases x <;> rfl

theorem Verdict.code_eq (x : Verdict) :
    x.code = codeIn [.clean, .unverified, .short, .long, .double, .truncated, .lost] x := by
  cases x <;> rfl

theorem Action.code_eq (x : Action) : x.code = codeIn [.pass, .hold, .stop] x := by cases x <;> rfl

theorem HoldReason.code_eq (x : HoldReason) : x.code = codeIn [.verdict, .jam] x := by cases x <;> rfl

theorem JamCause.code_eq (x : JamCause) :
    x.code = codeIn [.dwell, .reverse, .overrun, .positionLimit, .runoutTimeout, .halt] x := by
  cases x <;> rfl

theorem Image.code_eq (x : Image) : x.code = codeIn [.notOpen, .opened, .closed] x := by cases x <;> rfl

theorem GateProgress.code_eq (x : GateProgress) : x.code = codeIn [.none, .opened, .closed] x := by cases x <;> rfl

theorem LinkState.code_eq (x : LinkState) : x.code = codeIn [.down, .training, .up] x := by cases x <;> rfl

theorem FillState.code_eq (x : FillState) : x.code = codeIn [.opened, .near, .full] x := by cases x <;> rfl

theorem ResetCause.code_eq (x : ResetCause) : x.code = codeIn [.powerOn, .pin, .requestFull, .requestLine] x := by
  cases x <;> rfl

theorem trunkIndex_eq (k : Trunk) : trunkIndex k = codeIn [.a, .b] k := by cases k <;> rfl

/-! ### Parts of records -/

theorem bitOf_eq (b : Bool) (i : Nat) : bitOf b i = b.toNat * 2 ^ i := by cases b <;> simp [bitOf]

theorem PageFlags.code_eq (f : PageFlags) : f.code = f.lost.toNat + 2 * f.truncated.toNat + 4 * f.double.toNat
    + 8 * f.long.toNat + 16 * f.short.toNat + 32 * f.unverified.toNat + 64 * f.accepted.toNat := by
  simp only [PageFlags.code, bitOf_eq]
  omega

theorem Holding.code_eq (h : Holding) : h.code = h.holdLimit.toNat + 2 * h.queueFull.toNat + 4 * h.tableFull.toNat
    + 8 * h.poolLow.toNat + 16 * h.trayEmpty.toNat + 32 * h.seqLimit.toNat := by
  simp only [Holding.code, bitOf_eq]
  omega

/-- A value that stops at the greatest of its field. -/
theorem leSat_one (v : Nat) : leSat 1 v = le 1 (min 255 v) := congrArg (le 1) (Nat.min_comm v 255)

theorem leSat_two (v : Nat) : leSat 2 v = le 2 (min 65535 v) := congrArg (le 2) (Nat.min_comm v 65535)

theorem leSat_four (v : Nat) : leSat 4 v = le 4 (min 4294967295 v) := congrArg (le 4) (Nat.min_comm v 4294967295)

theorem optPos_fields (p : Option Nat) : optPos p = Fields.bytes (ifPresent 6 (p.map fun x => bits48 x)) := by
  cases p with
  | none => rfl
  | some p => simp [optPos, ifPresent, le48_fields, le]

/-- A list of records, entry by entry. -/
theorem listBytes_map {α : Type} {f : α → List Byte} {g : α → Fields} (h : ∀ x, f x = (g x).bytes) (xs : List α) :
    listBytes (xs.map f) = Fields.bytes (counted (xs.map g)) := by
  rw [← listBytes_fields, List.map_map]
  exact congrArg listBytes (List.map_congr_left fun x _ => h x)

/-! An optional code is all ones when it is absent (R202). -/

theorem codeOr_verdict (o : Option Verdict) : codeOr (o.map Verdict.code) = le 1 (match o with
    | some v => codeIn [.clean, .unverified, .short, .long, .double, .truncated, .lost] v
    | none => 255) := by
  cases o with
  | none => rfl
  | some v => exact congrArg (le 1) v.code_eq

theorem codeOr_action (o : Option Action) : codeOr (o.map Action.code) = le 1 (match o with
    | some a => codeIn [.pass, .hold, .stop] a
    | none => 255) := by
  cases o with
  | none => rfl
  | some a => exact congrArg (le 1) a.code_eq

theorem codeOr_holdReason (o : Option HoldReason) : codeOr (o.map HoldReason.code) = le 1 (match o with
    | some r => codeIn [.verdict, .jam] r
    | none => 255) := by
  cases o with
  | none => rfl
  | some r => exact congrArg (le 1) r.code_eq

theorem codeOr_jamCause (o : Option JamCause) : codeOr (o.map JamCause.code) = le 1 (match o with
    | some c => codeIn [.dwell, .reverse, .overrun, .positionLimit, .runoutTimeout, .halt] c
    | none => 255) := by
  cases o with
  | none => rfl
  | some c => exact congrArg (le 1) c.code_eq

theorem SeqPos.bytes_fields (p : SeqPos) : p.bytes = Fields.bytes [(4, p.seq), (1, p.sub)] := by
  simp [SeqPos.bytes]

/-! ### The part and trunk records -/

theorem State.bankBytes_fields (s : State) (b : Fin 2) : s.bankBytes b = (s.bankFields b).bytes := by
  unfold State.bankBytes State.bankRole State.bankFields
  split_ifs
  · rw [optBytes_fields]
    rfl
  · cases s.otherRole <;> exact congrArg _ (optBytes_fields _ _)

theorem State.copying_toNat (s : State) : s.copying.toNat = match s.otherRole with
    | .retired _ => 1
    | .shadow => 0
    | .pending _ => 0 := by
  unfold State.copying
  cases s.otherRole <;> rfl

theorem State.partStatus_fields (s : State) : s.partStatus = s.partFields.bytes := by
  simp only [State.partStatus, State.partFields, Fields.bytes_append, Fields.bytes_cons, Fields.bytes_nil,
    State.bankBytes_fields, ResetCause.code_eq, trunkIndex_eq, byteOf_fields, State.copying_toNat, State.adoptedSet,
    bitOf_eq, List.append_assoc, List.append_nil] <;> rfl

theorem State.trunkStatus_fields (s : State) (k : Trunk) : s.trunkStatus k = (s.trunkFields k).bytes := by
  have manages : (s.mgmtTrunk == k).toNat = if s.mgmtTrunk = k then 1 else 0 := by
    split_ifs with h <;> simp [h]
  simp only [State.trunkStatus, State.trunkFields, Fields.bytes_cons, Fields.bytes_nil, trunkIndex_eq,
    LinkState.code_eq, byteOf_fields, manages, List.append_assoc, List.append_nil]

/-! ### The event class record -/

theorem Ev.level_iff (c : Fin 20) : Ev.level c = true ↔ c ∈ [Ev.sonicDegraded, Ev.sonicDrift, Ev.headDown,
    Ev.releaseStall, Ev.channelNear, Ev.channelFull, Ev.trunkDown] := by
  revert c
  decide

theorem State.eventStatus_fields (s : State) (c : Fin 20) : s.eventStatus c = (s.eventFields c).bytes := by
  simp only [State.eventStatus, State.eventFields, Fields.bytes_cons, Fields.bytes_nil, byteOf_fields, Ev.level_iff,
    List.append_assoc, List.append_nil]

/-! ### The channel record -/

theorem State.queueBytes_fields (s : State) (x : Copy) : s.queueBytes x = Fields.bytes ([(1, x.token)]
    ++ (match s.live x.token with
      | some (_, p) => [(1, p.lane.val), (4, p.pos.seq), (1, p.pos.sub)]
      | none => [(1, 0), (4, 0), (1, 0)])
    ++ [(2, x.size), (2, x.sent)]) := by
  unfold State.queueBytes
  cases s.live x.token <;> simp [SeqPos.bytes]

theorem State.channelStatus_fields (s : State) (c : ChanId) : s.channelStatus c = (s.channelFields c).bytes := by
  simp only [State.channelStatus, State.channelFields, ChannelRec.bytes, Fields.bytes_append, Fields.bytes_cons,
    Fields.bytes_nil, FillState.code_eq, byteOf_fields, bitOf_eq, pow_zero, mul_one,
    listBytes_map s.queueBytes_fields, List.append_assoc, List.append_nil] <;> rfl

/-! ### The page record -/

theorem releaseBytes_fields (r : Option ReleaseInfo) : releaseBytes r = Fields.bytes (match r with
    | some r => [(4, r.batch), (4, r.document), (2, r.page), (1, r.cls.val),
        (1, r.firstOfDocument.toNat + 2 * r.firstOfBatch.toNat + 4)]
    | none => [(4, 0), (4, 0), (2, 0), (1, 0), (1, 0)]) := by
  cases r with
  | none => rfl
  | some r => simp [releaseBytes, bitOf_eq, Nat.mul_comm]

theorem Sonic.bytes_fields (x : Sonic) : x.bytes = Fields.bytes (match x with
    | .pending => [(1, 0), (1, 0), (2, 0)]
    | .done m c => [(1, 1), (1, m), (2, c)]
    | .unverified => [(1, 2), (1, 0), (2, 0)]) := by
  cases x <;> simp [Sonic.bytes]

theorem State.pageHeader_fields (s : State) (token : Nat) (p : Page) :
    s.pageHeader token p = (s.headerFields token p).bytes := by
  simp only [State.pageHeader, State.headerFields, Fields.bytes_append, Fields.bytes_cons, Fields.bytes_nil,
    SeqPos.bytes, releaseBytes_fields, Sonic.bytes_fields, codeOr_verdict, PageFlags.code_eq, leSat_two, leSat_four,
    State.byteTotal, List.append_assoc, List.append_nil] <;> rfl

theorem closeBytes_fields (c : Option CloseInfo) : closeBytes c = Fields.bytes ([(1, c.isSome.toNat),
      (1, ((c.map fun c => c.mark.toNat).getD 0)), (1, ((c.map fun c => c.blank.toNat).getD 0))]
    ++ ticketFields (c.bind fun c => c.ticket)) := by
  cases c <;> simp [closeBytes, byteOf_fields, ticketBytes_fields, le]

theorem State.copyBytes_fields (s : State) (token : Nat) : s.copyBytes token =
    (allChans.flatMap fun c => ((s.chan c).queue.filter fun x => x.token == token).map fun x =>
      ([(1, c.val), (2, x.sent)] : Fields)).map Fields.bytes := by
  rw [List.map_flatMap]
  simp [State.copyBytes, Function.comp_def]

theorem State.pageStatus_fields (s : State) (token : Nat) (p : Page) :
    s.pageStatus token p = (s.headerFields token p ++ s.pageFields token p).bytes := by
  simp only [State.pageStatus, State.pageFields, Fields.bytes_append, Fields.bytes_cons, Fields.bytes_nil,
    State.pageHeader_fields, PageState.code_eq, codeOr_action, codeOr_holdReason,
    optPos_fields, Image.code_eq, closeBytes_fields, byteOf_fields, State.copyBytes_fields, listBytes_fields,
    List.append_assoc, List.append_nil] <;> rfl

end Sys2Proof.Machine
end

section
/-! The lane record and STATUS_READ (R190, R202, section 11.5). -/

namespace Sys2Proof.Machine

/- One proof after another: every thread of a parallel elaboration reserves memory, which the check limits. -/
set_option Elab.async false

/-! ### The transport part of a lane record -/

theorem GapState.bytes_fields (x : GapState) : x.bytes = Fields.bytes (match x with
    | .clear => [(1, 0), (6, 0)]
    | .wait => [(1, 1), (6, 0)]
    | .since p => [(1, 2), (6, bits48 p)]) := by
  cases x with
  | clear => rfl
  | wait => rfl
  | since p => simp [GapState.bytes, le48_fields]

theorem Sheet.bytes_fields (x : Sheet) : x.bytes = Fields.bytes ([(1, x.token), (2, x.genPick.toNat)]
    ++ ifPresent 6 (x.lead.map fun p => bits48 p) ++ ifPresent 6 (x.trail.map fun p => bits48 p)
    ++ [(1, codeIn [.none, .opened, .closed] x.gate)]) := by
  simp [Sheet.bytes, optPos_fields, GateProgress.code_eq]

theorem rampBytes_fields (r : Option Ramp) : rampBytes r = Fields.bytes (match r with
    | some r => [(1, 1), (2, r.origin), (2, r.target), (2, r.elapsed), (2, r.slope)]
    | none => [(1, 0), (2, 0), (2, 0), (2, 0), (2, 0)]) := by
  cases r <;> simp [rampBytes]

theorem State.transportStatus_fields (s : State) (l : LaneId) :
    s.transportStatus l = (s.transportFields l).bytes := by
  -- `delta`, as the equation that `simp` would make of this definition is slow to prove
  delta State.transportStatus
  simp only [State.transportFields, Fields.bytes_append, Fields.bytes_cons, Fields.bytes_nil,
    LaneState.code_eq, Holding.code_eq, codeOr_jamCause, GapState.bytes_fields,
    optBytes_fields, listBytes_map Sheet.bytes_fields, rampBytes_fields, byteOf_fields, List.append_assoc,
    List.append_nil] <;> rfl

/-! ### The monitor part -/

theorem Calibration.bytes_fields (x : Calibration) : x.bytes = Fields.bytes (match x with
    | .none => [(1, 0), (1, 0)]
    | .running n _ => [(1, 1), (1, n)]
    | .done => [(1, 2), (1, 0)]) := by
  cases x <;> simp [Calibration.bytes]

theorem Window.bytes_fields (w : Window) : w.bytes = Fields.bytes ([(1, w.token), (2, min 65535 w.next)]
    ++ ifPresent 2 (w.samples.map fun n => min 65535 n)
    ++ [(1, w.void.toNat), (1, w.thick.toNat), (1, min 255 w.run), (1, min 255 w.maxRun)]) := by
  simp only [Window.bytes, Fields.bytes_append, Fields.bytes_cons, Fields.bytes_nil, optBytes_fields, byteOf_fields,
    leSat_one, leSat_two, List.append_assoc, List.append_nil]

theorem Dfm.status_fields (d : Dfm) : d.status = d.fields.bytes := by
  simp only [Dfm.status, Dfm.fields, Fields.bytes_append, Fields.bytes_cons, Fields.bytes_nil,
    Calibration.bytes_fields, byteOf_fields, listBytes_map Window.bytes_fields, List.append_assoc, List.append_nil]
    <;> rfl

/-! ### The intake and order parts -/

/-- The OPEN images of a lane are counted over the entries. -/
theorem State.openEntries_length (s : State) (l : LaneId) :
    (s.openEntries l).length = s.countPages fun p => p.lane == l && p.image == .opened := by
  rw [State.openEntries, ← List.countP_eq_length_filter, State.countPages]
  have entries : s.entries.toList = allEntries.map s.entry := by
    refine List.ext_getElem (by simp [allEntries]) fun i hi hj => ?_
    simp [allEntries, State.entry]
  rw [entries, List.countP_map]
  rfl

theorem State.heldBytes_fields (s : State) (x : Fin 64 × Page) : s.heldBytes x = Fields.bytes
    [(1, s.tokenOf x.1), (4, x.2.pos.seq), (1, x.2.pos.sub),
      (1, match x.2.holdReason with
        | some r => codeIn [.verdict, .jam] r
        | none => 255)] := by
  simp only [State.heldBytes, SeqPos.bytes, codeOr_holdReason, Fields.bytes_cons, Fields.bytes_nil, List.append_assoc,
    List.append_nil] <;> rfl

theorem loanBytes_fields (o : Option SeqPos) : loanBytes o = Fields.bytes (match o with
    | some q => [(1, 1), (4, q.seq), (1, q.sub)]
    | none => [(1, 0), (4, 0), (1, 0)]) := by
  cases o <;> simp [loanBytes, SeqPos.bytes, le]

theorem State.releaseHeadBytes_fields (s : State) (l : LaneId) : s.releaseHeadBytes l =
    Fields.bytes (match s.releaseHead l with
      | .none => [(1, 0), (4, 0), (1, 0), (1, 0)]
      | .page i p => [(1, codeIn [.queued, .picked, .inPath, .held, .ready] p.state), (4, p.pos.seq), (1, p.pos.sub),
          (1, s.tokenOf i)]
      | .slot q => [(1, 5), (4, q.seq), (1, q.sub), (1, 0)]) := by
  unfold State.releaseHeadBytes
  cases s.releaseHead l <;> simp [SeqPos.bytes, headKindOf_eq]

theorem State.orderStatus_fields (s : State) (l : LaneId) :
    s.intakeStatus l ++ s.orderStatus l = (s.orderFields l).bytes := by
  simp only [State.intakeStatus, State.orderStatus, State.orderFields, Fields.bytes_append, Fields.bytes_cons,
    Fields.bytes_nil, LinkState.code_eq, State.openEntries_length, byteOf_fields, listBytes_map s.heldBytes_fields,
    listBytes_map SeqPos.bytes_fields, loanBytes_fields, State.releaseHeadBytes_fields, List.append_assoc,
    List.append_nil] <;> rfl

/-! ### The sequencer part, and the record -/

theorem SeqState.bytes_fields (x : SeqState) : x.bytes = Fields.bytes (match x with
    | .idle => [(1, 0), (1, 0)]
    | .waiting t => [(1, 1), (1, t)]) := by
  cases x <;> simp [SeqState.bytes]

theorem Batch.status_fields (b : Batch) : b.status = b.fields.bytes := by
  simp only [Batch.status, Batch.fields, Fields.bytes_append, Fields.bytes_cons, Fields.bytes_nil, List.cons_append,
    ticketBytes_fields, byteOf_fields, SeqState.bytes_fields, leSat_four, List.append_assoc, List.append_nil] <;> rfl

theorem State.laneStatus_fields (s : State) (l : LaneId) : s.laneStatus l =
    (s.transportFields l ++ (s.lane l).dfm.fields ++ s.orderFields l ++ (s.lane l).batch.fields).bytes := by
  rw [State.laneStatus, Fields.bytes_append, Fields.bytes_append, Fields.bytes_append, ← State.transportStatus_fields,
    ← Dfm.status_fields, ← State.orderStatus_fields, ← Batch.status_fields]
  simp only [List.append_assoc]

/-! ### What STATUS_READ answers (R190) -/

theorem chanOf_of_eq {n : Nat} {c : ChanId} (h : n = c.val) : chanOf n = some c := by
  rw [h, chanOf, dif_pos c.isLt]

theorem chanOf_above {n : Nat} (h : 15 < n) : chanOf n = none := by
  rw [chanOf, dif_neg (by omega)]

theorem trunkOf_above {n : Nat} (h : 1 < n) : trunkOf n = none := by
  match n, h with
  | n + 2, _ => rfl

section
variable (s : State) {n : Nat}

theorem readStatus_part : readStatus 0 n s = (.ok, s.partStatus) := rfl

theorem readStatus_lane {l : LaneId} (named : n = l.val) : readStatus 1 n s = (.ok, s.laneStatus l) := by
  rw [readStatus, laneOf_of_eq named]
  rfl

theorem readStatus_page {i : Fin 64} {p : Page} (live : s.live n = some (i, p)) :
    readStatus 2 n s = (.ok, s.pageStatus n p) := by
  rw [readStatus, live]
  rfl

theorem readStatus_stale (stale : s.live n = none) : readStatus 2 n s = (.state, []) := by
  rw [readStatus, stale]
  rfl

theorem readStatus_channel {c : ChanId} (named : n = c.val) : readStatus 3 n s = (.ok, s.channelStatus c) := by
  rw [readStatus, chanOf_of_eq named]
  rfl

theorem readStatus_event {c : Fin 20} (named : n = c.val) : readStatus 5 n s = (.ok, s.eventStatus c) := by
  rw [readStatus, classOf_of_eq named]
  rfl

/-- An operand that names no lane, channel, trunk or class, and an object above 5. -/
theorem readStatus_range {object : Nat} (range : (object = 1 ∧ 5 < n) ∨ (object = 3 ∧ 15 < n) ∨ (object = 4 ∧ 1 < n)
    ∨ (object = 5 ∧ 19 < n) ∨ 5 < object) : readStatus object n s = (.range, []) := by
  rcases range with ⟨rfl, above⟩ | ⟨rfl, above⟩ | ⟨rfl, above⟩ | ⟨rfl, above⟩ | above
  · rw [readStatus, laneOf_above above]
    rfl
  · rw [readStatus, chanOf_above above]
    rfl
  · rw [readStatus, trunkOf_above above]
    rfl
  · rw [readStatus, classOf_above above]
    rfl
  · match object, above with
    | object + 6, _ => rfl

end

/-- A STATUS_READ as it stands in a request queue. -/
def statusRequest (tag object operand : Byte) : Request := ⟨9, tag, [object, operand]⟩

/-- A read answers the record of the state without the request (log 21), and changes no state. -/
theorem completes_statusRead {s : State} {k : Trunk} {tag object operand : Byte}
    (next : s.nextRequest = some (k, statusRequest tag object operand)) :
    Completes .statusRead s fun t => Replied s t k (statusRequest tag object operand)
        (readStatus object.toNat operand.toNat (s.takeOff k)).1 (readStatus object.toNat operand.toNat (s.takeOff k)).2
      ∧ Untouched s t := by
  refine completes_read ((serve_act (want := Request.isKind 9) (body := bodyStatusRead) next rfl).trans ?_)
  have operands : bodyStatusRead (statusRequest tag object operand).payload (s.takeOff k)
      = .read (s.takeOff k) (readStatus object.toNat operand.toNat (s.takeOff k)) := by
    rw [bodyStatusRead, sized, if_pos (by rfl), statusRequest, field_first, field_second]
  rw [operands]
  rfl

@[simp] theorem State.takeOff_live (s : State) (k : Trunk) (token : Nat) : (s.takeOff k).live token = s.live token :=
  State.live_congr (s.takeOff_entries k) token

/-- Settles O54: each record part by part, and the reply by what STATUS_READ finds under its object and operand. -/
theorem statusReadAnswers : Obligations.StatusReadAnswers := by
  refine ⟨fun s => ⟨s.partStatus_fields, s.laneStatus_fields, s.pageStatus_fields, s.channelStatus_fields,
    s.trunkStatus_fields, s.eventStatus_fields⟩, fun s k tag object operand next => ?_⟩
  obtain ⟨t, ran, replied, paper, tables, events, links⟩ := completes_statusRead next
  refine ⟨t, ran, paper, tables, events, links, ?part, ?lane, ?page, ?stale, ?channel, ?trunkA, ?trunkB, ?event, ?range⟩
  case part =>
    rintro rfl
    exact replied
  case lane =>
    rintro l rfl named
    rwa [show (1 : Byte).toNat = 1 from rfl, readStatus_lane _ named] at replied
  case page =>
    rintro i p rfl live
    rwa [show (2 : Byte).toNat = 2 from rfl, readStatus_page _ ((s.takeOff_live k _).trans live)] at replied
  case stale =>
    rintro rfl stale
    rwa [show (2 : Byte).toNat = 2 from rfl, readStatus_stale _ ((s.takeOff_live k _).trans stale)] at replied
  case channel =>
    rintro c rfl named
    rwa [show (3 : Byte).toNat = 3 from rfl, readStatus_channel _ named] at replied
  case trunkA =>
    rintro rfl rfl
    exact replied
  case trunkB =>
    rintro rfl rfl
    exact replied
  case event =>
    rintro c rfl named
    rwa [show (5 : Byte).toNat = 5 from rfl, readStatus_event _ named] at replied
  case range =>
    intro range
    rwa [readStatus_range (object := object.toNat)] at replied
    rcases range with ⟨rfl, above⟩ | ⟨rfl, above⟩ | ⟨rfl, above⟩ | ⟨rfl, above⟩ | above
    · exact .inl ⟨rfl, above⟩
    · exact .inr (.inl ⟨rfl, above⟩)
    · exact .inr (.inr (.inl ⟨rfl, above⟩))
    · exact .inr (.inr (.inr (.inl ⟨rfl, above⟩)))
    · exact .inr (.inr (.inr (.inr above)))

end Sys2Proof.Machine
end

section
/-! The hard reset (R191, R197, and the reset rules of the chapters): what it leaves, and that the state after power-on
is sound. -/

namespace Sys2Proof.Machine

/- One proof after another: every thread of a parallel elaboration reserves memory, which the check limits. -/
set_option Elab.async false

/-! ### Transmit slots of links that are not UP (R162) -/

theorem State.slot_of_not_up {s : State} {k : Trunk} (down : s.linkUp (.trunk k) = false) : s.slot k = s := by
  rw [State.slot, down, Bool.false_and]
  rfl

theorem State.slots_of_not_up {s : State} (down : ∀ k, s.linkUp (.trunk k) = false) : s.slots = s := by
  rw [State.slots, State.slot_of_not_up (down .a), State.slot_of_not_up (down .b)]

/-! ### The state after a hard reset -/

section
variable (s : State) (cause : ResetCause)

theorem State.hardReset_entry (i : Fin 64) : (s.hardReset cause).entry i = ⟨0, none⟩ := by
  simp [State.hardReset, State.entry, State.reset]

theorem State.hardReset_lane (l : LaneId) : (s.hardReset cause).lane l = (s.lane l).hardReset := by
  simp [State.hardReset, State.lane]

theorem State.hardReset_head (l : LaneId) : (s.hardReset cause).head l = HeadPort.reset := by
  simp [State.hardReset, State.head, State.reset]

theorem State.hardReset_chan (c : ChanId) : (s.hardReset cause).chan c = Channel.reset := by
  simp [State.hardReset, State.chan, State.reset]

theorem State.hardReset_trunk (k : Trunk) : (s.hardReset cause).trunk k = TrunkPort.reset := by cases k <;> rfl

theorem State.hardReset_link (p : Port) : (s.hardReset cause).link p = Link.reset := by
  cases p with
  | head l => rw [State.link, State.hardReset_head]; rfl
  | trunk k => rw [State.link, State.hardReset_trunk]; rfl

theorem State.hardReset_banks (b : Fin 2) : (s.hardReset cause).banks[b] = Tables.zeroed := by
  simp [State.hardReset, State.reset]

/-- PART_RESET is latched, and every other class is clear (R197). -/
theorem State.hardReset_event (c : Fin 20) :
    (s.hardReset cause).event c = if c = Ev.partReset then EventState.resetLatched else EventState.reset := by
  change State.reset.event c = _
  revert c
  decide

theorem Lane.hardReset_fresh (x : Lane) : x.hardReset.Fresh :=
  ⟨⟨rfl, rfl, rfl, rfl, rfl, rfl, rfl, rfl, rfl, rfl, rfl, rfl, rfl, rfl, rfl⟩, ⟨rfl, rfl, rfl⟩,
    ⟨rfl, rfl, rfl, rfl, rfl, rfl, rfl, rfl, rfl⟩, rfl, rfl, rfl, rfl, rfl, rfl, rfl, rfl, rfl, rfl⟩

/-- After a hard reset no link is UP, so an act that ends with it has no transmit slot. -/
theorem settle_hardReset : settle (s.hardReset cause, []) = s.hardReset cause := by
  rw [settle_nil]
  refine State.slots_of_not_up fun k => ?_
  rw [State.linkUp, State.hardReset_link]
  rfl

end

/-- The three ways into a hard reset: each is the reset of a state with the lanes as they were. -/
theorem exec_hardReset {i : Instr} {cause : ResetCause} {s : State}
    (way : (i = .powerOn ∧ cause = .powerOn) ∨ (i = .resetPin ∧ cause = .pin)
      ∨ (∃ k cell r, i = .replySent k ∧ (s.trunk k).tx = some ⟨.reply, cell⟩ ∧ (s.trunk k).reply = some r
          ∧ r.reset = some .full ∧ cause = .requestFull)) :
    ∃ u : State, u.lanes = s.lanes ∧ exec i s = .next (u.hardReset cause) := by
  rcases way with ⟨rfl, rfl⟩ | ⟨rfl, rfl⟩ | ⟨k, cell, r, rfl, sent, reply, full, rfl⟩
  · exact ⟨s, rfl, rfl⟩
  · exact ⟨s, rfl, rfl⟩
  · have ran := exec_replySent sent
    rw [reply, Option.bind_some, full] at ran
    refine ⟨s.replyGone k, by rw [State.replyGone_frame], ran.trans ?_⟩
    exact congrArg Host.Outcome.next (settle_hardReset (s.replyGone k) .requestFull)

/-- Settles O4: the ways into a hard reset are one, and what it leaves is said part by part. -/
theorem hardResetLeaves : Obligations.HardResetLeaves := by
  intro i cause s way
  obtain ⟨u, lanes, ran⟩ := exec_hardReset way
  refine ⟨_, ran, rfl, u.hardReset_entry cause, fun l => ?lane, u.hardReset_link cause, fun l => ?head,
    FreeList.whole_cells, u.hardReset_chan cause, fun k => ?trunk, u.hardReset_banks cause, rfl, rfl, rfl, rfl, rfl,
    rfl, rfl, fun c hc => ?event, ?partReset⟩
  case lane =>
    rw [State.hardReset_lane, lane_of_lanes lanes]
    exact ⟨Lane.hardReset_fresh _, rfl, rfl, rfl, rfl, rfl, rfl, rfl⟩
  case head =>
    rw [State.hardReset_head]
    exact ⟨rfl, rfl⟩
  case trunk =>
    rw [State.hardReset_trunk]
    exact ⟨rfl, rfl, rfl, rfl, rfl, rfl⟩
  case event =>
    rw [State.hardReset_event, if_neg hc]
    rfl
  case partReset =>
    rw [State.hardReset_event, if_pos rfl]
    rfl

/-! ### The state after power-on -/

theorem State.hardReset_reset : State.reset.hardReset .powerOn = State.reset := by
  have lanes : State.reset.lanes.map Lane.hardReset = State.reset.lanes := Vector.map_replicate
  rw [State.hardReset, lanes]
  rfl

/-- Settles O7: a hard reset leaves a state with each property, and the state after power-on is one. -/
theorem resetStateIsSound : Obligations.ResetStateIsSound := by
  have free (i : Fin 64) : State.reset.pageAt i = none := by
    rw [← State.hardReset_reset, State.pageAt, State.hardReset_entry]
  refine ⟨State.hardReset_reset ▸ PoolSound.hardReset _ _, rfl, State.hardReset_reset ▸ PositionsSound.hardReset _ _,
    State.hardReset_reset ▸ SpeedsSound.hardReset _ _, State.hardReset_reset ▸ AirSound.hardReset _ _,
    fun l => ⟨?path, ?pages⟩, fun i j p q page => ?picked, State.hardReset_reset ▸ SlotsSound.hardReset _ _,
    (countsSound_iff _).2 ⟨fun k => ?trunk, fun l => ?head, fun c => ?event⟩, fun b => ?tables⟩
  case path =>
    rw [← State.hardReset_reset, State.hardReset_lane]
    exact Nat.zero_le 4
  case pages =>
    have none : State.reset.laneNonFree l = 0 := (State.laneNonFree_zero _ l).2 fun i p page => by
      rw [free] at page
      cases page
    rw [none]
    exact Nat.zero_le 24
  case picked =>
    rw [free] at page
    cases page
  case trunk =>
    rw [← State.hardReset_reset, State.hardReset_trunk]
    exact ⟨Nat.zero_le 4, Nat.zero_le 255, Nat.zero_le 65535⟩
  case head =>
    rw [← State.hardReset_reset, State.hardReset_head]
    exact ⟨Nat.zero_le 65535, Nat.zero_le 65535⟩
  case event =>
    rw [← State.hardReset_reset, State.hardReset_event]
    split_ifs
    · exact Nat.le_of_ble_eq_true rfl
    · exact Nat.zero_le 255
  case tables =>
    rw [← State.hardReset_reset, State.hardReset_banks]
    exact Tables.zeroed_inRange

end Sys2Proof.Machine
end

section
/-! The line reset (R191, and the reset rules of the chapters), stage by stage: the CANCEL cells, what is cleared, the
adoption, the lanes at rest, the raw levels. -/

namespace Sys2Proof.Machine

/- One proof after another: every thread of a parallel elaboration reserves memory, which the check limits. -/
set_option Elab.async false

/-! ### The records of a lane -/

/-- A lane's tables depend on its generation and on the banks with their roles. -/
theorem State.laneTables_congr {s t : State} {l : LaneId} (gen : (t.lane l).gen = (s.lane l).gen)
    (banks : t.banks = s.banks) (bank : t.activeBank = s.activeBank) (active : t.activeGen = s.activeGen)
    (role : t.otherRole = s.otherRole) : t.laneTables l = s.laneTables l := by
  simp only [State.laneTables, State.tablesOf, State.pendingGen, State.copying, State.otherBank, gen, banks, bank,
    active, role] <;> rfl

theorem State.laneEnabled_of_laneTables {s t : State} {l : LaneId} (same : t.laneTables l = s.laneTables l) :
    t.laneEnabled l = s.laneEnabled l := by
  rw [State.laneEnabled, State.laneRec, same]
  rfl

theorem State.profileRec_of_laneTables {s t : State} {l : LaneId} (same : t.laneTables l = s.laneTables l) :
    t.profileRec l = s.profileRec l := by
  simp only [State.profileRec, State.laneRec, same]

/-! ### The stages -/

/-- The CANCEL cells have gone out (R110). -/
def State.cancelledAtReset (s : State) : State := allEntries.foldl State.cancelAtReset s

/-- What is cleared is cleared, and a pending generation is adopted (R183). -/
def State.adoptedAtReset (s : State) : State := s.cancelledAtReset.clearAtReset.adoptAtReset

/-- The lanes at their reset values, but for state and class. -/
def State.lanesAtReset (s : State) : State :=
  { s.adoptedAtReset with lanes := s.adoptedAtReset.lanes.map Lane.lineReset }

/-- The lanes are IDLE or OFF, in their default classes. -/
def State.restedAtReset (s : State) : State := allLanes.foldl State.restAtReset s.lanesAtReset

/-- The raw levels have been handed over. -/
def State.leveledAtReset (s : State) : State :=
  allChans.foldl State.chanRawsAtReset (allLanes.foldl State.laneRawsAtReset s.restedAtReset)

theorem State.lineReset_eq (s : State) : s.lineReset = s.leveledAtReset.occur Ev.partReset 0 := rfl

/-! ### What each stage changes -/

theorem State.cancelAtReset_frame (s : State) (i : Fin 64) :
    s.cancelAtReset i = { s with heads := (s.cancelAtReset i).heads } := by
  unfold State.cancelAtReset
  split
  · split_ifs
    · exact s.sendHead_frame _ _ _
    · rfl
  · rfl

theorem State.cancelledAtReset_frame (s : State) : s.cancelledAtReset = { s with heads := s.cancelledAtReset.heads } := by
  refine List.foldlRecOn (motive := fun u : State => u = { s with heads := u.heads }) _ _ rfl fun u hu i _ => ?_
  rw [State.cancelAtReset_frame, hu]

/-- An adoption at a reset changes the lanes' generations, the roles of the banks, and perhaps TABLES_ADOPTED. -/
theorem State.adoptAtReset_frame (s : State) : s.adoptAtReset = { s with
    lanes := s.adoptAtReset.lanes, channelGen := s.adoptAtReset.channelGen, activeBank := s.adoptAtReset.activeBank
    activeGen := s.adoptAtReset.activeGen, otherRole := s.adoptAtReset.otherRole, events := s.adoptAtReset.events } := by
  unfold State.adoptAtReset
  split
  · rfl
  · dsimp only [State.retireTo]
    split_ifs
    · rfl
    · rw [State.occur_frame]

theorem State.restedAtReset_frame (s : State) :
    s.restedAtReset = { s.lanesAtReset with lanes := s.restedAtReset.lanes } :=
  foldl_lanes_frame State.restAtReset (fun _ _ => rfl) allLanes s.lanesAtReset

theorem State.laneRawsAtReset_frame (s : State) (l : LaneId) :
    s.laneRawsAtReset l = { s with events := (s.laneRawsAtReset l).events } := by
  rw [State.laneRawsAtReset, State.evalHeadDown, State.setRaw_frame]
  rw [State.setRaw_frame (s.setRaw _ _ _ |>.setRaw _ _ _), State.setRaw_frame (s.setRaw _ _ _), State.setRaw_frame s]

theorem State.chanRawsAtReset_frame (s : State) (c : ChanId) :
    s.chanRawsAtReset c = { s with events := (s.chanRawsAtReset c).events } := by
  rw [State.chanRawsAtReset, State.setRaw_frame, State.setRaw_frame s]

theorem State.leveledAtReset_frame (s : State) :
    s.leveledAtReset = { s.restedAtReset with events := s.leveledAtReset.events } := by
  refine List.foldlRecOn (motive := fun u : State => u = { s.restedAtReset with events := u.events }) _ _ ?_
    fun u hu c _ => by rw [State.chanRawsAtReset_frame, hu]
  refine List.foldlRecOn (motive := fun u : State => u = { s.restedAtReset with events := u.events }) _ _ rfl
    fun u hu l _ => by rw [State.laneRawsAtReset_frame, hu]

/-- After the lanes are at rest only the events change. -/
theorem State.lineReset_rested_frame (s : State) :
    s.lineReset = { s.restedAtReset with events := s.lineReset.events } := by
  rw [State.lineReset_eq, State.occur_frame, State.leveledAtReset_frame]

/-- The stages put together: a line reset is the clearing, with new lanes, CANCEL cells, roles of banks and events. -/
theorem State.lineReset_frame (s : State) : s.lineReset = { s.clearAtReset with
    heads := s.cancelledAtReset.heads, lanes := s.lineReset.lanes, channelGen := s.adoptedAtReset.channelGen
    activeBank := s.adoptedAtReset.activeBank, activeGen := s.adoptedAtReset.activeGen
    otherRole := s.adoptedAtReset.otherRole, events := s.lineReset.events } := by
  rw [State.lineReset_rested_frame, State.restedAtReset_frame, State.lanesAtReset]
  rw [State.adoptedAtReset, State.adoptAtReset_frame, State.clearAtReset, State.cancelledAtReset_frame]
  rfl

/-! ### What every part of it keeps -/

theorem Kept.cancelAtReset {s t : State} (h : Kept s t) (i : Fin 64) : Kept s (t.cancelAtReset i) := by
  unfold State.cancelAtReset
  split
  · split_ifs
    · exact h.sendHead _ _ _
    · exact h
  · exact h

theorem Kept.cancelledAtReset (s : State) : Kept s s.cancelledAtReset :=
  Kept.foldl _ (fun _ i k => k.cancelAtReset i) allEntries (Kept.refl s)

theorem State.mapLanes_lane (s : State) (f : Lane → Lane) (l : LaneId) :
    ({ s with lanes := s.lanes.map f } : State).lane l = f (s.lane l) := by
  simp [State.lane]

theorem Kept.mapLanes (s : State) (f : Lane → Lane) (pins : ∀ x, SamePins x (f x)) :
    Kept s { s with lanes := s.lanes.map f } := by
  refine ⟨rfl, rfl, rfl, rfl, rfl, rfl, rfl, rfl, rfl, fun _ => rfl, fun _ => rfl, fun l => ?_, fun _ => EventGrew.refl _⟩
  rw [State.mapLanes_lane]
  exact pins (s.lane l)

theorem Kept.adoptAtReset (s : State) : Kept s s.adoptAtReset := by
  unfold State.adoptAtReset
  split
  · exact Kept.refl s
  · rename_i g _
    have switched : Kept s { s with lanes := s.lanes.map (fun x => { x with gen := g }), channelGen := g } :=
      (Kept.mapLanes s (fun x => { x with gen := g }) fun _ => ⟨rfl, rfl, rfl⟩).trans
        ⟨rfl, rfl, rfl, rfl, rfl, rfl, rfl, rfl, rfl, fun _ => rfl, fun _ => rfl, fun _ => ⟨rfl, rfl, rfl⟩,
          fun _ => EventGrew.refl _⟩
    refine Kept.retireTo ?_ g
    split_ifs
    · exact switched
    · exact switched.occur _ _

theorem Kept.laneRawsAtReset {s t : State} (h : Kept s t) (l : LaneId) : Kept s (t.laneRawsAtReset l) :=
  (((h.setRaw _ _ _).setRaw _ _ _).setRaw _ _ _).setRaw _ _ _

theorem Kept.chanRawsAtReset {s t : State} (h : Kept s t) (c : ChanId) : Kept s (t.chanRawsAtReset c) :=
  (h.setRaw _ _ _).setRaw _ _ _

/-- After the clearing a line reset keeps what every sub-act keeps. -/
theorem Kept.lineReset (s : State) : Kept s.cancelledAtReset.clearAtReset s.lineReset := by
  have lanes := (Kept.adoptAtReset s.cancelledAtReset.clearAtReset).trans
    (Kept.mapLanes _ Lane.lineReset fun _ => ⟨rfl, rfl, rfl⟩)
  have rested := lanes.foldl State.restAtReset (fun _ l k => k.modLane l _ (by exact fun _ => ⟨rfl, rfl, rfl⟩)) allLanes
  have raws := rested.foldl State.laneRawsAtReset (fun _ l k => k.laneRawsAtReset l) allLanes
  exact (raws.foldl State.chanRawsAtReset (fun _ c k => k.chanRawsAtReset c) allChans).occur _ _

end Sys2Proof.Machine
end

section
/-! The line reset (R191), part by part: head cells, lanes, roles of the banks, events, and the transmit slots after
it. -/

namespace Sys2Proof.Machine

/- One proof after another: every thread of a parallel elaboration reserves memory, which the check limits. -/
set_option Elab.async false

/-! ### The CANCEL cells (R110) -/

/-- The entry holds a page of the lane with an OPEN image. -/
def State.opens (s : State) (l : LaneId) (i : Fin 64) : Bool :=
  (s.pageAt i).any fun p => p.lane == l && p.image == .opened

/-- The CANCEL cells that a lane's head link takes for the pages of some entries. -/
def State.cancels (s : State) (l : LaneId) (entries : List (Fin 64)) : List HeadCell :=
  if s.linkUp (.head l) then (entries.filter (s.opens l)).map fun i => ⟨.cancel, s.tokenOf i⟩ else []

section
variable (s : State) (l : LaneId) (i : Fin 64)

theorem State.cancels_cons (xs : List (Fin 64)) : s.cancels l (i :: xs) = s.cancels l [i] ++ s.cancels l xs := by
  unfold State.cancels
  split_ifs
  · rw [List.filter_cons, List.filter_singleton]
    cases s.opens l i <;> rfl
  · rfl

/-- A CANCEL cell leaves the pages and the links, and so the CANCEL cells of the other entries. -/
theorem State.cancelAtReset_cancels (xs : List (Fin 64)) : (s.cancelAtReset i).cancels l xs = s.cancels l xs := by
  have up : (s.cancelAtReset i).linkUp (.head l) = s.linkUp (.head l) := by
    rw [State.linkUp, State.link, ((Kept.refl s).cancelAtReset i).link]
    rfl
  have page : (s.cancelAtReset i).opens l = s.opens l := by
    rw [State.cancelAtReset_frame]
    rfl
  have token : (s.cancelAtReset i).tokenOf = s.tokenOf := by
    rw [State.cancelAtReset_frame]
    rfl
  simp only [State.cancels, up, page, token]

theorem State.cancelAtReset_txQueue :
    ((s.cancelAtReset i).head l).txQueue = (s.head l).txQueue ++ s.cancels l [i] := by
  cases page : s.pageAt i with
  | none => simp [State.cancelAtReset, State.cancels, State.opens, page]
  | some p =>
    by_cases opened : p.image = .opened
    · by_cases lane : p.lane = l
      · subst lane
        simp [State.cancelAtReset, State.cancels, State.opens, page, opened, State.sendHead_txQueue]
      · simp [State.cancelAtReset, State.cancels, State.opens, page, opened, lane,
          State.sendHead_head_ne s .cancel (s.tokenOf i) (Ne.symm lane)]
    · simp [State.cancelAtReset, State.cancels, State.opens, page, opened]

end

theorem State.cancelledAtReset_txQueue (s : State) (l : LaneId) :
    (s.cancelledAtReset.head l).txQueue = (s.head l).txQueue ++ s.cancels l allEntries := by
  rw [State.cancelledAtReset]
  induction allEntries generalizing s with
  | nil => simp [State.cancels]
  | cons i xs ih =>
    rw [List.foldl_cons, ih, State.cancelAtReset_cancels, State.cancelAtReset_txQueue, List.append_assoc,
      ← State.cancels_cons]

/-! ### The adoption (R183) -/

theorem State.adoptAtReset_of_none {s : State} (none : s.pendingGen = none) : s.adoptAtReset = s := by
  rw [State.adoptAtReset, none]

/-- Every lane, and the channels, in the pending generation. -/
def State.switchedAtReset (s : State) (g : Gen) : State :=
  { s with lanes := s.lanes.map (fun x => { x with gen := g }), channelGen := g }

theorem State.adoptAtReset_of_pending {s : State} {g : Gen} (pending : s.pendingGen = some g) :
    s.adoptAtReset = { (s.switchedAtReset g).retireTo g with events := s.adoptAtReset.events } := by
  rw [State.adoptAtReset, pending]
  dsimp only
  split_ifs
  · rfl
  · rw [State.occur_frame]
    rfl

theorem State.adoptAtReset_lane_gen (s : State) (l : LaneId) :
    (s.adoptAtReset.lane l).lineReset = { (s.lane l).lineReset with gen := s.pendingGen.getD (s.lane l).gen } := by
  cases pending : s.pendingGen with
  | none =>
    rw [State.adoptAtReset_of_none pending]
    rfl
  | some g =>
    have lane : s.adoptAtReset.lane l = { s.lane l with gen := g, adopted := false } := by
      rw [State.adoptAtReset_of_pending pending]
      simp [State.retireTo, State.switchedAtReset, State.lane]
    rw [lane]
    rfl

/-! ### The lanes (R51, R65, R90, R131, R150) -/

/-- A lane at rest: IDLE or OFF, in its default class. -/
def Lane.rested (x : Lane) (enabled : Bool) (r : ProfileRec) : Lane :=
  { x with state := if enabled then .idle else .off, batch := { x.batch with cls := r.defaultClass } }

theorem State.restAtReset_eq (s : State) (l : LaneId) :
    s.restAtReset l = s.modLane l fun x => x.rested (s.laneEnabled l) (s.profileRec l) := rfl

theorem State.restAtReset_laneTables (s : State) (l k : LaneId) : (s.restAtReset l).laneTables k = s.laneTables k := by
  refine State.laneTables_congr ?_ rfl rfl rfl rfl
  by_cases e : l = k
  · subst e
    rw [State.restAtReset_eq, State.modLane_lane_self]
    rfl
  · rw [State.restAtReset_eq, State.modLane_lane_ne _ _ _ _ e]

theorem State.restedAtReset_lane (s : State) (l : LaneId) :
    s.restedAtReset.lane l
      = (s.lanesAtReset.lane l).rested (s.lanesAtReset.laneEnabled l) (s.lanesAtReset.profileRec l) := by
  refine foldl_allLanes_lane s.lanesAtReset l State.restAtReset
    (fun u k x => x.rested (u.laneEnabled k) (u.profileRec k)) (fun u k => ?own) (fun u k m ne => ?other)
    fun u k m x _ => ?stable
  case own => rw [State.restAtReset_eq, State.modLane_lane_self]
  case other => rw [State.restAtReset_eq, State.modLane_lane_ne _ _ _ _ ne.symm]
  case stable =>
    have tables := u.restAtReset_laneTables k m
    rw [State.laneEnabled_of_laneTables tables, State.profileRec_of_laneTables tables]

theorem State.lanesAtReset_lane (s : State) (l : LaneId) :
    s.lanesAtReset.lane l = { (s.lane l).lineReset with gen := s.pendingGen.getD (s.lane l).gen } := by
  have cleared : s.cancelledAtReset.clearAtReset.lane l = s.lane l
      ∧ s.cancelledAtReset.clearAtReset.pendingGen = s.pendingGen := by
    rw [State.cancelledAtReset_frame]
    exact ⟨rfl, rfl⟩
  rw [State.lanesAtReset, State.mapLanes_lane, State.adoptedAtReset, State.adoptAtReset_lane_gen, cleared.1, cleared.2]

theorem State.lineReset_laneTables (s : State) (l : LaneId) : s.lineReset.laneTables l = s.lanesAtReset.laneTables l := by
  have frame : s.lineReset = { s.lanesAtReset with lanes := s.restedAtReset.lanes, events := s.lineReset.events } := by
    rw [State.lineReset_rested_frame, State.restedAtReset_frame]
  have gen : (s.lineReset.lane l).gen = (s.lanesAtReset.lane l).gen := by
    rw [frame]
    change (s.restedAtReset.lane l).gen = _
    rw [State.restedAtReset_lane]
    rfl
  refine State.laneTables_congr gen ?_ ?_ ?_ ?_
  all_goals rw [frame]

/-- A lane after a line reset: at its reset values, in the generation that every lane then holds, at rest in it. -/
theorem State.lineReset_lane (s : State) (l : LaneId) :
    s.lineReset.lane l = ({ (s.lane l).lineReset with gen := s.pendingGen.getD (s.lane l).gen } : Lane).rested
      (s.lineReset.laneEnabled l) (s.lineReset.profileRec l) := by
  have tables := s.lineReset_laneTables l
  rw [State.laneEnabled_of_laneTables tables, State.profileRec_of_laneTables tables, ← State.lanesAtReset_lane,
    ← State.restedAtReset_lane, State.lineReset_rested_frame]
  rfl

/-! ### The events (R192, R193, R197) -/

/-- No occurrence has come about: the latch, the source set and the count are as they were. -/
def EventState.Quiet (a b : EventState) : Prop := b.latch = a.latch ∧ b.sources = a.sources ∧ b.count = a.count

theorem EventState.Quiet.refl (a : EventState) : a.Quiet a := ⟨rfl, rfl, rfl⟩

theorem EventState.Quiet.trans {a b c : EventState} (h : a.Quiet b) (k : b.Quiet c) : a.Quiet c := by
  obtain ⟨latch, sources, count⟩ := h
  obtain ⟨latch', sources', count'⟩ := k
  exact ⟨latch'.trans latch, sources'.trans sources, count'.trans count⟩

/-- A level that falls is no occurrence. -/
theorem State.setRaw_low_quiet (s : State) (c d : Fin 20) (src : Nat) :
    (s.event d).Quiet ((s.setRaw c src false).event d) := by
  by_cases same : d = c
  · subst same
    by_cases source : src < Ev.sourceCount d
    · rw [State.setRaw_low s source]
      exact ⟨rfl, rfl, rfl⟩
    · rw [State.setRaw_of_no_source s (by omega)]
      exact .refl _
  · rw [State.setRaw_event_ne s src false same]
    exact .refl _

theorem State.chanRawsAtReset_quiet (s : State) (c : ChanId) (d : Fin 20) :
    (s.event d).Quiet ((s.chanRawsAtReset c).event d) :=
  (s.setRaw_low_quiet _ d _).trans (State.setRaw_low_quiet _ _ d _)

theorem State.laneRawsAtReset_quiet (s : State) (l : LaneId) {d : Fin 20} (head : d ≠ Ev.headDown) :
    (s.event d).Quiet ((s.laneRawsAtReset l).event d) := by
  rw [State.laneRawsAtReset, State.evalHeadDown, State.setRaw_event_ne _ _ _ head]
  exact ((s.setRaw_low_quiet _ d _).trans (State.setRaw_low_quiet _ _ d _)).trans (State.setRaw_low_quiet _ _ d _)

/-- A pass reports nothing of a class when no turn does. -/
theorem foldl_quiet {α : Type} (f : State → α → State) (d : Fin 20)
    (turn : ∀ (u : State) (x : α), (u.event d).Quiet ((f u x).event d)) (xs : List α) (s : State) :
    (s.event d).Quiet ((xs.foldl f s).event d) :=
  List.foldlRecOn (motive := fun u : State => (s.event d).Quiet (u.event d)) xs f (.refl _)
    fun u quiet x _ => quiet.trans (turn u x)

theorem State.adoptAtReset_event_ne (s : State) {d : Fin 20} (adopted : d ≠ Ev.tablesAdopted) :
    s.adoptAtReset.event d = s.event d := by
  unfold State.adoptAtReset
  split
  · rfl
  · dsimp only
    split_ifs
    · rfl
    · exact State.occur_event_ne _ 0 adopted

/-- Until the raw levels are handed over, only an adoption is reported. -/
theorem State.restedAtReset_event_ne (s : State) {d : Fin 20} (adopted : d ≠ Ev.tablesAdopted) :
    s.restedAtReset.event d = s.event d := by
  have start : s.restedAtReset.event d = s.adoptedAtReset.event d := by
    rw [State.restedAtReset_frame]
    rfl
  rw [start, State.adoptedAtReset, State.adoptAtReset_event_ne _ adopted, State.cancelledAtReset_frame]
  rfl

theorem State.leveledAtReset_quiet (s : State) {d : Fin 20} (adopted : d ≠ Ev.tablesAdopted) (head : d ≠ Ev.headDown) :
    (s.event d).Quiet (s.leveledAtReset.event d) := by
  rw [← State.restedAtReset_event_ne s adopted]
  exact (foldl_quiet State.laneRawsAtReset d (fun u l => u.laneRawsAtReset_quiet l head) allLanes _).trans
    (foldl_quiet State.chanRawsAtReset d (fun u c => u.chanRawsAtReset_quiet c d) allChans _)

theorem State.lineReset_quiet (s : State) {d : Fin 20} (reset : d ≠ Ev.partReset) (adopted : d ≠ Ev.tablesAdopted)
    (head : d ≠ Ev.headDown) : (s.event d).Quiet (s.lineReset.event d) := by
  rw [State.lineReset_eq, State.occur_event_ne _ 0 reset]
  exact s.leveledAtReset_quiet adopted head

/-- PART_RESET occurs at every line reset (R197). -/
theorem State.lineReset_partReset (s : State) : (s.lineReset.event Ev.partReset).latch = true
    ∧ (s.lineReset.event Ev.partReset).count = min 255 ((s.event Ev.partReset).count + 1) := by
  obtain ⟨_, _, count⟩ := s.leveledAtReset_quiet (d := Ev.partReset) (by decide) (by decide)
  rw [State.lineReset_eq, State.occur_event_self _ (by decide), ← count]
  exact ⟨rfl, rfl⟩

/-! ### The raw levels (R102, R192) -/

theorem State.setRaw_raw_ne (s : State) (c : Fin 20) {src j : Nat} (level : Bool) (ne : j ≠ src) :
    ((s.setRaw c src level).event c).raw.getLsbD j = (s.event c).raw.getLsbD j := by
  unfold State.setRaw
  split_ifs with outside same rise
  · rfl
  · rfl
  all_goals
    have bit := sourceBit_getLsbD (Ev.source_lt (c := c) (src := src) (by omega)) j
    rw [decide_eq_false ne] at bit
    rw [State.setEvent_event_self]
  · rw [EventState.occur_raised, BitVec.getLsbD_or, bit, Bool.or_false]
  · rw [BitVec.getLsbD_and, BitVec.getLsbD_not, bit, Bool.not_false, Bool.and_true]
    by_cases inside : j < 16
    · rw [decide_eq_true inside, Bool.and_true]
    · rw [BitVec.getLsbD_of_ge _ _ (by omega), Bool.false_and]

/-- The level of HEAD_DOWN at a lane (R102). -/
def State.headDownLevel (s : State) (l : LaneId) : Bool := s.laneEnabled l && !s.linkUp (.head l)

theorem State.laneRawsAtReset_headDown (s : State) (k l : LaneId) :
    ((s.laneRawsAtReset k).event Ev.headDown).raw.getLsbD l.val
      = if l = k then s.headDownLevel l else (s.event Ev.headDown).raw.getLsbD l.val := by
  rw [State.laneRawsAtReset]
  split_ifs with same
  · subst same
    rw [State.evalHeadDown, State.setRaw_raw _ (Ev.lane_source (by decide) l)]
    rw [State.setRaw_frame (s.setRaw _ _ _ |>.setRaw _ _ _), State.setRaw_frame (s.setRaw _ _ _), State.setRaw_frame s]
    rfl
  · rw [State.evalHeadDown, State.setRaw_raw_ne _ _ _ fun e => same (Fin.ext e)]
    rw [State.setRaw_event_ne _ _ _ (by decide), State.setRaw_event_ne _ _ _ (by decide),
      State.setRaw_event_ne _ _ _ (by decide)]

/-- The level is handed over in the lane's own turn, and each turn reads what no turn changes. -/
theorem foldl_laneRawsAtReset_headDown (s : State) (l : LaneId) :
    ((allLanes.foldl State.laneRawsAtReset s).event Ev.headDown).raw.getLsbD l.val = s.headDownLevel l := by
  have level (u : State) (k : LaneId) : (u.laneRawsAtReset k).headDownLevel l = u.headDownLevel l := by
    rw [State.laneRawsAtReset_frame]
    rfl
  obtain ⟨before, after, parts⟩ := List.append_of_mem (mem_allLanes l)
  rw [parts, List.foldl_append, List.foldl_cons]
  have reached := foldl_field (fun u => u.headDownLevel l) State.laneRawsAtReset level before s
  refine (List.foldlRecOn (motive := fun u : State => (u.event Ev.headDown).raw.getLsbD l.val = s.headDownLevel l
    ∧ u.headDownLevel l = s.headDownLevel l) after State.laneRawsAtReset ⟨?own, (level _ l).trans reached⟩ ?later).1
  case own => rw [State.laneRawsAtReset_headDown, if_pos rfl, reached]
  case later =>
    rintro u ⟨bit, same⟩ k _
    refine ⟨?_, (level u k).trans same⟩
    rw [State.laneRawsAtReset_headDown, bit, same, ite_self]

theorem State.lineReset_headDown (s : State) (l : LaneId) :
    (s.lineReset.event Ev.headDown).raw.getLsbD l.val = s.lineReset.headDownLevel l := by
  have level : s.lineReset.headDownLevel l = s.restedAtReset.headDownLevel l := by
    rw [State.lineReset_rested_frame]
    rfl
  have channels (u : State) (c : ChanId) : (u.chanRawsAtReset c).event Ev.headDown = u.event Ev.headDown := by
    rw [State.chanRawsAtReset, State.setRaw_event_ne _ _ _ (by decide), State.setRaw_event_ne _ _ _ (by decide)]
  rw [level, State.lineReset_eq, State.occur_event_ne _ 0 (by decide), State.leveledAtReset,
    foldl_field (fun u => u.event Ev.headDown) State.chanRawsAtReset channels, foldl_laneRawsAtReset_headDown]

/-- TRUNK_DOWN takes no part in a line reset. -/
theorem State.lineReset_trunkDown (s : State) : s.lineReset.event Ev.trunkDown = s.event Ev.trunkDown := by
  have channels (u : State) (c : ChanId) : (u.chanRawsAtReset c).event Ev.trunkDown = u.event Ev.trunkDown := by
    rw [State.chanRawsAtReset, State.setRaw_event_ne _ _ _ (by decide), State.setRaw_event_ne _ _ _ (by decide)]
  have lanes (u : State) (l : LaneId) : (u.laneRawsAtReset l).event Ev.trunkDown = u.event Ev.trunkDown := by
    rw [State.laneRawsAtReset, State.evalHeadDown, State.setRaw_event_ne _ _ _ (by decide),
      State.setRaw_event_ne _ _ _ (by decide), State.setRaw_event_ne _ _ _ (by decide),
      State.setRaw_event_ne _ _ _ (by decide)]
  rw [State.lineReset_eq, State.occur_event_ne _ 0 (by decide), State.leveledAtReset,
    foldl_field (fun u => u.event Ev.trunkDown) State.chanRawsAtReset channels,
    foldl_field (fun u => u.event Ev.trunkDown) State.laneRawsAtReset lanes, State.restedAtReset_event_ne s (by decide)]

/-! ### The transmit slots after a line reset (R162, R163, R170) -/

/-- A slot with no queued copy does not move the round-robin pointer. -/
theorem State.slot_rr {s : State} (empty : ∀ c, (s.chan c).queue = []) (k j : Trunk) :
    ((s.slot k).trunk j).rr = (s.trunk j).rr := by
  have turn : s.turn k = none := List.find?_eq_none.2 fun x _ => by simp [State.eligible, empty]
  have loaded (u : State) (owner : TxOwner) (cell : OutCell) : ((u.load k owner cell).trunk j).rr = (u.trunk j).rr := by
    by_cases e : k = j
    · subst e
      rw [State.load_trunk_self]
    · rw [State.load, State.setTrunk_trunk_ne _ _ _ _ e]
  rw [State.slot, State.channelSlot, turn]
  split
  · split
    · exact loaded s _ _
    · rw [State.reportSlot]
      split
      · split_ifs
        · exact loaded _ _ _
        · rfl
      · rfl
  · rfl

theorem State.slots_rr {s : State} (empty : ∀ c, (s.chan c).queue = []) (j : Trunk) :
    (s.slots.trunk j).rr = (s.trunk j).rr := by
  have empty' (c : ChanId) : ((s.slot .a).chan c).queue = [] := by
    obtain ⟨_, _, _, _, channels, _⟩ := (SlotsKept.slot s .a).paper
    rw [State.chan, channels]
    exact empty c
  rw [State.slots, State.slot_rr empty', State.slot_rr empty]

section
variable {s t : State} {k j : Trunk} (ne : k ≠ j)
include ne

theorem State.load_trunk_ne (u : State) (owner : TxOwner) (cell : OutCell) : (u.load k owner cell).trunk j = u.trunk j :=
  State.setTrunk_trunk_ne _ _ _ _ ne

theorem State.reportSlot_trunk_ne (report : s.reportSlot k = some t) : t.trunk j = s.trunk j := by
  unfold State.reportSlot at report
  split at report
  · split_ifs at report
    cases report
    rw [State.load_trunk_ne ne, State.setEvent_trunk]
  · cases report

theorem State.channelSlot_trunk_ne (channel : s.channelSlot k = some t) : t.trunk j = s.trunk j := by
  unfold State.channelSlot at channel
  split at channel
  · obtain ⟨cell, _, rfl⟩ := Option.map_eq_some_iff.1 channel
    rw [State.load_trunk_ne ne, State.setTrunk_trunk_ne _ _ _ _ ne]
  · cases channel

/-- The slot of one trunk leaves the other trunk. -/
theorem State.slot_trunk_ne (s : State) : (s.slot k).trunk j = s.trunk j := by
  rw [State.slot]
  split
  · split
    · exact State.load_trunk_ne ne s _ _
    · cases report : s.reportSlot k with
      | some t => exact State.reportSlot_trunk_ne ne report
      | none =>
        cases channel : s.channelSlot k with
        | some t => exact State.channelSlot_trunk_ne ne channel
        | none => rfl
  · rfl

end

/-- A trunk whose link is not UP takes no cell. -/
theorem State.slots_trunk_of_not_up {s : State} {k : Trunk} (down : s.linkUp (.trunk k) = false) :
    s.slots.trunk k = s.trunk k := by
  cases k with
  | a => rw [State.slots, State.slot_trunk_ne (by decide), State.slot_of_not_up down]
  | b =>
    have down' : (s.slot .a).linkUp (.trunk .b) = false := by
      rw [State.linkUp, (SlotsKept.slot s .a).links.1]
      exact down
    rw [State.slots, State.slot_of_not_up down', State.slot_trunk_ne (by decide)]

/-! ### The whole of it -/

/-- In `t` a line reset of `s` has taken effect, and the transmit slots of its act have been taken. -/
structure LineReset (s t : State) : Prop where
  resetCause : t.resetCause = .requestLine
  entry : ∀ i, t.entry i = (s.entry i).freed
  cells : FreeList.cells t.pool = List.range 65536
  lane : ∀ l, t.lane l = ({ (s.lane l).lineReset with gen := s.pendingGen.getD (s.lane l).gen } : Lane).rested
    (t.laneEnabled l) (t.profileRec l)
  chan : ∀ c, t.chan c = ⟨[], .opened, none⟩
  link : ∀ p, t.link p = s.link p
  stale : ∀ l, (t.head l).staleCount = (s.head l).staleCount
  txQueue : ∀ l, (t.head l).txQueue = (s.head l).txQueue ++ s.cancels l allEntries
  rr : ∀ k, (t.trunk k).rr = 0
  port : ∀ k, (t.trunk k).requests = (s.trunk k).requests ∧ (t.trunk k).reply = (s.trunk k).reply
    ∧ (t.trunk k).discards = (s.trunk k).discards
  path : ∀ k, s.linkUp (.trunk k) = false → (s.trunk k).tx = none → (t.trunk k).tx = none
  banks : t.banks = s.banks
  genCounter : t.genCounter = s.genCounter
  adopts : ∀ g, s.pendingGen = some g →
    t.activeGen = g ∧ t.channelGen = g ∧ t.activeBank = s.otherBank ∧ t.otherRole = .retired 4
  role : s.pendingGen = none → t.otherRole = s.otherRole
  mgmtTrunk : t.mgmtTrunk = s.mgmtTrunk
  lastServed : t.lastServed = s.lastServed
  mask : ∀ c, (t.event c).enabled = (s.event c).enabled ∧ (t.event c).priority = (s.event c).priority
  quiet : ∀ c, c ≠ Ev.partReset → c ≠ Ev.tablesAdopted → c ≠ Ev.headDown → (s.event c).Quiet (t.event c)
  partReset : (t.event Ev.partReset).latch = true
    ∧ (t.event Ev.partReset).count = min 255 ((s.event Ev.partReset).count + 1)
  headDown : ∀ l : LaneId, (t.event Ev.headDown).raw.getLsbD l.val = (t.laneEnabled l && !t.linkUp (.head l))
  trunkDown : (t.event Ev.trunkDown).raw = (s.event Ev.trunkDown).raw

end Sys2Proof.Machine
end

section
/-! What a line reset leaves (R191): as the reply to PART_RESET(LINE) goes out, and as the trunk of that reply is
lost. -/

namespace Sys2Proof.Machine

/- One proof after another: every thread of a parallel elaboration reserves memory, which the check limits. -/
set_option Elab.async false

/-! ### The state after a line reset, before the transmit slots -/

section
variable (s : State)

theorem State.lineReset_entry (i : Fin 64) : s.lineReset.entry i = (s.entry i).freed := by
  rw [State.lineReset_frame]
  simp [State.clearAtReset, State.entry]

theorem State.lineReset_chan (c : ChanId) : s.lineReset.chan c = ⟨[], .opened, none⟩ := by
  rw [State.lineReset_frame]
  simp [State.clearAtReset, State.chan, Channel.reset]

theorem State.lineReset_trunk (k : Trunk) : s.lineReset.trunk k = (s.trunk k).lineReset := by
  rw [State.lineReset_frame]
  cases k <;> rfl

theorem State.lineReset_head (l : LaneId) : s.lineReset.head l = s.cancelledAtReset.head l := by
  rw [State.lineReset_frame]
  rfl

theorem State.lineReset_link (p : Port) : s.lineReset.link p = s.link p := by
  cases p with
  | head l =>
    rw [State.link, State.lineReset_head]
    exact (Kept.cancelledAtReset s).link l
  | trunk k =>
    rw [State.link, State.lineReset_trunk]
    rfl

theorem State.lineReset_adopts {g : Gen} (pending : s.pendingGen = some g) :
    s.lineReset.activeGen = g ∧ s.lineReset.channelGen = g ∧ s.lineReset.activeBank = s.otherBank
      ∧ s.lineReset.otherRole = .retired 4 := by
  have cleared : s.cancelledAtReset.clearAtReset.pendingGen = some g := by
    rw [State.cancelledAtReset_frame]
    exact pending
  rw [State.lineReset_frame, State.adoptedAtReset, State.adoptAtReset_of_pending cleared, State.cancelledAtReset_frame]
  exact ⟨rfl, rfl, rfl, rfl⟩

theorem State.lineReset_role (none : s.pendingGen = none) : s.lineReset.otherRole = s.otherRole := by
  have cleared : s.cancelledAtReset.clearAtReset.pendingGen = .none := by
    rw [State.cancelledAtReset_frame]
    exact none
  rw [State.lineReset_frame, State.adoptedAtReset, State.adoptAtReset_of_none cleared, State.cancelledAtReset_frame]
  rfl

/-- The mask and the priority of every class stay (R197). -/
theorem State.lineReset_mask (c : Fin 20) : (s.lineReset.event c).enabled = (s.event c).enabled
    ∧ (s.lineReset.event c).priority = (s.event c).priority := by
  have grew := (Kept.lineReset s).event c
  have cleared : s.cancelledAtReset.clearAtReset.event c = s.event c := by
    rw [State.cancelledAtReset_frame]
    rfl
  rw [cleared] at grew
  exact ⟨grew.enabled, grew.priority⟩

end

/-! ### After the transmit slots -/

/-- An act that ends with a line reset. -/
theorem LineReset.settled (s : State) : LineReset s (settle (s.lineReset, [])) := by
  rw [settle_nil]
  have slots := SlotsKept.slots s.lineReset
  obtain ⟨lanes, entries, pool, _, channels, heads⟩ := slots.paper
  obtain ⟨banks, activeBank, activeGen, otherRole, genCounter, channelGen⟩ := slots.tables
  obtain ⟨link, mgmtTrunk, resetCause, _⟩ := slots.links
  have tables (l : LaneId) : s.lineReset.slots.laneTables l = s.lineReset.laneTables l :=
    State.laneTables_congr (congrArg Lane.gen (slots.lane l)) banks activeBank activeGen otherRole
  have enabled (l : LaneId) := State.laneEnabled_of_laneTables (tables l)
  constructor
  case resetCause => rw [resetCause, State.lineReset_frame]; rfl
  case entry =>
    intro i
    rw [State.entry, entries]
    exact s.lineReset_entry i
  case cells =>
    rw [pool, State.lineReset_frame]
    exact FreeList.whole_cells
  case lane =>
    intro l
    rw [slots.lane, enabled, State.profileRec_of_laneTables (tables l)]
    exact s.lineReset_lane l
  case chan =>
    intro c
    rw [State.chan, channels]
    exact s.lineReset_chan c
  case link => exact fun p => (link p).trans (s.lineReset_link p)
  case stale =>
    intro l
    rw [slots.head, State.lineReset_head]
    exact (Kept.cancelledAtReset s).stale l
  case txQueue =>
    intro l
    rw [slots.head, State.lineReset_head]
    exact s.cancelledAtReset_txQueue l
  case rr =>
    intro k
    rw [State.slots_rr (fun c => by rw [State.lineReset_chan]), State.lineReset_trunk]
    rfl
  case port =>
    intro k
    obtain ⟨_, requests, discards, reply, _⟩ := slots.port k
    rw [requests, discards, reply, State.lineReset_trunk]
    exact ⟨rfl, rfl, rfl⟩
  case path =>
    intro k down free
    have down' : s.lineReset.linkUp (.trunk k) = false := by
      rw [State.linkUp, State.lineReset_link]
      exact down
    rw [State.slots_trunk_of_not_up down', State.lineReset_trunk, TrunkPort.lineReset, free]
    rfl
  case banks =>
    rw [banks, State.lineReset_frame]
    rfl
  case genCounter =>
    rw [genCounter, State.lineReset_frame]
    rfl
  case adopts =>
    intro g pending
    rw [activeGen, channelGen, activeBank, otherRole]
    exact s.lineReset_adopts pending
  case role => exact fun none => otherRole.trans (s.lineReset_role none)
  case mgmtTrunk =>
    rw [mgmtTrunk, State.lineReset_frame]
    rfl
  case lastServed =>
    rw [slots.lastServed, State.lineReset_frame]
    rfl
  case mask =>
    intro c
    obtain ⟨_, _, _, _, mask, priority⟩ := slots.events c
    rw [mask, priority]
    exact s.lineReset_mask c
  case quiet =>
    intro c reset adopted head
    obtain ⟨_, latch, sources, count, _, _⟩ := slots.events c
    exact (s.lineReset_quiet reset adopted head).trans ⟨latch, sources, count⟩
  case partReset =>
    obtain ⟨_, latch, _, count, _, _⟩ := slots.events Ev.partReset
    rw [latch, count]
    exact s.lineReset_partReset
  case headDown =>
    intro l
    obtain ⟨raw, _⟩ := slots.events Ev.headDown
    rw [raw, enabled, State.linkUp, link]
    exact s.lineReset_headDown l
  case trunkDown =>
    obtain ⟨raw, _⟩ := slots.events Ev.trunkDown
    rw [raw, State.lineReset_trunkDown]

namespace LineReset

variable {s t : State}

theorem pageAt (reset : LineReset s t) (i : Fin 64) : t.pageAt i = none ∧ (t.entry i).incarnation =
    if (s.pageAt i).isSome then ((s.entry i).incarnation + 1) % 4 else (s.entry i).incarnation := by
  rw [State.pageAt, reset.entry, State.pageAt, Entry.freed]
  cases page : (s.entry i).page with
  | none => exact ⟨page, rfl⟩
  | some p => exact ⟨rfl, rfl⟩

/-- A lane after a line reset, in the words of the rules. -/
theorem laneFacts (reset : LineReset s t) (l : LaneId) :
    (t.lane l).Fresh ∧ (t.lane l).state = (if t.laneEnabled l then .idle else .off)
      ∧ (t.lane l).gen = s.pendingGen.getD (s.lane l).gen ∧ (t.lane l).batch.cls = (t.profileRec l).defaultClass
      ∧ SamePins (s.lane l) (t.lane l) := by
  have lane := reset.lane l
  generalize t.laneEnabled l = enabled at lane ⊢
  generalize t.profileRec l = profile at lane ⊢
  rw [lane]
  exact ⟨(s.lane l).hardReset_fresh, rfl, rfl, rfl, rfl, rfl, rfl⟩

end LineReset

theorem State.replyGone_link (s : State) (k : Trunk) (p : Port) : (s.replyGone k).link p = s.link p := by
  cases p with
  | head l =>
    rw [State.replyGone_frame]
    rfl
  | trunk j =>
    rw [State.link]
    rcases eq_or_otherTrunk j k with rfl | rfl
    · rw [State.replyGone_trunk_self]
      rfl
    · rw [State.replyGone_trunk_other]
      rfl

theorem exec_replySent_line {s : State} {k : Trunk} {cell : OutCell} {r : Reply}
    (sent : (s.trunk k).tx = some ⟨.reply, cell⟩) (reply : (s.trunk k).reply = some r) (line : r.reset = some .line) :
    Completes (.replySent k) s (LineReset (s.replyGone k)) := by
  have ran := exec_replySent sent
  rw [reply, Option.bind_some, line] at ran
  exact ⟨_, ran, .settled (s.replyGone k)⟩

/-- Settles O6: the reset that the reply waits for is that of the state without the reply. -/
theorem lineResetLeaves : Obligations.LineResetLeaves := by
  intro s k cell r sent reply line
  obtain ⟨t, ran, reset⟩ := exec_replySent_line sent reply line
  refine ⟨t, ran, ?_⟩
  obtain ⟨requests, replies, _⟩ := reset.port k
  obtain ⟨requests', replies', _⟩ := reset.port (otherTrunk k)
  rw [State.replyGone_trunk_self] at requests replies
  rw [State.replyGone_trunk_other] at requests' replies'
  have link (p : Port) := (reset.link p).trans (s.replyGone_link k p)
  obtain ⟨a, b, gone⟩ : ∃ a b, s.replyGone k = { s with trunkA := a, trunkB := b } := ⟨_, _, s.replyGone_frame k⟩
  rw [gone] at reset
  have queue (l : LaneId) := reset.txQueue l
  unfold State.cancels allEntries at queue
  exact ⟨reset.resetCause, reset.pageAt, reset.cells, reset.laneFacts, reset.chan, link,
    fun l => ⟨reset.stale l, queue l⟩, reset.rr, reset.banks, reset.genCounter, reset.adopts, reset.role, replies,
    requests, replies', requests', reset.mgmtTrunk, reset.lastServed, reset.mask, reset.quiet, reset.partReset.1,
    reset.partReset.2, reset.headDown⟩

end Sys2Proof.Machine
end

section
/-! The loss of a trunk's link (R188, R189, R192, R200), and a reset whose reply is lost with it (R191). -/

namespace Sys2Proof.Machine

/- One proof after another: every thread of a parallel elaboration reserves memory, which the check limits. -/
set_option Elab.async false

/-! ### The trunk that is lost -/

/-- The trunk's path, reply and queue are cleared, an abandoned report is pending again, and the management trunk may
have changed; TRUNK_DOWN is still as it was. -/
def State.trunkCleared (s : State) (k : Trunk) : State :=
  { (s.restoreReport (s.trunk k).tx).setTrunk k { s.trunk k with tx := none, reply := none, requests := [] } with
    mgmtTrunk := if s.mgmtTrunk = k ∧ s.linkUp (.trunk (otherTrunk k)) = true then otherTrunk k else s.mgmtTrunk }

/-- The trunk's link has gone DOWN. -/
def State.linkDown (s : State) (k : Trunk) : State := s.setLink (.trunk k) (s.link (.trunk k)).toDown

/-- The trunk's link has left UP, and what depends on it has taken that. -/
def State.trunkLost (s : State) (k : Trunk) : State := (s.linkDown k).trunkLoss k

theorem exec_lossOfSignal_trunk {s : State} {k : Trunk} (up : s.linkUp (.trunk k) = true) :
    exec (.lossOfSignal (.trunk k)) s
      = act ((s.trunkLost k).takeReset ((s.trunk k).reply.bind Reply.reset), []) := by
  have reply : ((s.linkDown k).trunk k).reply = (s.trunk k).reply := by
    rw [State.linkDown, State.setLink, State.setTrunk_trunk_self]
  have ran : exec (.lossOfSignal (.trunk k)) s = act (goDown (.trunk k) (s.link (.trunk k)) s) := rfl
  rw [ran, goDown, if_pos up, portLoss, ← State.linkDown, reply]
  rfl

theorem State.restoreReport_frame (s : State) (tx : Option TxCell) :
    s.restoreReport tx = { s with events := (s.restoreReport tx).events } := by
  unfold State.restoreReport
  split
  · split_ifs <;> rfl
  · rfl

/-- Report-pending of an abandoned report is all that a lost path changes of the events (R200). -/
theorem State.restoreReport_event (s : State) (tx : Option TxCell) (c : Fin 20) :
    (s.restoreReport tx).event c = { s.event c with reportPending := ((s.restoreReport tx).event c).reportPending } := by
  unfold State.restoreReport
  split
  · rename_i d _
    split_ifs
    · by_cases e : d = c
      · subst e
        rw [State.setEvent_event_self]
      · rw [State.setEvent_event_ne _ _ _ _ e]
    · rfl
  · rfl

theorem State.restoreReport_pending {s : State} {c : Fin 20} (cell : OutCell) (enabled : (s.event c).enabled = true)
    (latch : (s.event c).latch = true) : ((s.restoreReport (some ⟨.report c, cell⟩)).event c).reportPending = true := by
  rw [State.restoreReport]
  simp [enabled, latch]

section
variable (s : State) (k : Trunk)

theorem State.trunkLoss_eq : s.trunkLoss k = (s.trunkCleared k).evalTrunkDown k := by
  rw [State.trunkLoss, State.trunkCleared]
  split_ifs
  · rfl
  · rw [State.restoreReport_frame]
    cases k <;> rfl

theorem State.trunkCleared_event (c : Fin 20) : (s.trunkCleared k).event c = (s.restoreReport (s.trunk k).tx).event c :=
  State.setTrunk_event _ k _ c

theorem State.trunkCleared_trunk_self :
    (s.trunkCleared k).trunk k = { s.trunk k with tx := none, reply := none, requests := [] } :=
  State.setTrunk_trunk_self _ k _

theorem State.trunkCleared_trunk_other : (s.trunkCleared k).trunk (otherTrunk k) = s.trunk (otherTrunk k) := by
  refine (State.setTrunk_trunk_ne _ k _ _ (otherTrunk_ne k).symm).trans ?_
  rw [State.restoreReport_frame]
  rfl

theorem State.trunkLoss_trunk (j : Trunk) : (s.trunkLoss k).trunk j = (s.trunkCleared k).trunk j := by
  rw [State.trunkLoss_eq, State.evalTrunkDown, State.setRaw_frame]
  rfl

theorem State.trunkLoss_frame : s.trunkLoss k = { s with
    trunkA := (s.trunkLoss k).trunkA, trunkB := (s.trunkLoss k).trunkB, mgmtTrunk := (s.trunkLoss k).mgmtTrunk
    events := (s.trunkLoss k).events } := by
  rw [State.trunkLoss_eq, State.evalTrunkDown, State.setRaw_frame, State.trunkCleared, State.restoreReport_frame]
  cases k <;> rfl

theorem State.trunkLoss_mgmtTrunk : (s.trunkLoss k).mgmtTrunk =
    if s.mgmtTrunk = k ∧ s.linkUp (.trunk (otherTrunk k)) = true then otherTrunk k else s.mgmtTrunk := by
  rw [State.trunkLoss_eq, State.evalTrunkDown, State.setRaw_frame]
  rfl

end

/-! ### The trunk that is lost, by the state before its link left UP -/

section
variable (s : State) (k : Trunk)

theorem State.linkDown_trunk_self : (s.linkDown k).trunk k = { s.trunk k with link := (s.trunk k).link.toDown } :=
  s.setTrunk_trunk_self k _

theorem State.linkDown_trunk_other : (s.linkDown k).trunk (otherTrunk k) = s.trunk (otherTrunk k) :=
  s.setTrunk_trunk_ne k _ _ (otherTrunk_ne k).symm

theorem State.linkDown_frame :
    s.linkDown k = { s with trunkA := (s.linkDown k).trunkA, trunkB := (s.linkDown k).trunkB } := by
  cases k <;> rfl

theorem State.linkDown_event (c : Fin 20) : (s.linkDown k).event c = s.event c := by
  rw [State.linkDown_frame]
  rfl

theorem State.trunkLost_frame : s.trunkLost k = { s with
    trunkA := (s.trunkLost k).trunkA, trunkB := (s.trunkLost k).trunkB, mgmtTrunk := (s.trunkLost k).mgmtTrunk
    events := (s.trunkLost k).events } := by
  rw [State.trunkLost, State.trunkLoss_frame, State.linkDown_frame]

theorem State.trunkLost_trunk_self : (s.trunkLost k).trunk k =
    { s.trunk k with link := (s.trunk k).link.toDown, tx := none, reply := none, requests := [] } := by
  rw [State.trunkLost, State.trunkLoss_trunk, State.trunkCleared_trunk_self, State.linkDown_trunk_self]

theorem State.trunkLost_trunk_other : (s.trunkLost k).trunk (otherTrunk k) = s.trunk (otherTrunk k) := by
  rw [State.trunkLost, State.trunkLoss_trunk, State.trunkCleared_trunk_other, State.linkDown_trunk_other]

theorem State.trunkLost_link_self : (s.trunkLost k).link (.trunk k) = (s.trunk k).link.toDown := by
  rw [State.link, State.trunkLost_trunk_self]

theorem State.trunkLost_link_ne {p : Port} (ne : p ≠ .trunk k) : (s.trunkLost k).link p = s.link p := by
  cases p with
  | head l =>
    rw [State.trunkLost_frame]
    rfl
  | trunk j =>
    rcases eq_or_otherTrunk j k with rfl | rfl
    · exact absurd rfl ne
    · rw [State.link, State.trunkLost_trunk_other]
      rfl

/-- The other trunk becomes the management trunk when it is UP and this one was it (R189). -/
theorem State.trunkLost_mgmtTrunk : (s.trunkLost k).mgmtTrunk =
    if s.mgmtTrunk = k ∧ s.linkUp (.trunk (otherTrunk k)) = true then otherTrunk k else s.mgmtTrunk := by
  have up : (s.linkDown k).linkUp (.trunk (otherTrunk k)) = s.linkUp (.trunk (otherTrunk k)) := by
    rw [State.linkUp, State.link, State.linkDown_trunk_other]
    rfl
  have mgmt : (s.linkDown k).mgmtTrunk = s.mgmtTrunk := by rw [State.linkDown_frame]
  rw [State.trunkLost, State.trunkLoss_mgmtTrunk, up, mgmt]

/-! ### Its events (R192, R193, R200) -/

theorem State.setRaw_pending {s : State} {c : Fin 20} (pending : (s.event c).reportPending = true) (d : Fin 20)
    (src : Nat) (level : Bool) : ((s.setRaw d src level).event c).reportPending = true := by
  by_cases same : c = d
  · subst same
    unfold State.setRaw
    split_ifs
    · exact pending
    · exact pending
    · simp [EventState.occur, pending]
    · simpa using pending
  · rw [State.setRaw_event_ne _ _ _ same, pending]

/-- The state when TRUNK_DOWN is evaluated. -/
theorem State.trunkLost_events : s.trunkLost k
    = ((s.linkDown k).trunkCleared k).setRaw Ev.trunkDown (trunkIndex k) (s.trunk k).hasBeenUp := by
  have level : ((((s.linkDown k).trunkCleared k).trunk k).hasBeenUp
      && !((s.linkDown k).trunkCleared k).linkUp (.trunk k)) = (s.trunk k).hasBeenUp := by
    rw [State.linkUp, State.link, State.trunkCleared_trunk_self, State.linkDown_trunk_self]
    exact Bool.and_true _
  rw [State.trunkLost, State.trunkLoss_eq, State.evalTrunkDown, level]

theorem trunkIndex_source : trunkIndex k < Ev.sourceCount Ev.trunkDown := by
  cases k <;> decide

theorem State.trunkLost_raw :
    ((s.trunkLost k).event Ev.trunkDown).raw.getLsbD (trunkIndex k) = (s.trunk k).hasBeenUp := by
  rw [State.trunkLost_events, State.setRaw_raw _ (trunkIndex_source k)]

/-- An abandoned report is pending again (R200). -/
theorem State.trunkLost_pending {c : Fin 20} {cell : OutCell} (sending : (s.trunk k).tx = some ⟨.report c, cell⟩)
    (enabled : (s.event c).enabled = true) (latch : (s.event c).latch = true) :
    ((s.trunkLost k).event c).reportPending = true := by
  have path : ((s.linkDown k).trunk k).tx = some ⟨.report c, cell⟩ := by
    rw [State.linkDown_trunk_self]
    exact sending
  rw [← State.linkDown_event s k] at enabled latch
  rw [State.trunkLost_events]
  refine State.setRaw_pending ?_ _ _ _
  rw [State.trunkCleared_event, path]
  exact State.restoreReport_pending cell enabled latch

/-- A trunk that has been UP goes down: an occurrence of TRUNK_DOWN, when it was not down already (R192, R193). -/
theorem State.trunkLost_occurs (been : (s.trunk k).hasBeenUp = true)
    (low : (s.event Ev.trunkDown).raw.getLsbD (trunkIndex k) = false) :
    ((s.trunkLost k).event Ev.trunkDown).latch = true
      ∧ ((s.trunkLost k).event Ev.trunkDown).sources.getLsbD (trunkIndex k) = true := by
  have low' : (((s.linkDown k).trunkCleared k).event Ev.trunkDown).raw.getLsbD (trunkIndex k) = false := by
    rw [State.trunkCleared_event, State.restoreReport_event, State.linkDown_event]
    exact low
  rw [State.trunkLost_events, been, State.setRaw_rise (trunkIndex_source k) low',
    EventState.occur_getLsbD _ (Ev.source_lt (trunkIndex_source k))]
  exact ⟨rfl, by simp⟩

end

/-! ### What the loss leads to -/

section
variable {s : State} {k : Trunk} {r : Reply} (up : s.linkUp (.trunk k) = true)
include up

theorem exec_lossOfSignal_reset (reply : (s.trunk k).reply = some r) :
    exec (.lossOfSignal (.trunk k)) s = act ((s.trunkLost k).takeReset r.reset, []) := by
  rw [exec_lossOfSignal_trunk up, reply]
  rfl

/-- The FULL reset reads nothing of what the loss has changed. -/
theorem exec_lossOfSignal_full (reply : (s.trunk k).reply = some r) (full : r.reset = some .full) :
    exec (.lossOfSignal (.trunk k)) s = .next { s.hardReset .powerOn with resetCause := .requestFull } := by
  have ran : exec (.lossOfSignal (.trunk k)) s = act ((s.trunkLost k).hardReset .requestFull, []) := by
    rw [exec_lossOfSignal_reset up reply, full]
    rfl
  rw [ran, act, settle_hardReset, State.trunkLost_frame]
  rfl

theorem exec_lossOfSignal_line (reply : (s.trunk k).reply = some r) (line : r.reset = some .line) :
    Completes (.lossOfSignal (.trunk k)) s (LineReset (s.trunkLost k)) := by
  have ran : exec (.lossOfSignal (.trunk k)) s = act ((s.trunkLost k).lineReset, []) := by
    rw [exec_lossOfSignal_reset up reply, line]
    rfl
  exact ⟨_, ran, .settled (s.trunkLost k)⟩

/-- Without a reset that waits the act is the loss alone. -/
theorem begins_trunkLost (none : ∀ r, (s.trunk k).reply = some r → r.reset = .none) :
    Begins (.lossOfSignal (.trunk k)) s (s.trunkLost k) [] := by
  have reset : (s.trunk k).reply.bind Reply.reset = .none := Option.bind_eq_none_iff.2 none
  rw [Begins, exec_lossOfSignal_trunk up, reset]
  rfl

end

/-- Settles O59: a reset that waits is that of the state with the trunk lost, whose links, trunks and events the loss
alone decides. -/
theorem trunkLossEffects : Obligations.TrunkLossEffects := by
  refine ⟨fun s k r up reply => ⟨fun full => ?full, fun line => ?line⟩, fun s k up none => ?loss⟩
  case full => exact ⟨_, rfl, exec_lossOfSignal_full up reply full⟩
  case line =>
    obtain ⟨t, ran, reset⟩ := exec_lossOfSignal_line up reply line
    refine ⟨t, ran, ?_⟩
    have down := s.trunkLost_link_self k
    have self := s.trunkLost_trunk_self k
    have other := s.trunkLost_trunk_other k
    have mgmtTrunk := reset.mgmtTrunk.trans (s.trunkLost_mgmtTrunk k)
    have raw : (t.event Ev.trunkDown).raw.getLsbD (trunkIndex k) = (s.trunk k).hasBeenUp := by
      rw [reset.trunkDown, State.trunkLost_raw]
    have links (p : Port) (ne : p ≠ .trunk k) := (reset.link p).trans (s.trunkLost_link_ne k ne)
    have state : (t.link (.trunk k)).state = .down := by
      rw [reset.link, down]
      rfl
    have path : (t.trunk k).tx = .none := by
      refine reset.path k ?_ (by rw [self])
      rw [State.linkUp, down]
      rfl
    obtain ⟨requests, replies, discards⟩ := reset.port k
    obtain ⟨requests', replies', _⟩ := reset.port (otherTrunk k)
    rw [self] at requests replies discards
    rw [other] at requests' replies'
    obtain ⟨a, b, m, e, lost⟩ : ∃ a b m e, s.trunkLost k =
        { s with trunkA := a, trunkB := b, mgmtTrunk := m, events := e } := ⟨_, _, _, _, s.trunkLost_frame k⟩
    rw [lost] at reset
    refine ⟨reset.resetCause, fun i => (reset.pageAt i).1, reset.cells, fun l => ?lane, reset.chan, reset.banks,
      reset.genCounter, state, links, path, replies, requests, discards, requests', replies', mgmtTrunk,
      reset.partReset.1, raw⟩
    obtain ⟨fresh, rests, gen, cls, _⟩ := reset.laneFacts l
    exact ⟨fresh, rests, gen, cls⟩
  case loss =>
    obtain ⟨paper, tables, cause⟩ : SamePaper s (s.trunkLost k) ∧ SameTables s (s.trunkLost k)
        ∧ (s.trunkLost k).resetCause = s.resetCause := by
      rw [State.trunkLost_frame]
      exact ⟨⟨rfl, rfl, rfl, rfl, rfl, rfl⟩, ⟨rfl, rfl, rfl, rfl, rfl, rfl⟩, rfl⟩
    exact ⟨s.trunkLost k, begins_trunkLost up none, s.trunkLost_trunk_self k, s.trunkLost_trunk_other k,
      s.trunkLost_mgmtTrunk k, fun c cell => s.trunkLost_pending k, s.trunkLost_raw k, s.trunkLost_occurs k, paper,
      tables, cause⟩

end Sys2Proof.Machine
end


section
/-! The links of the ports (R198, R199): what writes one, how it goes DOWN and comes UP, and the commands that change
its state. -/

namespace Sys2Proof.Machine

/- One proof after another: every thread of a parallel elaboration reserves memory, which the check limits. -/
set_option Elab.async false

/-! ### Reading and writing a link -/

section
variable (s : State) (p : Port)

theorem State.setLink_link_self (x : Link) : (s.setLink p x).link p = x := by
  cases p <;> simp [State.setLink, State.link]

theorem State.setLink_link_ne {q : Port} (ne : q ≠ p) (x : Link) : (s.setLink p x).link q = s.link q := by
  match p, q with
  | .head l, .head m =>
    have other : l ≠ m := fun e => ne (congrArg Port.head e.symm)
    exact congrArg HeadPort.link (s.setHead_head_ne l m _ other)
  | .trunk k, .trunk j =>
    have other : k ≠ j := fun e => ne (congrArg Port.trunk e.symm)
    exact congrArg TrunkPort.link (s.setTrunk_trunk_ne k j _ other)
  | .head _, .trunk _ => rfl
  | .trunk k, .head l => exact congrArg HeadPort.link (s.setTrunk_head k _ l)

/-- Writing back the link that stands there changes nothing. -/
theorem State.setLink_self : s.setLink p (s.link p) = s := by
  cases p with
  | head l =>
    have same : s.heads.set l (s.head l) = s.heads := Vector.set_getElem_self l.isLt
    exact congrArg (fun heads => { s with heads := heads }) same
  | trunk k => cases k <;> rfl

/-- Of two writes to one link the second stands. -/
theorem State.setLink_setLink (x y : Link) : (s.setLink p x).setLink p y = s.setLink p y := by
  cases p with
  | head l => simp [State.setLink, State.setHead, State.head]
  | trunk k => cases k <;> rfl

@[simp] theorem State.setLink_mgmtTrunk (x : Link) : (s.setLink p x).mgmtTrunk = s.mgmtTrunk := by
  cases p <;> simp [State.setLink]

end

theorem State.linkUp_iff (s : State) (p : Port) : s.linkUp p = true ↔ (s.link p).state = .up := by
  rw [State.linkUp, beq_iff_eq]

theorem State.linkUp_eq_false_iff (s : State) (p : Port) : s.linkUp p = false ↔ (s.link p).state ≠ .up := by
  rw [Bool.eq_false_iff, ne_eq, State.linkUp_iff]

theorem State.linkUp_congr {s t : State} {p q : Port} (link : t.link q = s.link p) : t.linkUp q = s.linkUp p := by
  rw [State.linkUp, State.linkUp, link]

/-! ### A link after a valid cell (R198) -/

section
variable {x : Link}

theorem Link.validCell_of_down (down : x.state = .down) : x.validCell = x := by
  rw [Link.validCell, down]

theorem Link.validCell_of_training (training : x.state = .training) :
    x.validCell = { x with idleRun := 0, badRun := 0 } := by
  rw [Link.validCell, training]

theorem Link.validCell_of_up (up : x.state = .up) : x.validCell = { x with badRun := 0 } := by
  rw [Link.validCell, up]

end

/-! ### Going DOWN (R198) -/

/-- A link that is DOWN, with both runs at 0. -/
def Link.Lost (x : Link) : Prop := x.state = .down ∧ x.idleRun = 0 ∧ x.badRun = 0

theorem Link.toDown_lost (x : Link) : x.toDown.Lost := ⟨rfl, rfl, rfl⟩

theorem Link.reset_lost : Link.reset.Lost := ⟨rfl, rfl, rfl⟩

/-- A reset leaves a lost link lost: a hard reset as the link after POWER_ON, a line reset as it is (R191). -/
theorem State.takeReset_lost {s : State} {p : Port} (lost : (s.link p).Lost) (r : Option ResetKind) :
    ((s.takeReset r).link p).Lost := by
  match r with
  | none => exact lost
  | some .full =>
    rw [State.takeReset, State.hardReset_link]
    exact Link.reset_lost
  | some .line =>
    rw [State.takeReset, State.lineReset_link]
    exact lost

section
variable {s : State} {p : Port}

theorem goDown_of_not_up (down : (s.link p).state ≠ .up) (x : Link) : goDown p x s = (s.setLink p x.toDown, []) := by
  rw [goDown, (s.linkUp_eq_false_iff p).2 down]
  rfl

/-- What goes DOWN depends on whether the link was UP, and on nothing else that the link held. -/
theorem goDown_setLink {x : Link} (same : x.state = (s.link p).state) (y : Link) :
    goDown p y (s.setLink p x) = goDown p y s := by
  have up : (s.setLink p x).linkUp p = s.linkUp p := by
    rw [State.linkUp, State.setLink_link_self, same, State.linkUp]
  rw [goDown, goDown, up, State.setLink_setLink]

theorem exec_lossOfSignal (s : State) (p : Port) : exec (.lossOfSignal p) s = act (goDown p (s.link p) s) := rfl

theorem begins_lossOfSignal_of_not_up (down : (s.link p).state ≠ .up) :
    Begins (.lossOfSignal p) s (s.setLink p (s.link p).toDown) [] := by
  rw [Begins, exec_lossOfSignal, goDown_of_not_up down]
  rfl

end

/-- The act of a loss of signal begins with the link lost: it was not UP, or its blocks take the loss. -/
theorem exec_lossOfSignal_lost (s : State) (p : Port) :
    ∃ m : Move, exec (.lossOfSignal p) s = act m ∧ (m.1.link p).Lost := by
  by_cases up : (s.link p).state = .up
  case neg =>
    refine ⟨_, begins_lossOfSignal_of_not_up up, ?_⟩
    rw [State.setLink_link_self]
    exact Link.toDown_lost _
  case pos =>
    rw [← State.linkUp_iff] at up
    cases p with
    | head l =>
      refine ⟨_, exec_lossOfSignal_head up, ?_⟩
      rw [State.link, State.imagesLost_head_self]
      exact Link.toDown_lost _
    | trunk k =>
      refine ⟨_, exec_lossOfSignal_trunk up, State.takeReset_lost ?_ _⟩
      rw [State.trunkLost_link_self]
      exact Link.toDown_lost _

theorem completes_lossOfSignal (s : State) (p : Port) : Completes (.lossOfSignal p) s fun t => (t.link p).Lost := by
  obtain ⟨m, ran, lost⟩ := exec_lossOfSignal_lost s p
  refine ⟨settle m, ran, ?_⟩
  rwa [← (settle_settled m).link p] at lost

/-! ### Coming UP (R189, R192, R198) -/

/-- A trunk has been UP, and is the management trunk unless another that is UP is it; TRUNK_DOWN is still as it
was. -/
def State.trunkTaken (s : State) (k : Trunk) : State :=
  { s.setTrunk k { s.trunk k with hasBeenUp := true } with
    mgmtTrunk := if s.linkUp (.trunk s.mgmtTrunk) && s.mgmtTrunk != k then s.mgmtTrunk else k }

section
variable (s : State)

theorem State.trunkUp_eq (k : Trunk) : s.trunkUp k = (s.trunkTaken k).evalTrunkDown k := by
  rw [State.trunkUp, State.trunkTaken]
  split_ifs
  · cases k <;> rfl
  · rfl

theorem State.trunkTaken_trunk_self (k : Trunk) :
    (s.trunkTaken k).trunk k = { s.trunk k with hasBeenUp := true } := s.setTrunk_trunk_self k _

theorem State.trunkTaken_link (k : Trunk) (p : Port) : (s.trunkTaken k).link p = s.link p := by
  match p, k with
  | .head _, .a | .head _, .b => rfl
  | .trunk .a, .a | .trunk .a, .b | .trunk .b, .a | .trunk .b, .b => rfl

theorem State.trunkUp_frame (k : Trunk) : s.trunkUp k =
    { s.trunkTaken k with events := (s.trunkUp k).events } := by
  rw [State.trunkUp_eq]
  exact State.setRaw_frame _ _ _ _

theorem State.portUp_frame (p : Port) : s.portUp p = { s with
    trunkA := (s.portUp p).trunkA, trunkB := (s.portUp p).trunkB, mgmtTrunk := (s.portUp p).mgmtTrunk
    events := (s.portUp p).events } := by
  cases p with
  | head l =>
    rw [State.portUp, State.evalHeadDown_frame]
  | trunk k =>
    rw [State.portUp, State.trunkUp_frame]
    cases k <;> rfl

/-- The blocks that take a port's becoming UP leave every link as it is. -/
theorem State.portUp_link (p q : Port) : (s.portUp p).link q = s.link q := by
  cases p with
  | head l =>
    rw [State.portUp, State.evalHeadDown_frame]
    cases q <;> rfl
  | trunk k =>
    rw [State.portUp, State.trunkUp_frame, ← State.trunkTaken_link s k q]
    cases q <;> rfl

theorem State.trunkUp_mgmtTrunk (k : Trunk) : (s.trunkUp k).mgmtTrunk =
    if s.linkUp (.trunk s.mgmtTrunk) && s.mgmtTrunk != k then s.mgmtTrunk else k := by
  rw [State.trunkUp_frame]
  rfl

theorem State.trunkUp_hasBeenUp (k : Trunk) : ((s.trunkUp k).trunk k).hasBeenUp = true := by
  rw [State.trunkUp_frame]
  exact congrArg TrunkPort.hasBeenUp (s.trunkTaken_trunk_self k)

end

section
variable {s : State}

/-- HEAD_DOWN of a lane is low while its head link is UP (R102). -/
theorem State.evalHeadDown_of_up {l : LaneId} (up : s.linkUp (.head l) = true) :
    ((s.evalHeadDown l).event Ev.headDown).raw.getLsbD l.val = false := by
  rw [State.evalHeadDown, State.setRaw_raw _ (Ev.lane_source (by decide) l), up]
  exact Bool.and_false _

/-- TRUNK_DOWN of a trunk is low while its link is UP (R192). -/
theorem State.trunkUp_trunkDown {k : Trunk} (up : s.linkUp (.trunk k) = true) :
    ((s.trunkUp k).event Ev.trunkDown).raw.getLsbD (trunkIndex k) = false := by
  have up' : (s.trunkTaken k).linkUp (.trunk k) = true := by rwa [State.linkUp_congr (s.trunkTaken_link k (.trunk k))]
  rw [State.trunkUp_eq, State.evalTrunkDown, State.setRaw_raw _ (trunkIndex_source k), up']
  exact Bool.and_false _

end

/-! ### The commands (R198, R199) -/

section
variable {s : State} {p : Port}

theorem exec_signalDetected_of_down (down : (s.link p).state = .down) : exec (.signalDetected p) s =
    .next (s.setLink p { s.link p with state := .training, idleRun := 0, badRun := 0 }) := if_pos down

theorem exec_signalDetected_of_not_down (other : (s.link p).state ≠ .down) : exec (.signalDetected p) s = .next s :=
  if_neg other

theorem exec_cellDiscarded (s : State) (p : Port) :
    exec (.cellDiscarded p) s = .next (s.setLink p (s.link p).validCell) := rfl

theorem exec_idleCellReceived (s : State) (p : Port) :
    exec (.idleCellReceived p) s = execIdleCellReceived p s := rfl

theorem exec_idleCellReceived_of_down (down : (s.link p).state = .down) : exec (.idleCellReceived p) s = .next s := by
  rw [exec_idleCellReceived, execIdleCellReceived, down]

theorem exec_idleCellReceived_of_up (up : (s.link p).state = .up) :
    exec (.idleCellReceived p) s = .next (s.setLink p { s.link p with badRun := 0 }) := by
  rw [exec_idleCellReceived, execIdleCellReceived, up]

/-- Up to the seventh valid IDLE cell in a row the run counts. -/
theorem exec_idleCellReceived_counted (training : (s.link p).state = .training) (run : (s.link p).idleRun < 7) :
    exec (.idleCellReceived p) s
      = .next (s.setLink p { s.link p with idleRun := (s.link p).idleRun + 1, badRun := 0 }) := by
  rw [exec_idleCellReceived, execIdleCellReceived, training]
  exact if_pos (Nat.add_lt_add_right run 1)

/-- The link has become UP at the eighth valid IDLE cell in a row, and what depends on its port has taken that. -/
def State.trained (s : State) (p : Port) : State :=
  (s.setLink p { s.link p with state := .up, idleRun := 8, badRun := 0 }).portUp p

theorem begins_idleCellReceived_eighth (training : (s.link p).state = .training) (run : (s.link p).idleRun = 7) :
    Begins (.idleCellReceived p) s (s.trained p) [] := by
  rw [Begins, exec_idleCellReceived, execIdleCellReceived, training, run]
  rfl

theorem exec_badCellReceived (s : State) (p : Port) : exec (.badCellReceived p) s = execBadCellReceived p s := rfl

theorem exec_badCellReceived_of_down (down : (s.link p).state = .down) : exec (.badCellReceived p) s = .next s := by
  rw [exec_badCellReceived, execBadCellReceived, down]

/-- TRAINING and UP count a bad cell alike. -/
theorem exec_badCellReceived_of_not_down (other : (s.link p).state ≠ .down) : exec (.badCellReceived p) s =
    if (s.link p).badRun + 1 < 4 then .next (s.setLink p (s.link p).bad) else act (goDown p (s.link p).bad s) := by
  rw [exec_badCellReceived, execBadCellReceived]
  cases state : (s.link p).state with
  | down => exact absurd state other
  | training => rfl
  | up => rfl

theorem exec_badCellReceived_counted (other : (s.link p).state ≠ .down) (run : (s.link p).badRun < 3) :
    exec (.badCellReceived p) s = .next (s.setLink p (s.link p).bad) := by
  rw [exec_badCellReceived_of_not_down other]
  exact if_pos (Nat.add_lt_add_right run 1)

theorem exec_badCellReceived_fourth (other : (s.link p).state ≠ .down) (run : 3 ≤ (s.link p).badRun) :
    exec (.badCellReceived p) s = act (goDown p (s.link p).bad s) := by
  rw [exec_badCellReceived_of_not_down other]
  exact if_neg (by omega)

theorem begins_badCellReceived_fourth (training : (s.link p).state = .training) (run : 3 ≤ (s.link p).badRun) :
    Begins (.badCellReceived p) s (s.setLink p (s.link p).bad.toDown) [] := by
  rw [Begins, exec_badCellReceived_fourth (by simp [training]) run, goDown_of_not_up (by simp [training])]
  rfl

/-- In UP the fourth bad cell in a row is a loss of signal on the link with its receive error counted. -/
theorem exec_badCellReceived_loses (up : (s.link p).state = .up) (run : 3 ≤ (s.link p).badRun) :
    exec (.badCellReceived p) s
      = exec (.lossOfSignal p) (s.setLink p { s.link p with errors := min 65535 ((s.link p).errors + 1) }) := by
  rw [exec_badCellReceived_fourth (by simp [up]) run, exec_lossOfSignal, State.setLink_link_self,
    goDown_setLink (by exact rfl)]
  rfl

/-- Every cell that a DOWN link receives changes nothing (log 2). -/
theorem completes_cell_of_down {i : Instr} (down : (s.link p).state = .down)
    (cell : i = .idleCellReceived p ∨ i = .badCellReceived p ∨ i = .cellDiscarded p) :
    Completes i s fun t => t = s := by
  rcases cell with rfl | rfl | rfl
  · exact ⟨s, exec_idleCellReceived_of_down down, rfl⟩
  · exact ⟨s, exec_badCellReceived_of_down down, rfl⟩
  · refine ⟨_, exec_cellDiscarded s p, ?_⟩
    rw [Link.validCell_of_down down, State.setLink_self]

/-- A valid cell in UP ends the run of bad cells, and leaves the valid-IDLE run as it is (log 22). -/
theorem completes_validCell_of_up {i : Instr} (up : (s.link p).state = .up)
    (cell : i = .idleCellReceived p ∨ i = .cellDiscarded p) :
    Completes i s fun t => t = s.setLink p { s.link p with badRun := 0 } := by
  rcases cell with rfl | rfl
  · exact ⟨_, exec_idleCellReceived_of_up up, rfl⟩
  · refine ⟨_, exec_cellDiscarded s p, ?_⟩
    rw [Link.validCell_of_up up]

end

/-! ### The state with the link trained -/

theorem State.trained_link_self (s : State) (p : Port) :
    (s.trained p).link p = { s.link p with state := .up, idleRun := 8, badRun := 0 } := by
  rw [State.trained, State.portUp_link, State.setLink_link_self]

theorem State.trained_link_ne {s : State} {p q : Port} (ne : q ≠ p) : (s.trained p).link q = s.link q := by
  rw [State.trained, State.portUp_link, State.setLink_link_ne _ _ ne]

theorem State.trained_lanes (s : State) (p : Port) : (s.trained p).lanes = s.lanes := by
  rw [State.trained, State.portUp_frame]
  exact State.setLink_lanes _ _ _

theorem State.trained_entries (s : State) (p : Port) : (s.trained p).entries = s.entries := by
  rw [State.trained, State.portUp_frame]
  exact State.setLink_entries _ _ _

/-- The port is UP when the blocks that depend on it take that. -/
theorem State.setLink_linkUp (s : State) (p : Port) {x : Link} (up : x.state = .up) :
    (s.setLink p x).linkUp p = true := by
  rw [State.linkUp_iff, State.setLink_link_self, up]

theorem State.trained_head (s : State) (l : LaneId) :
    ((s.trained (.head l)).event Ev.headDown).raw.getLsbD l.val = false
      ∧ (s.trained (.head l)).mgmtTrunk = s.mgmtTrunk := by
  refine ⟨State.evalHeadDown_of_up (s.setLink_linkUp (.head l) rfl), ?_⟩
  rw [State.trained, State.portUp, State.evalHeadDown_frame]
  exact s.setLink_mgmtTrunk _ _

/-- A management trunk that is UP stays it; the trunk that is trained was not UP (R189). -/
theorem State.trained_mgmtTrunk {s : State} {k : Trunk} (down : s.linkUp (.trunk k) = false) :
    (s.trained (.trunk k)).mgmtTrunk = if s.linkUp (.trunk s.mgmtTrunk) then s.mgmtTrunk else k := by
  rw [State.trained, State.portUp, State.trunkUp_mgmtTrunk, State.setLink_mgmtTrunk]
  by_cases same : s.mgmtTrunk = k
  · simp [same, down]
  · have ne : Port.trunk s.mgmtTrunk ≠ .trunk k := by simpa using same
    rw [State.linkUp_congr (s.setLink_link_ne _ ne _), bne_iff_ne.2 same, Bool.and_true]

theorem State.trained_trunk {s : State} {k : Trunk} (down : s.linkUp (.trunk k) = false) :
    ((s.trained (.trunk k)).trunk k).hasBeenUp = true
      ∧ ((s.trained (.trunk k)).event Ev.trunkDown).raw.getLsbD (trunkIndex k) = false
      ∧ (s.trained (.trunk k)).mgmtTrunk = (if s.linkUp (.trunk s.mgmtTrunk) then s.mgmtTrunk else k) :=
  ⟨State.trunkUp_hasBeenUp _ k, State.trunkUp_trunkDown (s.setLink_linkUp (.trunk k) rfl), State.trained_mgmtTrunk down⟩

/-- Settles O58: the transitions by the state of the link, a loss of signal in any of them. -/
theorem linkStatesChange : Obligations.LinkStatesChange := by
  intro s p
  refine ⟨fun down => ⟨?signal, fun i => completes_cell_of_down down⟩, fun other => ?noSignal,
    begins_lossOfSignal_of_not_up, completes_lossOfSignal s p,
    fun training => ⟨fun run => ?counted, fun run => ?eighth, ?afresh, begins_badCellReceived_fourth training⟩,
    fun up => ⟨fun i => completes_validCell_of_up up, exec_badCellReceived_loses up⟩, fun other run => ?bad⟩
  case signal => exact ⟨_, exec_signalDetected_of_down down, rfl⟩
  case noSignal => exact ⟨s, exec_signalDetected_of_not_down other, rfl⟩
  case counted => exact ⟨_, exec_idleCellReceived_counted training run, rfl⟩
  case eighth =>
    have down : s.linkUp p = false := (s.linkUp_eq_false_iff p).2 (by simp [training])
    refine ⟨s.trained p, begins_idleCellReceived_eighth training run, s.trained_link_self p,
      fun q => State.trained_link_ne, s.trained_lanes p, s.trained_entries p, fun l head => ?_, fun k trunk => ?_⟩
    · subst head
      exact s.trained_head l
    · subst trunk
      exact State.trained_trunk down
  case afresh =>
    refine ⟨_, exec_cellDiscarded s p, ?_⟩
    rw [Link.validCell_of_training training]
  case bad => exact ⟨_, exec_badCellReceived_counted other run, rfl⟩

end Sys2Proof.Machine
end

section
/-! One step of the machine: the command at the front of the queue, and one ms on an empty queue (log 1). -/

namespace Sys2Proof.Machine

/-- A step on an empty queue is a tick (log 1). -/
theorem step_of_empty {s : State} (empty : s.pending = []) : step s = .next s.tick := by
  rw [step, empty]

/-- Settles O1: this is how a step is defined on a queue that is not empty. -/
theorem stepRunsFrontCommand : Obligations.StepRunsFrontCommand := fun _ _ _ => rfl

/-! ### One ms (log 1) -/

/-- A timer that does not run stays so; the others lose one ms. -/
theorem tickDown_eq_map (timer : Option Nat) : tickDown timer = timer.map (· - 1) := by
  cases timer <;> rfl

theorem Lane.tick_eq (x : Lane) : x.tick = { x with
    misfeedTimer := x.misfeedTimer.map (· - 1), retryWait := x.retryWait.map (· - 1)
    runoutTimer := x.runoutTimer.map (· - 1)
    batch := { x.batch with waitTimer := x.batch.waitTimer.map (· + 1) } } := by
  simp only [Lane.tick, Batch.tick, tickDown_eq_map]

theorem Entry.tick_eq (e : Entry) : e.tick =
    { e with page := e.page.map fun p => { p with imageTimer := p.imageTimer.map (· - 1) } } := by
  simp only [Entry.tick, tickDown_eq_map]

theorem Channel.tick_eq (x : Channel) : x.tick = { x with pauseTimer := x.pauseTimer.map (· - 1) } := by
  rw [Channel.tick, tickDown_eq_map]

theorem State.tick_lane (s : State) (l : LaneId) : s.tick.lane l = (s.lane l).tick := by
  simp [State.tick, State.lane]

theorem State.tick_entry (s : State) (i : Fin 64) : s.tick.entry i = (s.entry i).tick := by
  simp [State.tick, State.entry]

theorem State.tick_chan (s : State) (c : ChanId) : s.tick.chan c = (s.chan c).tick := by
  simp [State.tick, State.chan]

/-- Time brings no generation to a bank, and takes none from it. -/
theorem State.tick_pendingGen (s : State) : s.tick.pendingGen = s.pendingGen := by
  simp only [State.pendingGen, State.tick]
  cases s.otherRole <;> rfl

/-- Settles O2: the state after the step is the tick, which maps each lane, entry and channel and the role of the bank
that is not ACTIVE. -/
theorem emptyQueueTicks : Obligations.EmptyQueueTicks := by
  intro s empty
  refine ⟨s.tick, step_of_empty empty, rfl, fun l => ?lane, fun i => ?entry, fun c => ?channel, s.tick_pendingGen,
    fun shadow => ?shadow, fun n retired => ?retired⟩
  case lane => rw [State.tick_lane, Lane.tick_eq]
  case entry => rw [State.tick_entry, Entry.tick_eq, State.pageAt]
  case channel => rw [State.tick_chan, Channel.tick_eq]
  case shadow =>
    rw [State.tick, shadow]
    rfl
  case retired =>
    rw [State.tick, retired]
    rfl

end Sys2Proof.Machine
end

section
/-! The waiting commands: no operation of the part touches them, so every command leaves them as they were. -/

namespace Sys2Proof.Machine

/- One proof after another: every thread of a parallel elaboration reserves memory, which the check limits. -/
set_option Elab.async false

/-! ### Operations that reach beside the lanes -/

section
variable (s : State)

@[simp] theorem State.occur_queue (c : Fin 20) (src : Nat) : (s.occur c src).pending = s.pending := by
  rw [State.occur_frame]

@[simp] theorem State.setRaw_queue (c : Fin 20) (src : Nat) (level : Bool) :
    (s.setRaw c src level).pending = s.pending := by
  rw [State.setRaw_frame]

@[simp] theorem State.freeEntry_queue (i : Fin 64) : (s.freeEntry i).pending = s.pending := by
  rw [State.freeEntry_frame]

@[simp] theorem State.setLink_queue (p : Port) (x : Link) : (s.setLink p x).pending = s.pending := by
  cases p with
  | head l => rfl
  | trunk k => exact s.setTrunk_pending k _

@[simp] theorem State.freePath_queue (k : Trunk) : (s.freePath k).pending = s.pending := s.setTrunk_pending k _

@[simp] theorem State.portUp_queue (p : Port) : (s.portUp p).pending = s.pending := by
  rw [State.portUp_frame]

@[simp] theorem State.trunkLoss_queue (k : Trunk) : (s.trunkLoss k).pending = s.pending := by
  rw [State.trunkLoss_frame]

/-- A line reset keeps the waiting commands: what it clears is the part's. -/
@[simp] theorem State.lineReset_queue : s.lineReset.pending = s.pending := by
  rw [State.lineReset_frame]
  rfl

@[simp] theorem State.takeReset_queue (reset : Option ResetKind) : (s.takeReset reset).pending = s.pending := by
  match reset with
  | none => rfl
  | some .full => rfl
  | some .line => exact s.lineReset_queue

@[simp] theorem State.staleCell_queue (l : LaneId) : (s.staleCell l).pending = s.pending := by
  rw [State.staleCell_frame]

@[simp] theorem State.truncateData_queue (i : Fin 64) (l : LaneId) : (s.truncateData i l).pending = s.pending :=
  State.occur_queue _ _ _

@[simp] theorem State.abortImage_queue (i : Fin 64) (l : LaneId) : (s.abortImage i l).pending = s.pending :=
  State.occur_queue _ _ _

@[simp] theorem State.giveUpPick_queue (l : LaneId) (i : Fin 64) : (s.giveUpPick l i).pending = s.pending :=
  ((Kept.refl s).giveUpPick l i).pending

@[simp] theorem State.toRampUp_queue (l : LaneId) : (s.toRampUp l).pending = s.pending :=
  ((Kept.refl s).toRampUp l).pending

@[simp] theorem State.toRest_queue (l : LaneId) : (s.toRest l).pending = s.pending :=
  ((Kept.refl s).toRest l).pending

/-- No sub-act touches the waiting commands. -/
@[simp] theorem handle_queue (task : Task) : (handle task s).1.pending = s.pending := (Kept.handle task s).pending

end

/-! ### The links -/

section
variable (s : State)

theorem headLeavesUp_queue (l : LaneId) : (headLeavesUp l s).1.pending = s.pending := by
  rw [headLeavesUp, State.evalHeadDown, State.setRaw_queue]
  exact foldl_field State.pending (fun u i => u.modPage i Page.closeTruncated) (fun _ _ => rfl) _ s

theorem portLoss_queue (p : Port) : (portLoss p s).1.pending = s.pending := by
  cases p with
  | head l => exact headLeavesUp_queue _ l
  | trunk k => exact (State.takeReset_queue _ _).trans (s.trunkLoss_queue k)

theorem goDown_queue (p : Port) (x : Link) : (goDown p x s).1.pending = s.pending := by
  have down : (s.setLink p x.toDown).pending = s.pending := s.setLink_queue p _
  unfold goDown
  dsimp only
  split_ifs
  · exact (portLoss_queue _ p).trans down
  · exact down

/-! ### The cells that a port delivers -/

theorem takeData_queue (l : LaneId) (token : Nat) (payload : List Byte) :
    (takeData l token payload s).1.pending = s.pending := by
  unfold takeData
  split
  · exact s.staleCell_queue l
  · split_ifs
    · rfl
    · exact s.truncateData_queue _ l
    · split
      · exact s.truncateData_queue _ l
      · rfl

theorem takeClose_queue (l : LaneId) (token : Nat) (mark : BitVec 4) (blank : Bool) (ticket : Option (List Byte)) :
    (takeClose l token mark blank ticket s).1.pending = s.pending := by
  unfold takeClose
  split
  · exact s.staleCell_queue l
  · dsimp only
    split_ifs
    · exact State.truncateData_queue _ _ l
    · rfl

theorem takeAbort_queue (l : LaneId) (token : Nat) : (takeAbort l token s).1.pending = s.pending := by
  unfold takeAbort
  split
  · exact s.staleCell_queue l
  · exact s.abortImage_queue _ l

theorem takeRequest_queue (k : Trunk) (r : Request) : (takeRequest k r s).1.pending = s.pending := by
  unfold takeRequest
  split_ifs <;> exact s.setTrunk_pending k _

theorem takePause_queue (k : Trunk) (n : Nat) (timer : Option Nat) :
    (takePause k n timer s).1.pending = s.pending := by
  unfold takePause
  split <;> rfl

/-! ### Lanes and timers -/

theorem forwardStep_queue (l : LaneId) (a : BitVec 10) : (forwardStep l a s).1.pending = s.pending := by
  unfold forwardStep
  dsimp only
  split_ifs <;> rfl

theorem reverseStep_queue (l : LaneId) : (reverseStep l s).1.pending = s.pending := by
  unfold reverseStep
  split_ifs <;> rfl

theorem trayChange_queue (l : LaneId) (paper : Bool) : (trayChange l paper s).1.pending = s.pending := by
  unfold trayChange
  dsimp only
  split_ifs <;> rfl

theorem misfeedExhausted_queue (l : LaneId) (i : Fin 64) : (misfeedExhausted l i s).1.pending = s.pending := by
  have failed : ((s.giveUpPick l i).occur Ev.feedFailure l.val).pending = s.pending := by simp
  unfold misfeedExhausted
  dsimp only
  split_ifs <;> exact failed

theorem misfeedExpiry_queue (l : LaneId) : (misfeedExpiry l s).1.pending = s.pending := by
  unfold misfeedExpiry
  split
  · split_ifs
    · rfl
    · exact misfeedExhausted_queue s l _
    · exact misfeedExhausted_queue s l _
    · rfl
  · rfl

theorem retryEnd_queue (l : LaneId) : (retryEnd l s).1.pending = s.pending := by
  unfold retryEnd
  split
  · split_ifs
    · rfl
    · exact (((Kept.refl s).giveUpPick l _).trayFoundEmpty l).pending
    · rfl
  · rfl

theorem runoutExpiry_queue (l : LaneId) : (runoutExpiry l s).1.pending = s.pending := by
  unfold runoutExpiry
  split_ifs
  · exact handle_queue s (.jam l .runoutTimeout)
  · rfl

theorem imageExpiry_queue (token : Nat) : (imageExpiry token s).1.pending = s.pending := by
  unfold imageExpiry
  split
  · rfl
  · split_ifs
    · exact s.abortImage_queue _ _
    · rfl

theorem pauseExpiry_queue (c : ChanId) : (pauseExpiry c s).1.pending = s.pending := by
  unfold pauseExpiry
  split_ifs
  · exact State.occur_queue _ _ _
  · rfl

theorem waitExpiry_queue (l : LaneId) : (waitExpiry l s).1.pending = s.pending := by
  unfold waitExpiry
  split
  · split_ifs
    · rfl
    · exact State.setRaw_queue _ _ _ _
  · rfl

theorem copyComplete_queue : (copyComplete s).1.pending = s.pending := by
  unfold copyComplete
  split_ifs
  · exact State.occur_queue _ _ _
  · rfl

theorem copyDone_queue (token : Nat) : (s.copyDone token).1.pending = s.pending := by
  unfold State.copyDone
  split
  · rfl
  · split_ifs
    · exact s.freeEntry_queue _
    · rfl

theorem cellSent_queue (c : ChanId) : (cellSent c s).1.pending = s.pending := by
  unfold cellSent
  split
  · rfl
  · dsimp only
    split_ifs
    · exact copyDone_queue _ _
    · rfl

/-! ### What the requests ask for -/

theorem startLane_queue (l : LaneId) : (startLane l s).1.1.pending = s.pending := by
  unfold startLane
  split_ifs
  · rfl
  · split
    case h_1 => exact State.toRampUp_queue _ l
    case h_3 => exact s.toRampUp_queue l
    all_goals rfl

theorem clearLane_queue (l : LaneId) : (clearLane l s).1.1.pending = s.pending := by
  unfold clearLane
  split_ifs
  · exact s.toRest_queue l
  · rfl

theorem acceptPage_queue (token : Nat) : (acceptPage token s).1.1.pending = s.pending := by
  unfold acceptPage
  split <;> rfl

theorem dropPage_queue (token : Nat) : (dropPage token s).1.1.pending = s.pending := by
  unfold dropPage
  split
  · rfl
  · exact s.freeEntry_queue _

theorem rescanPage_queue (token n : Nat) : (rescanPage token n s).1.1.pending = s.pending := by
  unfold rescanPage
  split_ifs
  · rfl
  · split
    · rfl
    · split_ifs
      · rfl
      · exact s.freeEntry_queue _

theorem cancelSlot_queue (l : LaneId) (pos : SeqPos) : (cancelSlot l pos s).1.1.pending = s.pending := by
  unfold cancelSlot
  split_ifs <;> rfl

theorem loadTable_queue (table index : Nat) (record : List Byte) :
    (loadTable table index record s).1.1.pending = s.pending := by
  unfold loadTable
  split
  · rfl
  · split_ifs
    · rfl
    · split
      · rfl
      · split <;> rfl

theorem commitTables_queue (mode : Nat) : (commitTables mode s).1.1.pending = s.pending := by
  unfold commitTables
  split_ifs
  · rfl
  · split
    · rfl
    · rfl
    · split <;> rfl

end

/-! ### The bodies of the requests -/

/-- The commands `q` wait. -/
def Queued (q : List Instr) (s : State) : Prop := s.pending = q

section
open KeptByCommands (Body)

variable (q : List Instr)

theorem queued_tableLoad : Body (Queued q) bodyTableLoad := by
  intro bs s h
  unfold bodyTableLoad
  split_ifs
  · exact h
  · exact (loadTable_queue s _ _ _).trans h

theorem queued_slotCancel : Body (Queued q) bodySlotCancel := by
  refine .sized 6 fun bs s h => ?_
  split
  · split_ifs
    · exact h
    · exact (cancelSlot_queue s _ _).trans h
  · exact h

theorem queued_partReset (k : Nat) (reset : ResetKind) : Body (Queued q) (bodyPartReset k reset) := by
  refine .sized 1 fun bs s h => ?_
  split_ifs <;> exact h

theorem queued_eventSet : Body (Queued q) bodyEventSet := by
  refine .sized 3 fun bs s h => ?_
  split
  · split <;> exact h
  · exact h

theorem queued_eventClear : Body (Queued q) bodyEventClear := by
  refine .sized 3 fun bs s h => ?_
  split
  · split_ifs <;> exact h
  · exact h

end

/-! ### The outcome of a command -/

/-- The outcome is a next state, in which the commands wait that waited in `s`. -/
def KeepsQueue (s : State) (o : Host.Outcome State Fault Refusal) : Prop := ∃ t, o = .next t ∧ Queued s.pending t

namespace KeepsQueue

variable {s t : State}

theorem next (same : t.pending = s.pending := by simp) : KeepsQueue s (.next t) := ⟨t, rfl, same⟩

/-- The sub-acts and the transmit slots of an act touch no waiting command. -/
theorem act {m : Move} (same : m.1.pending = s.pending := by simp) : KeepsQueue s (Machine.act m) :=
  ⟨settle m, rfl, (settle_settled m).pending.trans same⟩

theorem deliver (p : Port) {f : State → Move} (same : ∀ u, (f u).1.pending = u.pending) :
    KeepsQueue s (Machine.deliver p f s) := by
  have received : (s.setLink p (s.link p).validCell).pending = s.pending := s.setLink_queue p _
  unfold Machine.deliver
  split_ifs
  · exact act ((same _).trans received)
  · exact next received

theorem serve (want : Request → Bool) {body : List Byte → State → Answer}
    (same : KeptByCommands.Body (Queued s.pending) body) : KeepsQueue s (Machine.serve want body s) := by
  unfold Machine.serve
  split
  · exact next
  · rename_i k r _
    split_ifs
    · have taken : Queued s.pending (s.takeOff k) := s.setTrunk_pending k _
      exact act ((State.setTrunk_pending _ k _).trans (same r.payload taken))
    · exact next

/-! ### Commands that look at the state first -/

theorem signalDetected (p : Port) : KeepsQueue s (execSignalDetected p s) := by
  unfold execSignalDetected
  split_ifs <;> exact next

theorem idleCellReceived (p : Port) : KeepsQueue s (execIdleCellReceived p s) := by
  unfold execIdleCellReceived
  split
  · exact next
  · split_ifs
    · exact next
    · exact act
  · exact next

theorem badCellReceived (p : Port) : KeepsQueue s (execBadCellReceived p s) := by
  by_cases down : (s.link p).state = .down
  · rw [← exec_badCellReceived, exec_badCellReceived_of_down down]
    exact next
  · rw [← exec_badCellReceived, exec_badCellReceived_of_not_down down]
    split_ifs
    · exact next
    · exact act (goDown_queue s p _)

theorem speedControlPeriod (l : LaneId) : KeepsQueue s (execSpeedControlPeriod l s) := by
  unfold execSpeedControlPeriod
  split
  · exact act
  · exact next

theorem channelCellSent (k : Trunk) : KeepsQueue s (execChannelCellSent k s) := by
  unfold execChannelCellSent
  split
  · exact act ((cellSent_queue _ _).trans (s.freePath_queue k))
  · exact act
  all_goals exact next

theorem replySent (k : Trunk) : KeepsQueue s (execReplySent k s) := by
  unfold execReplySent
  split
  · exact act
  all_goals exact next

theorem reportSent (k : Trunk) : KeepsQueue s (execReportSent k s) := by
  unfold execReportSent
  split
  · exact act
  all_goals exact next

/-! ### Each command -/

theorem exec (i : Instr) (s : State) : KeepsQueue s (Machine.exec i s) := by
  cases i with
  | powerOn => exact next rfl
  | resetPin => exact next rfl
  | signalDetected p => exact signalDetected p
  | lossOfSignal p => exact act (goDown_queue s p _)
  | idleCellReceived p => exact idleCellReceived p
  | badCellReceived p => exact badCellReceived p
  | cellDiscarded p => exact next (s.setLink_queue p _)
  | data l token payload => exact deliver _ fun u => takeData_queue u l _ payload
  | close l token mark blank ticket => exact deliver _ fun u => takeClose_queue u l _ mark blank ticket
  | abort l token => exact deliver _ fun u => takeAbort_queue u l _
  | request k kind tag payload => exact deliver _ fun u => takeRequest_queue u k _
  | pauseOn k channel => exact deliver _ fun u => takePause_queue u k _ _
  | pauseOff k channel => exact deliver _ fun u => takePause_queue u k _ _
  | tableLoad => exact serve _ (queued_tableLoad _)
  | tableCommit => exact serve _ (.sized 1 fun _ u h => (commitTables_queue u _).trans h)
  | tableRead => exact serve _ (.sized 3 fun _ _ h => h)
  | laneStart => exact serve _ (.lane fun l u h => (startLane_queue u l).trans h)
  | laneStop => exact serve _ (.lane fun l u h => (handle_queue u (.enterRunout l)).trans h)
  | laneHalt => exact serve _ (.lane fun l u h => (handle_queue u (.jam l .halt)).trans h)
  | laneClear => exact serve _ (.lane fun l u h => (clearLane_queue u l).trans h)
  | pageResolveAccept => exact serve _ (.resolve 0 fun token _ u h => (acceptPage_queue u token).trans h)
  | pageResolveDrop => exact serve _ (.resolve 1 fun token _ u h => (dropPage_queue u token).trans h)
  | pageResolveRescan => exact serve _ (.resolve 2 fun token n u h => (rescanPage_queue u token n).trans h)
  | slotCancel => exact serve _ (queued_slotCancel _)
  | statusRead => exact serve _ (.sized 2 fun _ _ h => h)
  | partResetFull => exact serve _ (queued_partReset _ 0 .full)
  | partResetLine => exact serve _ (queued_partReset _ 1 .line)
  | eventSet => exact serve _ (queued_eventSet _)
  | eventClear => exact serve _ (queued_eventClear _)
  | unknownRequest => exact serve Request.isUnknown (body := fun _ u => .refuse u .unknown) fun _ _ h => h
  | encoderForwardStep l a => exact act (forwardStep_queue s l a)
  | encoderReverseStep l => exact act (reverseStep_queue s l)
  | entrySensorChange l blocked => exact next rfl
  | traySensorChange l paper => exact act (trayChange_queue s l paper)
  | speedControlPeriod l => exact speedControlPeriod l
  | misfeedTimerExpiry l => exact act (misfeedExpiry_queue s l)
  | retryWaitEnd l => exact act (retryEnd_queue s l)
  | runoutTimerExpiry l => exact act (runoutExpiry_queue s l)
  | imageTimerExpiry token => exact act (imageExpiry_queue s _)
  | pauseTimerExpiry c => exact act (pauseExpiry_queue s c)
  | waitTimerExpiry l => exact act (waitExpiry_queue s l)
  | bankCopyComplete => exact act (copyComplete_queue s)
  | channelCellSent k => exact channelCellSent k
  | replySent k => exact replySent k
  | reportSent k => exact reportSent k
  | headCellSent l => exact next rfl

end KeepsQueue

/-- Settles O3: each command gives a next state or begins an act, and neither its own effect nor the act's sub-acts and
transmit slots touch the waiting commands. -/
theorem everyCommandAnswersNext : Obligations.EveryCommandAnswersNext := fun i s => KeepsQueue.exec i s

end Sys2Proof.Machine
end
